-- ==== Sys2Proof/Config.lean ====
section
/-! DEFINITION. The numbers the manual fixes for the part: sizes, defaults, constants. Nothing here is a free value:
the manual states every result it gives an operation (NOTES.md, Assumptions). -/

namespace Sys2Proof.Config

/-- The branch records, indexes 0 to 47 (01, R1). -/
def branchCount : Nat := 48
/-- The slot map's entries, positions 0 to 63 (02, R23). -/
def slotCount : Nat := 64
/-- The chiller ladder's positions (06, R95). -/
def chillerPositions : Nat := 8
/-- The pump ladder's positions (06, R95). -/
def pumpPositions : Nat := 6
/-- The event list's records (10, R166). -/
def eventCapacity : Nat := 64
/-- The records one READ EVENTS removes at most (10, R167). -/
def eventsPerRead : Nat := 8
/-- The open-slot queue's entries (02, R35). -/
def passCapacity : Nat := 4
/-- The slot position of the open slot (02, R29). -/
def openPosition : Nat := 64
/-- The slot position from cycle end to the next cycle start (02, R29). -/
def gapPosition : Nat := 65
/-- The drop counters and the discarded count saturate here (11, R181; 10, R166). -/
def countMax : Nat := 65535
/-- The miss count and the low-dT count saturate here (01, R15; 04, R65). -/
def missMax : Nat := 255
/-- Each accumulator wraps at 10^12 (03, R52). -/
def accumulatorWrap : Nat := 1000000000000
/-- 0.1 J in one Wh (03, R44). -/
def residuePerWh : Nat := 36000
/-- mL in one litre (03, R44). -/
def residuePerLitre : Nat := 1000
/-- 0.1 J in one kWh: the storage capacity's unit (09, R145). -/
def joulesPerKWh : Nat := 36000000
/-- The fully open valve, ‰ (04, R68). -/
def ceilingMax : Nat := 1000
/-- The slot time in ms of each FIELD RATE (02, R22). -/
def slotTime (rate : BitVec 2) : Nat :=
  match rate.toNat with
  | 0 => 40
  | 1 => 20
  | 2 => 10
  | _ => 5
/-- The configured period after a cold reset (02, R42). -/
def periodDefault : Nat := 20
/-- The header DP setpoint after a cold reset, the default DP_fallback (05, R93). -/
def setpointDefault : Nat := 1500

end Sys2Proof.Config
end

