-- ==== Sys2Proof/Word.lean ====
section
/-! DEFINITION. The word types the serial lines carry: octets and two-octet quantities (spec 12, R182 and R183). -/

namespace Sys2Proof

/-- One octet of a link frame or a field frame (12, R182). -/
abbrev Octet := BitVec 8

/-- A field of two octets, 0 to 65535, most significant octet first (12). -/
abbrev Half := BitVec 16

/-- The 32-bit cycle count (02, R29). -/
abbrev CycleCount := BitVec 32

end Sys2Proof
end

