-- ==== Sys2Proof/Syntax.lean ====
section
/-! DEFINITION. The commands: one constructor of `Instr` for every row of spec/opcode_table.json. A request row carries
the port it is taken on, the frame's tag and the fields of its body as 12.3 lays them out; an event row carries what the
event brings with it. -/

namespace Sys2Proof

/-- The two plant link ports (11): the supervisory port (the host) and the panel port, which has the higher rank. -/
inductive Port where
  | supervisory
  | panel
  deriving DecidableEq, Repr

/-- The two stage ladders (06, R95). -/
inductive LadderId where
  | chiller
  | pump
  deriving DecidableEq, Repr

/-- The body of BRANCH LOAD (12.2, "Branch descriptor"). `rest` is what follows octet 21: nothing, or the six octets
of the storage part; any other length is refused REFUSED_LENGTH (01, R7; 11, R176). -/
structure BranchLoadBody where
  index       : Octet
  typeCode    : Octet
  address     : Octet
  guardCode   : Octet
  flow        : Half
  granularity : Octet
  designDt    : Half
  dtMargin    : Half
  persist     : Octet
  throttle    : Octet
  floor       : Half
  step        : Octet
  dpRequired  : Half
  dpCeiling   : Half
  substitute  : Half
  rest        : List Octet
  deriving DecidableEq, Repr

/-- The body of UNIT LOAD (12.2, "Unit descriptor"). `rest` is what follows octet 4: nothing, or the two octets of the
rated capacity. -/
structure UnitLoadBody where
  ladder    : Octet
  position  : Octet
  kindCode  : Octet
  address   : Octet
  guardCode : Octet
  rest      : List Octet
  deriving DecidableEq, Repr

/-- The body of PLANT LIMITS SET, in the order of 12.3. -/
structure LimitsBody where
  dpMin         : Half
  dpMax         : Half
  dpFallback    : Half
  dpMargin      : Half
  dpRamp        : Half
  trim          : Half
  trimThreshold : Half
  supplySet     : Half
  supplyBand    : Half
  upPct         : Octet
  downPct       : Octet
  pumpUp        : Half
  pumpDown      : Half
  kStale        : Octet
  kLost         : Octet
  headerAddress : Octet
  deriving DecidableEq, Repr

/-- The commands of the part: the 33 requests, then the events of its lines, its time base, its inputs and its RST. -/
inductive Instr where
  /-- BRANCH_LOAD (01, R7). -/
  | branchLoad (p : Port) (tag : Octet) (b : BranchLoadBody)
  /-- BRANCH_RELEASE (01, R11). -/
  | branchRelease (p : Port) (tag : Octet) (index : Octet)
  /-- READ_BRANCH (01, R18). -/
  | readBranch (p : Port) (tag : Octet) (index : Octet)
  /-- SLOT_MAP_WRITE (02, R24): `entries` are the octets after the count. -/
  | slotMapWrite (p : Port) (tag : Octet) (first count : Octet) (entries : List Octet)
  /-- CYCLE_SET (02, R26). -/
  | cycleSet (p : Port) (tag : Octet) (period : Half)
  /-- FIELD_PASS (02, R35). -/
  | fieldPass (p : Port) (tag : Octet) (address : Octet) (payload : List Octet)
  /-- GO_LIVE (02, R40; 07, R131). -/
  | goLive (p : Port) (tag : Octet)
  /-- METER_SNAPSHOT (03, R57). -/
  | meterSnapshot (p : Port) (tag : Octet)
  /-- READ_SNAPSHOT (03, R59). -/
  | readSnapshot (p : Port) (tag : Octet) (index : Octet)
  /-- PLANT_LIMITS_SET (05, R89). -/
  | plantLimitsSet (p : Port) (tag : Octet) (b : LimitsBody)
  /-- READ_PLANT (01 R19, 02 R41, 03 R56, 05 R92, 11 R181). -/
  | readPlant (p : Port) (tag : Octet)
  /-- UNIT_LOAD (06, R97). -/
  | unitLoad (p : Port) (tag : Octet) (b : UnitLoadBody)
  /-- LADDER_ROTATE (06, R107). -/
  | ladderRotate (p : Port) (tag : Octet) (ladder : Octet)
  /-- STAGE_HOLD (06, R106). -/
  | stageHold (p : Port) (tag : Octet) (selection : Octet)
  /-- STAGE_FREE (06, R106). -/
  | stageFree (p : Port) (tag : Octet) (selection : Octet)
  /-- READ_UNIT (06, R108). -/
  | readUnit (p : Port) (tag : Octet) (ladder position : Octet)
  /-- READ_LADDER (06, R109). -/
  | readLadder (p : Port) (tag : Octet) (ladder : Octet)
  /-- UNIT_HAND (07, R119). -/
  | unitHand (p : Port) (tag : Octet) (ladder position demand : Octet)
  /-- UNIT_AUTO (07, R120). -/
  | unitAuto (p : Port) (tag : Octet) (ladder position : Octet)
  /-- UNIT_CLEAR (07, R121). -/
  | unitClear (p : Port) (tag : Octet) (ladder position : Octet)
  /-- UNIT_DISABLE (07, R121). -/
  | unitDisable (p : Port) (tag : Octet) (ladder position : Octet)
  /-- UNIT_ENABLE (07, R121). -/
  | unitEnable (p : Port) (tag : Octet) (ladder position : Octet)
  /-- TIMER_PERIOD_SET (08, R135). -/
  | timerPeriodSet (p : Port) (tag : Octet) (ladder kind : Octet) (period : Half)
  /-- TIMER_RELOAD (08, R141). -/
  | timerReload (p : Port) (tag : Octet) (ladder position kind : Octet)
  /-- TIME_SET (09, R147). -/
  | timeSet (p : Port) (tag : Octet) (minute : Half) (second : Octet)
  /-- WINDOW_SET (09, R148): `windows` are the octets after the count. -/
  | windowSet (p : Port) (tag : Octet) (count : Octet) (windows : List Octet)
  /-- WINDOW_RELOAD (09, R149). -/
  | windowReload (p : Port) (tag : Octet)
  /-- READ_STORAGE (09, R157). -/
  | readStorage (p : Port) (tag : Octet)
  /-- CHANNEL_SET (10, R159). -/
  | channelSet (p : Port) (tag : Octet) (channel edge action : Octet)
  /-- READ_CAPTURE (10, R162). -/
  | readCapture (p : Port) (tag : Octet) (channel : Octet)
  /-- RELEASE_STOP (10, R165). -/
  | releaseStop (p : Port) (tag : Octet)
  /-- READ_EVENTS (10, R167). -/
  | readEvents (p : Port) (tag : Octet)
  /-- RESTART (11, R178). -/
  | restart (p : Port) (tag : Octet)
  /-- LINK_FRAME_COMPLETE (11, R171): `octets` are the frame's octets from the length octet to the last CRC octet. -/
  | linkFrameComplete (p : Port) (octets : List Octet)
  /-- HELD_FRAME_TAKEN (11, R172). -/
  | heldFrameTaken (p : Port)
  /-- RECEIVER_GAP (11, R170): more than 20 ms have passed since the port's last octet. -/
  | receiverGap (p : Port)
  /-- TRANSMIT_FRAME_SENT (11, R174): the port has sent the last octet of the frame at the head of its queue. -/
  | transmitFrameSent (p : Port)
  /-- CYCLE_START (02, R29): the previous P_eff has run out. -/
  | cycleStart
  /-- MAPPED_SLOT (02, R31): the next entry of the service list begins its slot time. -/
  | mappedSlot
  /-- FIELD_REPLY_RECEIVED (02, R33): the last octet of a frame arrives on the field line. -/
  | fieldReplyReceived (octets : List Octet)
  /-- REPLY_WINDOW_CLOSE (02, R34): four fifths of the slot time have passed. -/
  | replyWindowClose
  /-- OPEN_SLOT (02, R36): the open slot begins its slot time. -/
  | openSlot
  /-- CYCLE_END (02, R38): the open slot's time has passed. -/
  | cycleEnd
  /-- SECOND_MARK (08, R137; 09, R146). -/
  | secondMark
  /-- PROVE_EXPIRY (07, R114) of the unit at a position. -/
  | proveExpiry (l : LadderId) (position : Nat)
  /-- STOP_EXPIRY (07, R115). -/
  | stopExpiry (l : LadderId) (position : Nat)
  /-- RUN_EXPIRY (07, R115). -/
  | runExpiry (l : LadderId) (position : Nat)
  /-- REST_EXPIRY (07, R115). -/
  | restExpiry (l : LadderId) (position : Nat)
  /-- UP_EXPIRY (07, R124). -/
  | upExpiry (l : LadderId)
  /-- DOWN_EXPIRY (07, R124). -/
  | downExpiry (l : LadderId)
  /-- WINDOW_BOUNDARY (09, R150). -/
  | windowBoundary
  /-- INPUT_EDGE (10, R160): the level at pin IN1 to IN8 becomes high or low. -/
  | inputEdge (input : Nat) (high : Bool)
  /-- COLD_RESET (11, R179): RST is asserted. -/
  | coldReset
  /-- RST_RELEASE (11, R179): RST is released with these levels at the SHADOW and FIELD RATE straps. -/
  | rstRelease (shadow : Bool) (rate : BitVec 2)
  /-- LINK_OCTET_RECEIVED (11, R170). -/
  | linkOctetReceived (p : Port) (octet : Octet)
  deriving DecidableEq, Repr

end Sys2Proof
end

