-- ==== Sys2Proof/Machine/State.lean ====
section
/-! DEFINITION. The state of the part as plain data, one structure per block of spec 00's block diagram, and
`State.reset`, the part with RST asserted. An unloaded record is `none`: R1 gives it no descriptor, readings, meter
part, throttle part or command blocks. -/

namespace Sys2Proof.Machine

/-! ## Codes and states (12.5) -/

/-- The freshness state of a LOADED record (01, R15). EMPTY is the absent record. -/
inductive Freshness where
  | awaiting
  | online
  | localCtl
  | held
  | stale
  | lost
  deriving DecidableEq, Repr

/-- The status a closed reading carries (01, R14). -/
inductive StationStatus where
  | ok
  | localCtl
  | fault
  deriving DecidableEq, Repr

/-- Who may load, reload or release a record (01, R8). -/
inductive Guard where
  | anyone
  | panel
  deriving DecidableEq, Repr

/-- Granularity of the contract flow (01, R3). -/
inductive Granularity where
  | fine
  | coarse
  deriving DecidableEq, Repr

/-- Direction the storage station reports (01, section 1.6). -/
inductive Direction where
  | idle
  | charging
  | discharging
  deriving DecidableEq, Repr

/-- Storage mode and window mode (09, R145). -/
inductive StorageMode where
  | hold
  | charge
  | discharge
  deriving DecidableEq, Repr

/-- Throttle cause (04, R62). -/
inductive ThrottleCause where
  | none
  | lowDt
  | overContract
  deriving DecidableEq, Repr

/-- Demand of a unit (06, R104). -/
inductive Demand where
  | stop
  | run
  deriving DecidableEq, Repr

/-- Trip cause (06, R101). -/
inductive TripCause where
  | noProof
  | lostProof
  | noStop
  | stationFault
  deriving DecidableEq, Repr

/-- The state of a LOADED unit (07, section 7.1), with what it carries in that state only: the trip cause and the
late-proof mark in TRIPPED, the hand demand in HAND (06, R101). EMPTY is the absent unit. -/
inductive UnitState where
  | out
  | off
  | resting
  | starting
  | running
  | stopping
  | tripped (cause : TripCause) (late : Bool)
  | hand (demand : Demand)
  | localCtl
  deriving DecidableEq, Repr

/-- What a ladder would have done in shadow mode (06, R101). -/
inductive Intent where
  | start
  | stop
  deriving DecidableEq, Repr

/-- The six timer kinds (08, R134). -/
inductive TimerKind where
  | prove
  | stop
  | run
  | rest
  | up
  | down
  deriving DecidableEq, Repr

/-- Edge selection of a channel (10, R159). -/
inductive Edge where
  | off
  | rising
  | falling
  | both
  deriving DecidableEq, Repr

/-- Action of a channel (10, R159). -/
inductive Action where
  | note
  | holdStage
  | stopAll
  deriving DecidableEq, Repr

/-- The status a reply opens with (11, R173). -/
inductive Status where
  | done
  | doneClamped
  | refusedKind
  | refusedLength
  | refusedIndex
  | refusedValue
  | refusedType
  | refusedRank
  | refusedAbsent
  | refusedInUse
  | refusedState
  | refusedFull
  | accepted
  | fieldDone
  | fieldTimeout
  | aborted
  deriving DecidableEq, Repr

/-- The event kinds (10, section 10.5). -/
inductive EventKind where
  | branchState
  | stationFault
  | reversedDt
  | lowDtOn
  | lowDtOff
  | overContractOn
  | overContractOff
  | dpConflictOn
  | dpConflictOff
  | noCriticalOn
  | noCriticalOff
  | headerStaleOn
  | headerStaleOff
  | unitState
  | proveSlow
  | proofLate
  | unitTrip
  | shortCapacityOn
  | shortCapacityOff
  | flowLossStop
  | intent
  | storageMode
  | storageFull
  | storageEmpty
  | capture
  | stopLatchOn
  | stopLatchOff
  | cycleStretched
  | cycleNormal
  | cycleWrap
  | accumRollover
  | warmRestart
  deriving DecidableEq, Repr

/-! ## Stations: readings and freshness, the same for branches, the header and units -/

/-- A cycle reading: a reply of status OK or LOCAL and its values (01, R13). -/
structure Reading (α : Type) where
  isLocal : Bool
  values  : α
  deriving DecidableEq, Repr

/-- A closed reading. Its values are absent only after a fault cycle with nothing held (01, R14). -/
structure Closed (α : Type) where
  status : StationStatus
  values : Option α
  deriving DecidableEq, Repr

/-- Readings and freshness of one station (01, R1, R14, R15; 06, R103). -/
structure Station (α : Type) where
  freshness : Freshness
  miss      : Nat
  faultRun  : Bool
  joined    : Bool
  cycle     : Option (Reading α)
  faultMark : Bool
  closed    : Option (Closed α)
  deriving DecidableEq, Repr

/-- What a branch reading carries beyond Ts, Tr and Q, by its type (01, section 1.6). -/
inductive BranchTail where
  | consumer (dpb valve : Nat)
  | storage (direction : Direction)
  deriving DecidableEq, Repr

/-- The values of a branch reading (01, section 1.6). -/
structure BranchValues where
  ts   : Nat
  tr   : Nat
  q    : Nat
  tail : BranchTail
  deriving DecidableEq, Repr

/-- The values of a header reading (01, R5). -/
structure HeaderValues where
  dph    : Nat
  tsup   : Nat
  tret   : Nat
  qtotal : Nat
  deriving DecidableEq, Repr

/-- The values of a unit reading: run proof, and leaving temperature or speed (06, R101). -/
structure UnitValues where
  proof : Bool
  value : Nat
  deriving DecidableEq, Repr

/-! ## The Branch Table (01) -/

/-- The fields of a branch descriptor that both types carry (01, R2). `throttleAllowed` is throttle ALLOWED. -/
structure BranchDesc where
  address         : Nat
  guard           : Guard
  flowValue       : Nat
  granularity     : Granularity
  designDt        : Nat
  dtMargin        : Nat
  persist         : Nat
  throttleAllowed : Bool
  floor           : Nat
  step            : Nat
  dpRequired      : Nat
  dpCeiling       : Nat
  substitute      : Nat
  deriving DecidableEq, Repr

/-- The storage part of a descriptor (01, R4). -/
structure StorageDesc where
  capacity       : Nat
  chargeLimit    : Nat
  dischargeLimit : Nat
  deriving DecidableEq, Repr

/-- The meter part (03, R44). -/
structure Meter where
  measured     : Nat
  measuredRes  : Nat
  estimated    : Nat
  estimatedRes : Nat
  volume       : Nat
  volumeRes    : Nat
  lastPower    : Nat
  rollover     : Bool
  reversedRun  : Bool
  deriving DecidableEq, Repr

/-- The throttle part (04, R62). -/
structure Throttle where
  count   : Nat
  cause   : ThrottleCause
  ceiling : Nat
  deriving DecidableEq, Repr

/-- The storage branch's command block (09, R153). -/
structure StorageCmd where
  mode : StorageMode
  rate : Nat
  deriving DecidableEq, Repr

/-- What a record carries by its type, CONSUMER or STORAGE: its optional parts and its two command blocks, `none` for
NONE (01, R1). -/
inductive BranchPart where
  | consumer (throttle : Throttle) (next current : Option Nat)
  | storage (desc : StorageDesc) (next current : Option StorageCmd)
  deriving DecidableEq, Repr

/-- A loaded branch record (01, R1). -/
structure Branch where
  desc    : BranchDesc
  station : Station BranchValues
  meter   : Meter
  part    : BranchPart
  deriving DecidableEq, Repr

/-- The header record while its address is not none (01, R5). `recent` tells a header loaded from EMPTY since the last
cycle start, which this cycle does not serve, from one that only moved to another address (02, R25, R31; log 32). -/
structure Header where
  address : Nat
  station : Station HeaderValues
  recent  : Bool
  deriving DecidableEq, Repr

/-! ## The Field Cycle Controller (02) -/

/-- The record a slot is bound to (02, R23). -/
inductive Binding where
  | unbound
  | branch (index : Nat)
  | unit (l : LadderId) (position : Nat)
  | header
  deriving DecidableEq, Repr

/-- A slot map entry; `command` is direction READ_COMMAND (02, R23). -/
structure SlotEntry where
  binding : Binding
  command : Bool
  deriving DecidableEq, Repr

/-- An entry of the open-slot queue (02, R35). -/
structure PassEntry where
  port    : Port
  tag     : Octet
  address : Nat
  payload : List Octet
  deriving DecidableEq, Repr

/-- Who answers in the reply window that is open: the record polled, or the pass in flight. -/
inductive WindowTarget where
  | branch (index : Nat)
  | unit (l : LadderId) (position : Nat)
  | header
  | pass
  deriving DecidableEq, Repr

/-- What the open window has seen: no complete frame yet, a first frame that makes the slot a miss, or a good reply
(02, R33, R34). -/
inductive Verdict where
  | waiting
  | miss
  | good (payload : List Octet)
  deriving DecidableEq, Repr

/-- An open reply window: whom it polled, at which address, and what it has seen (02, R31, R33, R36). -/
structure Window where
  target  : WindowTarget
  address : Nat
  verdict : Verdict
  deriving DecidableEq, Repr

/-- The Field Cycle Controller (02). `served` counts the service list's entries whose slots have begun; `openBegun`
says the open slot of this cycle has. `lineOut` is the frame put on the field line in the slot in progress. -/
structure FieldCycle where
  written     : List SlotEntry
  runningMap  : List SlotEntry
  serviceList : List Nat
  served      : Nat
  openBegun   : Bool
  count       : CycleCount
  position    : Nat
  pCfg        : Nat
  pEff        : Nat
  stretched   : Bool
  lineShadow  : Bool
  shadow      : Bool
  rate        : BitVec 2
  queue       : List PassEntry
  inFlight    : Option PassEntry
  window      : Option Window
  lineOut     : List Octet
  good        : Nat
  misses      : Nat
  lastGood    : Nat
  lastMisses  : Nat
  lamp        : Bool
  deriving DecidableEq, Repr

/-! ## The Metering Unit (03) -/

/-- The sign of the storage term (03, R56). -/
inductive TermSign where
  | zero
  | positive
  | negative
  deriving DecidableEq, Repr

/-- The figures of the last load-published (03, R56), all in kW. -/
structure LoadFigures where
  lStage    : Nat
  lCons     : Nat
  sign      : TermSign
  magnitude : Nat
  nMeasured : Nat
  nHeld     : Nat
  nSubst    : Nat
  count     : CycleCount
  deriving DecidableEq, Repr

/-- One entry of the snapshot table (03, R57). -/
structure SnapEntry where
  measured  : Nat
  estimated : Nat
  volume    : Nat
  rollover  : Bool
  deriving DecidableEq, Repr

/-- The snapshot table with its stamp (03, R57). -/
structure Snapshot where
  count    : CycleCount
  position : Nat
  entries  : List (Option SnapEntry)
  deriving DecidableEq, Repr

/-! ## The Pressure Reset Calculator (05) -/

/-- The calculator's fields (05, R78). -/
structure Pressure where
  setpoint     : Nat
  target       : Nat
  critical     : Option Nat
  criticalNeed : Nat
  limiting     : Option Nat
  ceiling      : Nat
  eligible     : Nat
  headerStale  : Bool
  conflict     : Bool
  noCritical   : Bool
  stamp        : CycleCount
  deriving DecidableEq, Repr

/-- The plant limits (05, section 5.9) without the header station address, whose one home is the header record. -/
structure Limits where
  dpMin         : Nat
  dpMax         : Nat
  dpFallback    : Nat
  dpMargin      : Nat
  dpRamp        : Nat
  trim          : Nat
  trimThreshold : Nat
  supplySet     : Nat
  supplyBand    : Nat
  upPct         : Nat
  downPct       : Nat
  pumpUp        : Nat
  pumpDown      : Nat
  kStale        : Nat
  kLost         : Nat
  deriving DecidableEq, Repr

/-! ## The Stage Sequencer and the Unit Timer Bank (06, 07, 08) -/

/-- A timer (08, R134). COUNTING with remaining 0 is a count that has run out and whose expiry has not been taken yet
(log 8). The pass matters for PROVE only and is 1 for the other kinds. -/
inductive Timer where
  | idle
  | counting (remaining latched pass : Nat)
  deriving DecidableEq, Repr

/-- A unit's command block (06, R104). -/
structure UnitCmd where
  demand   : Demand
  setpoint : Nat
  deriving DecidableEq, Repr

/-- A loaded unit record with its four timers (06, R96, R101; 08, R134). A pump's capacity is 0: a PUMP descriptor has
no capacity field. Its kind is the kind of its ladder. -/
structure PlantUnit where
  address  : Nat
  guard    : Guard
  capacity : Nat
  state    : UnitState
  station  : Station UnitValues
  commLost : Bool
  intent   : Option Intent
  next     : Option UnitCmd
  current  : Option UnitCmd
  prove    : Timer
  stop     : Timer
  run      : Timer
  rest     : Timer
  deriving DecidableEq, Repr

/-- A ladder's period settings (08, R135). -/
structure Periods where
  prove : Nat
  stop  : Nat
  run   : Nat
  rest  : Nat
  up    : Nat
  down  : Nat
  deriving DecidableEq, Repr

/-- A ladder's last intent (06, R106). -/
structure LastIntent where
  intent   : Intent
  position : Nat
  count    : CycleCount
  deriving DecidableEq, Repr

/-- The figures of a ladder's last evaluation (07, R132). C_run, cap_top and the Tsup mark are the chiller ladder's,
the number of RUNNING pumps and their speed the pump ladder's; the other ladder keeps them 0. -/
structure Figures where
  load     : Nat
  count    : CycleCount
  cRun     : Nat
  capTop   : Nat
  tsupUsed : Bool
  pumps    : Nat
  speed    : Nat
  running  : Nat
  up       : Bool
  down     : Bool
  deriving DecidableEq, Repr

/-- A ladder (06, R95, R105, R106). The unit at position p stands at place p - 1 of `units`. The stack holds, bottom
first, the positions its units hold (log 10). -/
structure Ladder where
  units       : List (Option PlantUnit)
  stack       : List Nat
  upPending   : Bool
  downPending : Bool
  requestHold : Bool
  shortCap    : Bool
  lastIntent  : Option LastIntent
  up          : Timer
  down        : Timer
  periods     : Periods
  figures     : Figures
  deriving DecidableEq, Repr

/-- The Stage Sequencer: both ladders, "chiller start waiting for pump", and the input hold, one flag for both ladders
(06, R106; 10, R163). -/
structure Sequencer where
  chillers  : Ladder
  pumps     : Ladder
  waiting   : Bool
  inputHold : Bool
  deriving DecidableEq, Repr

/-! ## The Storage Scheduler (09) -/

/-- The day clock once set (09, R145). -/
structure Clock where
  minute : Nat
  second : Nat
  deriving DecidableEq, Repr

/-- A tariff window (09, R145). -/
structure TariffWindow where
  start : Nat
  mode  : StorageMode
  rate  : Nat
  deriving DecidableEq, Repr

/-- The scheduler's fields (09, R145). `clock` is `none` while UNSET. `boundaryDue` is a window boundary a second mark
has reached and WINDOW_BOUNDARY has not taken yet (log 9). -/
structure Scheduler where
  clock       : Option Clock
  active      : List TariffWindow
  staged      : Option (List TariffWindow)
  mode        : StorageMode
  rate        : Nat
  window      : Option Nat
  soc         : Nat
  full        : Bool
  empty       : Bool
  lastChange  : CycleCount
  boundaryDue : Bool
  deriving DecidableEq, Repr

/-! ## The Input Capture Unit and the Event List (10) -/

/-- A capture record (10, R160). -/
structure Capture where
  count       : CycleCount
  position    : Option Nat
  rising      : Bool
  overwritten : Bool
  deriving DecidableEq, Repr

/-- A channel (10, R159). -/
structure Channel where
  edge    : Edge
  action  : Action
  level   : Bool
  record  : Option Capture
  pending : Bool
  deriving DecidableEq, Repr

/-- The Input Capture Unit (10): the levels at the pins IN1 to IN8, the channels 1 to 8 in order, the STOP latch. -/
structure Inputs where
  pins      : List Bool
  channels  : List Channel
  stopLatch : Bool
  deriving DecidableEq, Repr

/-- An event as a block gives it, before it is stamped: kind, subject, detail (10, R166). -/
structure Note where
  kind    : EventKind
  subject : Nat
  detail  : Int
  deriving DecidableEq, Repr

/-- A record of the event list (10, R166). -/
structure EventRecord where
  count    : CycleCount
  position : Nat
  note     : Note
  deriving DecidableEq, Repr

/-- The Event List, oldest first (10, R166). -/
structure EventList where
  records        : List EventRecord
  discarded      : Bool
  discardedCount : Nat
  deriving DecidableEq, Repr

/-! ## The Plant Link Ports (11) -/

/-- A receiver. RECEIVING holds the octets kept since the start mark (11, R170). -/
inductive Receiver where
  | hunt
  | receiving (kept : List Octet)
  | discarding
  deriving DecidableEq, Repr

/-- A good request frame: tag, kind, body (11, R171). -/
structure RequestFrame where
  tag  : Octet
  kind : Octet
  body : List Octet
  deriving DecidableEq, Repr

/-- A frame handed to a transmit queue; `immediate` tells an immediate reply from a deferred one (11, R174). -/
structure TxFrame where
  tag       : Octet
  kind      : Octet
  body      : List Octet
  immediate : Bool
  deriving DecidableEq, Repr

/-- A plant link port (11). -/
structure LinkPort where
  receiver    : Receiver
  heldFrame   : Option RequestFrame
  tx          : List TxFrame
  owed        : Nat
  gapDrops    : Nat
  lengthDrops : Nat
  crcDrops    : Nat
  replyDrops  : Nat
  overruns    : Nat
  deriving DecidableEq, Repr

/-! ## The whole part -/

/-- The part. `rst` is RST asserted; `pending` is the queue of commands that wait, first in, first out. -/
structure State where
  pending    : List Instr
  rst        : Bool
  branches   : List (Option Branch)
  header     : Option Header
  fc         : FieldCycle
  load       : LoadFigures
  snapshot   : Option Snapshot
  press      : Pressure
  limits     : Limits
  seq        : Sequencer
  store      : Scheduler
  inputs     : Inputs
  events     : EventList
  supervisory : LinkPort
  panel      : LinkPort
  deriving DecidableEq, Repr

/-- Why a command stops the model. -/
inductive Fault where
  /-- Raised by the meanings of PROVE_EXPIRY, STOP_EXPIRY, RUN_EXPIRY and REST_EXPIRY for a position outside the ladder
  (06, R95 gives 1 to 8 and 1 to 6): the part has no such timer. Safe: no part raises such an event (log 23). -/
  | noSuchPosition
  /-- Raised by the meaning of INPUT_EDGE for an input outside IN1 to IN8 (10, R159). Safe: the part has no such pin
  (log 23). -/
  | noSuchInput
  deriving DecidableEq, Repr

/-- Why a command has no meaning in the model. -/
inductive Refusal where
  /-- The command has no meaning yet. No arm of `exec` answers it. Safe. -/
  | notModelled (mnemonic : String)
  deriving DecidableEq, Repr

/-! ## The values after a cold reset -/

/-- A port with nothing received, held, queued, owed or dropped (11, R179, R181). -/
def LinkPort.reset : LinkPort :=
  { receiver := .hunt, heldFrame := none, tx := [], owed := 0, gapDrops := 0, lengthDrops := 0, crcDrops := 0,
    replyDrops := 0, overruns := 0 }

/-- The default limits (05, section 5.9; 01, R16). -/
def Limits.reset : Limits :=
  { dpMin := 500, dpMax := 4000, dpFallback := 1500, dpMargin := 100, dpRamp := 50, trim := 50, trimThreshold := 950,
    supplySet := 550, supplyBand := 50, upPct := 90, downPct := 80, pumpUp := 950, pumpDown := 400, kStale := 3,
    kLost := 10 }

/-- The default period settings (08, R135). -/
def Periods.reset : Periods :=
  { prove := 120, stop := 180, run := 900, rest := 600, up := 300, down := 600 }

/-- Staging figures 0 with both conditions false (07, R132). -/
def Figures.reset : Figures :=
  { load := 0, count := 0, cRun := 0, capTop := 0, tsupUsed := false, pumps := 0, speed := 0, running := 0, up := false,
    down := false }

/-- An emptied ladder of n positions (06, R110; 08, R143). -/
def Ladder.reset (n : Nat) : Ladder :=
  { units := List.replicate n none, stack := [], upPending := false, downPending := false, requestHold := false,
    shortCap := false, lastIntent := none, up := .idle, down := .idle, periods := .reset, figures := .reset }

/-- Both ladders emptied, every flag clear (06, R110). -/
def Sequencer.reset : Sequencer :=
  { chillers := .reset Config.chillerPositions, pumps := .reset Config.pumpPositions, waiting := false,
    inputHold := false }

/-- The Field Cycle Controller after a cold reset (02, R42). Position 65, a live line mode, live mode, rate 0 and P_eff 20
stand until the release of RST: the model's choice, since the table gives P_eff only from the first cycle start on
(log 1). -/
def FieldCycle.reset : FieldCycle :=
  { written := List.replicate Config.slotCount ⟨.unbound, false⟩,
    runningMap := List.replicate Config.slotCount ⟨.unbound, false⟩,
    serviceList := [], served := 0, openBegun := false, count := 0, position := Config.gapPosition,
    pCfg := Config.periodDefault, pEff := Config.periodDefault, stretched := false, lineShadow := false,
    shadow := false, rate := 0, queue := [], inFlight := none, window := none, lineOut := [], good := 0, misses := 0,
    lastGood := 0, lastMisses := 0, lamp := false }

/-- No load published (03, R60). -/
def LoadFigures.reset : LoadFigures :=
  { lStage := 0, lCons := 0, sign := .zero, magnitude := 0, nMeasured := 0, nHeld := 0, nSubst := 0, count := 0 }

/-- The calculator after a cold reset (05, R93). -/
def Pressure.reset : Pressure :=
  { setpoint := Config.setpointDefault, target := 0, critical := none, criticalNeed := 0, limiting := none, ceiling := 0,
    eligible := 0, headerStale := false, conflict := false, noCritical := false, stamp := 0 }

/-- The scheduler after a cold reset (09, R158). -/
def Scheduler.reset : Scheduler :=
  { clock := none, active := [], staged := none, mode := .hold, rate := 0, window := none, soc := 0, full := false,
    empty := false, lastChange := 0, boundaryDue := false }

/-- A channel after a cold reset (10, R169); its taken level is set at the release of RST. -/
def Channel.reset : Channel :=
  { edge := .off, action := .note, level := false, record := none, pending := false }

/-- The inputs after a cold reset (10, R169), the pins low (log 1). -/
def Inputs.reset : Inputs :=
  { pins := List.replicate 8 false, channels := List.replicate 8 .reset, stopLatch := false }

/-- The event list after a cold reset (10, R169). -/
def EventList.reset : EventList :=
  { records := [], discarded := false, discardedCount := 0 }

/-- The part right after a cold reset: RST asserted, every block at its cold-reset values, nothing waiting (11, R179;
01, R20; 02, R42; 03, R60; 05, R93; 06, R110; 08, R143; 09, R158; 10, R169). -/
def State.reset : State :=
  { pending := [], rst := true, branches := List.replicate Config.branchCount none, header := none, fc := .reset,
    load := .reset, snapshot := none, press := .reset, limits := .reset, seq := .reset, store := .reset,
    inputs := .reset, events := .reset, supervisory := .reset, panel := .reset }

end Sys2Proof.Machine
end

