-- ==== Sys2Proof/Machine/Ops.lean ====
section
/-! DEFINITION. The named operations over the state: clamps and counters, the closing rule and the freshness table, the
event list, the ports' queues, timers, ladders, and the law of distinct station addresses. -/

namespace Sys2Proof.Machine

/-! ## Numbers (00, Conventions) -/

/-- "Clamped": a value outside its range is replaced by the nearest end (00). -/
def clamp (lo hi n : Nat) : Nat := max lo (min hi n)

/-- A counter that saturates at `cap`. -/
def bump (cap n : Nat) : Nat := min cap (n + 1)

/-- ceil(n / d) (00). -/
def ceilDiv (n d : Nat) : Nat := (n + d - 1) / d

/-! ## Codes (12.5) -/

/-- The code of a freshness state; EMPTY is 0. -/
def Freshness.code : Option Freshness → Nat
  | none => 0
  | some .awaiting => 1
  | some .online => 2
  | some .localCtl => 3
  | some .held => 4
  | some .stale => 5
  | some .lost => 6

/-- The code of a unit state; EMPTY is 0. -/
def UnitState.code : Option UnitState → Nat
  | none => 0
  | some .out => 1
  | some .off => 2
  | some .resting => 3
  | some .starting => 4
  | some .running => 5
  | some .stopping => 6
  | some (.tripped _ _) => 7
  | some (.hand _) => 8
  | some .localCtl => 9

/-- The code of a trip cause. -/
def TripCause.code : TripCause → Nat
  | .noProof => 1
  | .lostProof => 2
  | .noStop => 3
  | .stationFault => 4

/-- The code of a storage mode. -/
def StorageMode.code : StorageMode → Nat
  | .hold => 0
  | .charge => 1
  | .discharge => 2

/-- The code of a throttle cause. -/
def ThrottleCause.code : ThrottleCause → Nat
  | .none => 0
  | .lowDt => 1
  | .overContract => 2

/-- The code of a demand. -/
def Demand.code : Demand → Nat
  | .stop => 0
  | .run => 1

/-- The code of an intent; none is 0. -/
def Intent.code : Option Intent → Nat
  | none => 0
  | some .start => 1
  | some .stop => 2

/-- The code of a station status. -/
def StationStatus.code : StationStatus → Nat
  | .ok => 0
  | .localCtl => 1
  | .fault => 2

/-- The code of a guard. -/
def Guard.code : Guard → Nat
  | .anyone => 0
  | .panel => 1

/-- The code of a granularity (12.2). -/
def Granularity.code : Granularity → Nat
  | .fine => 0
  | .coarse => 1

/-- The code of a storage direction. -/
def Direction.code : Direction → Nat
  | .idle => 0
  | .charging => 1
  | .discharging => 2

/-- The code of the storage term's sign. -/
def TermSign.code : TermSign → Nat
  | .zero => 0
  | .positive => 1
  | .negative => 2

/-- A status code (12.4). -/
def Status.code : Status → Nat
  | .done => 0
  | .doneClamped => 1
  | .refusedKind => 2
  | .refusedLength => 3
  | .refusedIndex => 4
  | .refusedValue => 5
  | .refusedType => 6
  | .refusedRank => 7
  | .refusedAbsent => 8
  | .refusedInUse => 9
  | .refusedState => 10
  | .refusedFull => 11
  | .accepted => 12
  | .fieldDone => 13
  | .fieldTimeout => 14
  | .aborted => 15

/-- The code of an event kind. -/
def EventKind.code : EventKind → Nat
  | .branchState => 1
  | .stationFault => 2
  | .reversedDt => 3
  | .lowDtOn => 4
  | .lowDtOff => 5
  | .overContractOn => 6
  | .overContractOff => 7
  | .dpConflictOn => 8
  | .dpConflictOff => 9
  | .noCriticalOn => 10
  | .noCriticalOff => 11
  | .headerStaleOn => 12
  | .headerStaleOff => 13
  | .unitState => 14
  | .proveSlow => 15
  | .proofLate => 16
  | .unitTrip => 17
  | .shortCapacityOn => 18
  | .shortCapacityOff => 19
  | .flowLossStop => 20
  | .intent => 21
  | .storageMode => 22
  | .storageFull => 23
  | .storageEmpty => 24
  | .capture => 25
  | .stopLatchOn => 26
  | .stopLatchOff => 27
  | .cycleStretched => 28
  | .cycleNormal => 29
  | .cycleWrap => 30
  | .accumRollover => 31
  | .warmRestart => 32

/-- The number of a port in the WARM_RESTART detail (10, section 10.5). -/
def portNumber : Port → Nat
  | .supervisory => 1
  | .panel => 2

/-- The subject of the header (01, R5). -/
def headerSubject : Nat := 48
/-- The subject "no storage record" (10, section 10.5). -/
def noStorageSubject : Nat := 49
/-- The subject of the Input Capture Unit; its channel n is 300 + n (10, section 10.5). -/
def captureSubject : Nat := 300
/-- The subject of the Field Cycle Controller. -/
def cycleSubject : Nat := 400
/-- The subject of the plant link ports. -/
def linkSubject : Nat := 500

/-- The subject of a ladder; its unit at position p is this plus p (06, R95). -/
def ladderSubject : LadderId → Nat
  | .chiller => 100
  | .pump => 200

/-- The positions of a ladder (06, R95). -/
def ladderSize : LadderId → Nat
  | .chiller => Config.chillerPositions
  | .pump => Config.pumpPositions

/-! ## The Event List (10, R166) -/

/-- Appending a record at the tail; a full list first loses its oldest. -/
def EventList.append (e : EventList) (r : EventRecord) : EventList :=
  if e.records.length < Config.eventCapacity then { e with records := e.records ++ [r] }
  else { records := e.records.drop 1 ++ [r], discarded := true, discardedCount := bump Config.countMax e.discardedCount }

/-- Removing every record at the wrap of the cycle count (10, R166). -/
def EventList.clear (e : EventList) : EventList :=
  { records := [], discarded := e.discarded || !e.records.isEmpty,
    discardedCount := min Config.countMax (e.discardedCount + e.records.length) }

/-- Appending the events of one block's work in order, stamped with the cycle count and slot position of the moment
(10, R166). -/
def State.notes (s : State) (ns : List Note) : State :=
  { s with events := ns.foldl (fun e n => e.append ⟨s.fc.count, s.fc.position, n⟩) s.events }

/-! ## The ports' queues (11) -/

/-- The port p. -/
def State.port (s : State) : Port → LinkPort
  | .supervisory => s.supervisory
  | .panel => s.panel

/-- The state with port p replaced. -/
def State.setPort (s : State) (p : Port) (x : LinkPort) : State :=
  match p with
  | .supervisory => { s with supervisory := x }
  | .panel => { s with panel := x }

/-- A port whose immediate reply has not been sent to its last octet (11, R172). -/
def LinkPort.busy (x : LinkPort) : Bool := x.tx.any (·.immediate)

/-- Handing a frame to a port's transmit queue (11, R174). -/
def State.hand (s : State) (p : Port) (f : TxFrame) : State :=
  s.setPort p { s.port p with tx := (s.port p).tx ++ [f] }

/-- The kind octet of a reply: the request's kind with the reply flag set (11, R173; 12, R182). -/
def replyKind (kind : Octet) : Octet := kind ||| 0x80#8

/-- The request kind code of FIELD PASS (12.3). -/
def fieldPassKind : Octet := 22#8

/-- Handing the deferred reply of a pass to its port, which is owed one less (11, R175). -/
def State.deferred (s : State) (e : PassEntry) (st : Status) (content : List Octet) : State :=
  s.setPort e.port { s.port e.port with
    tx := (s.port e.port).tx ++ [⟨e.tag, replyKind fieldPassKind, BitVec.ofNat 8 st.code :: content, false⟩],
    owed := (s.port e.port).owed - 1 }

/-! ## Stations: taking replies, the closing rule, the freshness table (01, R13 to R15, R21) -/

/-- What a cycle was for a record (01, R14). -/
inductive CycleClass where
  | fresh (isLocal : Bool)
  | fault
  | silent
  deriving DecidableEq, Repr

/-- The readings and freshness of a record loaded from EMPTY (01, R9; 06, R98; 01, R5). -/
def Station.fresh (α : Type) : Station α :=
  { freshness := .awaiting, miss := 0, faultRun := false, joined := true, cycle := none, faultMark := false,
    closed := none }

/-- Taking a reply of status OK or LOCAL: it replaces any cycle reading held (01, R13). -/
def Station.take {α : Type} (t : Station α) (isLocal : Bool) (v : α) : Station α :=
  { t with cycle := some ⟨isLocal, v⟩ }

/-- Taking a reply of status FAULT (01, R13). -/
def Station.takeFault {α : Type} (t : Station α) : Station α := { t with faultMark := true }

/-- Which of the three cases of R14 holds. -/
def Station.cls {α : Type} (t : Station α) : CycleClass :=
  match t.cycle with
  | some r => .fresh r.isLocal
  | none => if t.faultMark then .fault else .silent

/-- The closed reading after the cycle (01, R14). -/
def Station.closing {α : Type} (t : Station α) : Option (Closed α) :=
  match t.cycle with
  | some r => some ⟨if r.isLocal then .localCtl else .ok, some r.values⟩
  | none => if t.faultMark then some ⟨.fault, t.closed.bind (·.values)⟩ else t.closed

/-- The freshness table (01, R15): the state and miss count after a cycle. -/
def freshnessTable (kStale kLost : Nat) (f : Freshness) (miss : Nat) (c : CycleClass) : Freshness × Nat :=
  match c with
  | .fresh true => (.localCtl, 0)
  | .fresh false => (.online, 0)
  | _ =>
    match f with
    | .awaiting => (if kLost ≤ bump Config.missMax miss then .lost else .awaiting, bump Config.missMax miss)
    | .online => (.held, 1)
    | .localCtl => (.held, 1)
    | .held => (if kStale ≤ bump Config.missMax miss then .stale else .held, bump Config.missMax miss)
    | .stale => (if kLost ≤ bump Config.missMax miss then .lost else .stale, bump Config.missMax miss)
    | .lost => (.lost, bump Config.missMax miss)

/-- The closing rule and the freshness table on one record (01, R14, R15, R17). A joined record keeps all but its cycle
reading and fault mark. -/
def Station.close {α : Type} (kStale kLost : Nat) (t : Station α) : Station α :=
  if t.joined then { t with cycle := none, faultMark := false }
  else
    { freshness := (freshnessTable kStale kLost t.freshness t.miss t.cls).1,
      miss := (freshnessTable kStale kLost t.freshness t.miss t.cls).2,
      faultRun := match t.cls with
        | .fresh _ => false
        | .fault => true
        | .silent => t.faultRun,
      joined := false,
      cycle := none,
      faultMark := false,
      closed := t.closing }

/-- A fault cycle appends STATION_FAULT when the fault-run flag is clear (01, R17). -/
def Station.faultBegins {α : Type} (t : Station α) : Bool :=
  !t.joined && decide (t.cls = .fault) && !t.faultRun

/-- The warm restart's part for a loaded record: AWAITING, miss 0, marks and cycle reading cleared, the closed reading
kept (01, R21; 06, R111). -/
def Station.restart {α : Type} (t : Station α) : Station α :=
  { t with freshness := .awaiting, miss := 0, faultRun := false, joined := false, cycle := none, faultMark := false }

/-- The joined mark is cleared at cycle start (02, R30). -/
def Station.cycleStart {α : Type} (t : Station α) : Station α := { t with joined := false }

/-- The values of the closed reading, if it has any. -/
def Station.values {α : Type} (t : Station α) : Option α := t.closed.bind (·.values)

/-- A record that was taken by the closing rule and is fresh in the closed cycle (03, R45, R46; 04, R63). -/
def Station.isFresh {α : Type} (t : Station α) : Bool :=
  !t.joined && (decide (t.freshness = .online) || decide (t.freshness = .localCtl))

/-! ## Branch records -/

/-- The record at an index, when loaded. -/
def State.branch? (s : State) (i : Nat) : Option Branch := (s.branches[i]?).join

/-- The state with the record at an index replaced. -/
def State.setBranch (s : State) (i : Nat) (b : Option Branch) : State := { s with branches := s.branches.set i b }

/-- A STORAGE record. -/
def Branch.isStorage (b : Branch) : Bool :=
  match b.part with
  | .storage _ _ _ => true
  | .consumer _ _ _ => false

/-- The loaded STORAGE record, the lowest index first; the table holds at most one (01, R1). -/
def storageIn (bs : List (Option Branch)) : Option (Nat × Branch) :=
  bs.zipIdx.findSome? fun x =>
    match x.1 with
    | some b => if b.isStorage then some (x.2, b) else none
    | none => none

/-- Latching a record's command block and clearing its joined mark at cycle start (02, R30). -/
def Branch.cycleStart (b : Branch) : Branch :=
  { b with
    station := b.station.cycleStart,
    part := match b.part with
      | .consumer t n _ => .consumer t n n
      | .storage d n _ => .storage d n n }

/-! ## Timers (08) -/

/-- A start: the period is latched and counted from, at pass 1 (08, R136). -/
def Timer.start (period : Nat) : Timer := .counting period period 1

/-- A timer is COUNTING. -/
def Timer.isCounting : Timer → Bool
  | .idle => false
  | .counting _ _ _ => true

/-- A COUNTING timer whose count has run out: its expiry is due (08, R138). -/
def Timer.ranOut : Timer → Bool
  | .counting 0 _ _ => true
  | _ => false

/-- One second mark (08, R137). -/
def Timer.tick : Timer → Timer
  | .idle => .idle
  | .counting r l p => .counting (r - 1) l p

/-- "Started if IDLE, left to run if counting" (08, R136). -/
def Timer.startIfIdle (period : Nat) (t : Timer) : Timer := if t.isCounting then t else .start period

/-- A reload keeps the pass (08, R141). -/
def Timer.reload (period : Nat) : Timer → Timer
  | .idle => .idle
  | .counting _ _ p => .counting period period p

/-- Remaining seconds, 0 while IDLE (08, R134). -/
def Timer.remaining : Timer → Nat
  | .idle => 0
  | .counting r _ _ => r

/-- The pass as reported, 0 while IDLE (08, R142). -/
def Timer.pass : Timer → Nat
  | .idle => 0
  | .counting _ _ p => p

/-- A ladder's setting for a kind (08, R135). -/
def Periods.get (x : Periods) : TimerKind → Nat
  | .prove => x.prove
  | .stop => x.stop
  | .run => x.run
  | .rest => x.rest
  | .up => x.up
  | .down => x.down

/-- A ladder's settings with one replaced (08, R135). -/
def Periods.put (x : Periods) (k : TimerKind) (n : Nat) : Periods :=
  match k with
  | .prove => { x with prove := n }
  | .stop => { x with stop := n }
  | .run => { x with run := n }
  | .rest => { x with rest := n }
  | .up => { x with up := n }
  | .down => { x with down := n }

/-! ## Ladders (06) -/

/-- The unit at a position, 1 being the first; `none` for an empty position and for a position the ladder lacks. -/
def Ladder.unitAt (L : Ladder) : Nat → Option PlantUnit
  | 0 => none
  | p + 1 => (L.units[p]?).join

/-- The ladder with what stands at a position replaced. -/
def Ladder.setUnit (L : Ladder) (position : Nat) (u : Option PlantUnit) : Ladder :=
  match position with
  | 0 => L
  | p + 1 => { L with units := L.units.set p u }

/-- The ladder with the unit at a position changed, if there is one. -/
def Ladder.modUnit (L : Ladder) (position : Nat) (f : PlantUnit → PlantUnit) : Ladder :=
  L.setUnit position ((L.unitAt position).map f)

/-- The ladder l of the sequencer. -/
def Sequencer.ladder (q : Sequencer) : LadderId → Ladder
  | .chiller => q.chillers
  | .pump => q.pumps

/-- The sequencer with ladder l replaced. -/
def Sequencer.setLadder (q : Sequencer) (l : LadderId) (L : Ladder) : Sequencer :=
  match l with
  | .chiller => { q with chillers := L }
  | .pump => { q with pumps := L }

/-- The positions 1 to n in ladder order. -/
def positions (n : Nat) : List Nat := (List.range n).map (· + 1)

/-- The first position in ladder order whose unit meets a test (06, R95). -/
def Ladder.first (L : Ladder) (test : PlantUnit → Bool) : Option Nat :=
  (positions L.units.length).find? fun p => (L.unitAt p).any test

/-! ## Distinct station addresses (01, R6) -/

/-- A loaded branch record at an index other than `except` carries the address. -/
def State.branchHolds (s : State) (address : Nat) (except : Option Nat) : Bool :=
  s.branches.zipIdx.any fun x =>
    match x.1 with
    | some b => decide (b.desc.address = address) && decide (some x.2 ≠ except)
    | none => false

/-- A unit of ladder l at a position other than `except` carries the address. -/
def Ladder.holds (L : Ladder) (address : Nat) (except : Option Nat) : Bool :=
  L.units.zipIdx.any fun x =>
    match x.1 with
    | some u => decide (u.address = address) && decide (some (x.2 + 1) ≠ except)
    | none => false

/-- A unit of either ladder, other than the one excepted, carries the address. -/
def State.unitHolds (s : State) (address : Nat) (except : Option (LadderId × Nat)) : Bool :=
  s.seq.chillers.holds address (except.bind fun x => if x.1 = .chiller then some x.2 else none)
    || s.seq.pumps.holds address (except.bind fun x => if x.1 = .pump then some x.2 else none)

/-- The header carries the address. -/
def State.headerHolds (s : State) (address : Nat) : Bool :=
  s.header.any fun h => decide (h.address = address)

/-! ## Requests -/

/-- What an owner answers: the status, and the content that follows it (11, R173). -/
structure Reply where
  status  : Status
  content : List Octet
  deriving DecidableEq, Repr

/-- A refusal: the status octet alone, and no state changed (11, R173). -/
def refuse (s : State) (st : Status) : State × Reply := (s, ⟨st, []⟩)

/-- A request carried out: DONE, or DONE_CLAMPED when a value was clamped (00, Names). -/
def doneIf (clamped : Bool) : Status := if clamped then .doneClamped else .done

/-- The immediate reply of a request, handed to the port's queue (11, R173). -/
def answer (p : Port) (tag kind : Octet) (x : State × Reply) : State :=
  x.1.hand p ⟨tag, replyKind kind, BitVec.ofNat 8 x.2.status.code :: x.2.content, true⟩

/-- A request frame arrives whole and good at a port (11, R172): it is taken when the port's last immediate reply has
gone, held when it has not, and dropped as an overrun when a frame is held already, which a frame whose turn has come
is until its own row takes it (log 36). While RST is asserted no request is taken (11, R179). `work` is the taking. -/
def arrive (p : Port) (f : RequestFrame) (work : State → State) (s : State) : State :=
  if s.rst then s
  else if (s.port p).heldFrame.isSome then
    s.setPort p { s.port p with overruns := bump Config.countMax (s.port p).overruns }
  else if (s.port p).busy then s.setPort p { s.port p with heldFrame := some f }
  else work s

/-- The meaning of a request row: its frame arrives, and the taking is its owner's work and its immediate reply
(11, R172, R173). -/
def request (p : Port) (tag kind : Octet) (body : List Octet) (serve : State → State × Reply) (s : State) :
    Host.Outcome State Fault Refusal :=
  .next (arrive p ⟨tag, kind, body⟩ (fun t => answer p tag kind (serve t)) s)

/-- The values of a list of options when each has one. -/
def allSome {α : Type} : List (Option α) → Option (List α)
  | [] => some []
  | some a :: rest => (allSome rest).map (a :: ·)
  | none :: _ => none

/-- A station address (01, R2): 1 to 240. -/
def validAddress (a : Octet) : Bool := decide (1 ≤ a.toNat) && decide (a.toNat ≤ 240)

/-- An event of the part, which nothing raises while RST is asserted (02, R42; 08, R137; 11, R179). -/
def unlessReset (s : State) (work : State → State) : State := if s.rst then s else work s

end Sys2Proof.Machine
end

