-- ==== Sys2Proof/Machine/Operands.lean ====
section
/-! DEFINITION. Every octet layout of spec 12: byte order, the CRC, the codes a request or a reply may carry, the bodies
of requests, the frames of both kinds of line, the payloads of stations, and the parts replies are built from. -/

namespace Sys2Proof.Machine

/-! ## Byte order (12: most significant octet first) -/

/-- The low octet of a number. -/
def oct (n : Nat) : Octet := BitVec.ofNat 8 n

/-- A number in k octets, most significant first. -/
def be : Nat → Nat → List Octet
  | 0, _ => []
  | k + 1, n => oct (n / 256 ^ k) :: be k n

/-- The number that octets spell, most significant first. -/
def ofBe (os : List Octet) : Nat := os.foldl (fun a o => a * 256 + o.toNat) 0

/-- The two-octet field of two octets. -/
def half (a b : Octet) : Half := BitVec.ofNat 16 (a.toNat * 256 + b.toNat)

/-- The first octet of a two-octet field. -/
def hi (v : Half) : Octet := oct (v.toNat / 256)

/-- The second octet of a two-octet field. -/
def lo (v : Half) : Octet := oct v.toNat

/-- A flag: 0 clear, 1 set (12.2). -/
def flag (b : Bool) : Octet := if b then 1 else 0

/-- A part that may be absent: one presence octet, and the part when it is present (12.2, R183). -/
def optional {α : Type} (x : Option α) (f : α → List Octet) : List Octet :=
  match x with
  | none => [0]
  | some a => 1 :: f a

/-- A signed 32-bit detail in two's complement (12). -/
def detailOctets (d : Int) : List Octet := be 4 (BitVec.ofInt 32 d).toNat

/-! ## The CRC (12, R182) -/

/-- One shift of the register. -/
def crcShift (r : BitVec 16) : BitVec 16 := if r.msb then (r <<< 1) ^^^ 0x1021#16 else r <<< 1

/-- n shifts of the register. -/
def crcShifts : Nat → BitVec 16 → BitVec 16
  | 0, r => r
  | n + 1, r => crcShifts n (crcShift r)

/-- One octet into the register. -/
def crcOctet (r : BitVec 16) (o : Octet) : BitVec 16 := crcShifts 8 (r ^^^ (o.setWidth 16 <<< 8))

/-- The CRC-16 of octets, from all ones. -/
def crc16 (os : List Octet) : BitVec 16 := os.foldl crcOctet 0xFFFF#16

/-- The two CRC octets that follow the octets they are computed over. -/
def withCrc (os : List Octet) : List Octet := os ++ [hi (crc16 os), lo (crc16 os)]

/-- The last two of the octets are the CRC of the others. -/
def crcMatches (os : List Octet) : Bool :=
  decide (withCrc (os.take (os.length - 2)) = os)

/-! ## Link frames (12, R182) -/

/-- The start mark. -/
def startMark : Octet := 0xA5#8

/-- The longest body. -/
def maxBody : Nat := 240

/-- The octets after the start mark of a frame with this tag, kind and body. -/
def linkOctets (tag kind : Octet) (body : List Octet) : List Octet :=
  withCrc (oct body.length :: tag :: kind :: body)

/-- The octets kept by a receiver, from the length octet on, are a whole frame: length, tag, kind, body, CRC
(11, R170). -/
def linkComplete (kept : List Octet) : Bool :=
  match kept with
  | [] => false
  | n :: _ => decide (n.toNat ≤ maxBody) && decide (kept.length = n.toNat + 5)

/-- The tag, kind and body of a whole frame's octets. -/
def linkFields (kept : List Octet) : RequestFrame :=
  { tag := kept.getD 1 0, kind := kept.getD 2 0, body := (kept.drop 3).take (kept.length - 5) }

/-- The octets a transmit frame puts on the line. -/
def TxFrame.octets (f : TxFrame) : List Octet := startMark :: linkOctets f.tag f.kind f.body

/-! ## Field frames (12, R182) -/

/-- POLL (the field frame kinds). -/
def pollKind : Octet := 1
/-- POLL_CMD. -/
def pollCmdKind : Octet := 2
/-- PASS. -/
def passKind : Octet := 3
/-- REPLY. -/
def replyFrameKind : Octet := 4

/-- The longest field payload. -/
def maxPayload : Nat := 32

/-- A field frame. -/
def fieldFrame (address : Nat) (kind : Octet) (payload : List Octet) : List Octet :=
  withCrc (oct address :: kind :: oct payload.length :: payload)

/-- What the first octets that arrive in a window make (02, R22, R33; 12, R182): nothing complete yet, a frame that fails
its checks against the address polled, or a good reply with its payload. A length octet above 32 counts as a wrong
CRC. -/
def judgeField (address : Nat) (os : List Octet) : Verdict :=
  match os with
  | a :: k :: n :: rest =>
    if maxPayload < n.toNat then .miss
    else if rest.length < n.toNat + 2 then .waiting
    else if decide (withCrc (a :: k :: n :: rest.take n.toNat) = a :: k :: n :: rest.take (n.toNat + 2))
        && decide (k = replyFrameKind) && decide (a.toNat = address) then .good (rest.take n.toNat)
    else .miss
  | _ => .waiting

/-! ## Codes a request may carry (12.5) -/

/-- A ladder code. -/
def ladderOfCode (o : Octet) : Option LadderId :=
  match o.toNat with
  | 1 => some .chiller
  | 2 => some .pump
  | _ => none

/-- A guard code. -/
def Guard.ofCode (o : Octet) : Option Guard :=
  match o.toNat with
  | 0 => some .anyone
  | 1 => some .panel
  | _ => none

/-- A granularity code. -/
def Granularity.ofCode (o : Octet) : Option Granularity :=
  match o.toNat with
  | 0 => some .fine
  | 1 => some .coarse
  | _ => none

/-- A throttle code: whether throttling is ALLOWED. -/
def throttleOfCode (o : Octet) : Option Bool :=
  match o.toNat with
  | 0 => some true
  | 1 => some false
  | _ => none

/-- A timer kind code. -/
def TimerKind.ofCode (o : Octet) : Option TimerKind :=
  match o.toNat with
  | 1 => some .prove
  | 2 => some .stop
  | 3 => some .run
  | 4 => some .rest
  | 5 => some .up
  | 6 => some .down
  | _ => none

/-- A window mode code. -/
def StorageMode.ofCode (o : Octet) : Option StorageMode :=
  match o.toNat with
  | 0 => some .hold
  | 1 => some .charge
  | 2 => some .discharge
  | _ => none

/-- A demand code. -/
def Demand.ofCode (o : Octet) : Option Demand :=
  match o.toNat with
  | 0 => some .stop
  | 1 => some .run
  | _ => none

/-- An edge code. -/
def Edge.ofCode (o : Octet) : Option Edge :=
  match o.toNat with
  | 0 => some .off
  | 1 => some .rising
  | 2 => some .falling
  | 3 => some .both
  | _ => none

/-- An action code. -/
def Action.ofCode (o : Octet) : Option Action :=
  match o.toNat with
  | 0 => some .note
  | 1 => some .holdStage
  | 2 => some .stopAll
  | _ => none

/-- A ladder selection of STAGE HOLD and STAGE FREE: chiller, pump, both (12.3). -/
def selectionOfCode (o : Octet) : Option (Bool × Bool) :=
  match o.toNat with
  | 1 => some (true, false)
  | 2 => some (false, true)
  | 3 => some (true, true)
  | _ => none

/-! ## Slot entries and windows (12.2) -/

/-- A slot entry's three octets, undecoded. -/
structure RawSlot where
  code   : Octet
  first  : Octet
  second : Octet
  deriving DecidableEq, Repr

/-- The entries of a SLOT MAP WRITE body, three octets each. -/
def rawSlots : List Octet → List RawSlot
  | a :: b :: c :: rest => ⟨a, b, c⟩ :: rawSlots rest
  | _ => []

/-- Check 3 of SLOT MAP WRITE: the code of octet 0 is defined. -/
def RawSlot.defined (r : RawSlot) : Bool := decide (r.code.toNat ≤ 7)

/-- The entry, when its index, ladder and position are in range (check 4); `none` otherwise. -/
def RawSlot.decode (r : RawSlot) : Option SlotEntry :=
  let command := decide (r.code.toNat % 2 = 1)
  match r.code.toNat / 2 with
  | 0 => some ⟨.unbound, command⟩
  | 1 => if r.first.toNat < Config.branchCount then some ⟨.branch r.first.toNat, command⟩ else none
  | 2 =>
    match ladderOfCode r.first with
    | none => none
    | some l =>
      if 1 ≤ r.second.toNat ∧ r.second.toNat ≤ ladderSize l then some ⟨.unit l r.second.toNat, command⟩ else none
  | 3 => some ⟨.header, command⟩
  | _ => none

/-- A tariff window's five octets, undecoded. -/
structure RawWindow where
  start : Nat
  mode  : Octet
  rate  : Nat
  deriving DecidableEq, Repr

/-- The windows of a WINDOW SET body, five octets each. -/
def rawWindows : List Octet → List RawWindow
  | a :: b :: m :: c :: d :: rest => ⟨ofBe [a, b], m, ofBe [c, d]⟩ :: rawWindows rest
  | _ => []

/-- A window, when its mode code is defined and its start minute within the day (09, R148 check 4). -/
def RawWindow.decode (r : RawWindow) : Option TariffWindow :=
  match StorageMode.ofCode r.mode with
  | none => none
  | some m => if r.start ≤ 1439 then some ⟨r.start, m, r.rate⟩ else none

/-! ## Reply payloads of stations (12, R183) -/

/-- What a payload of the right form says: status OK or LOCAL with its values, or status FAULT. -/
inductive StationReply (α : Type) where
  | alive (isLocal : Bool) (values : α)
  | fault
  deriving DecidableEq, Repr

/-- A status code with the values that come with it; `none` for an undefined code. -/
def stationReply {α : Type} (status : Octet) (values : α) : Option (StationReply α) :=
  match status.toNat with
  | 0 => some (.alive false values)
  | 1 => some (.alive true values)
  | 2 => some .fault
  | _ => none

/-- A CONSUMER payload, 11 octets, clamped as it is taken (01, R13). -/
def consumerReply (os : List Octet) : Option (StationReply BranchValues) :=
  match os with
  | [st, a, b, c, d, e, f, g, h, i, j] =>
    stationReply st
      { ts := min 3000 (ofBe [a, b]), tr := min 3000 (ofBe [c, d]), q := ofBe [e, f],
        tail := .consumer (min 10000 (ofBe [g, h])) (min 1000 (ofBe [i, j])) }
  | _ => none

/-- A storage direction code. -/
def Direction.ofCode (o : Octet) : Option Direction :=
  match o.toNat with
  | 0 => some .idle
  | 1 => some .charging
  | 2 => some .discharging
  | _ => none

/-- A STORAGE payload, 8 octets. -/
def storageReply (os : List Octet) : Option (StationReply BranchValues) :=
  match os with
  | [st, a, b, c, d, e, f, dir] =>
    match Direction.ofCode dir with
    | none => none
    | some x =>
      stationReply st
        { ts := min 3000 (ofBe [a, b]), tr := min 3000 (ofBe [c, d]), q := ofBe [e, f], tail := .storage x }
  | _ => none

/-- A header payload, 9 octets. -/
def headerReply (os : List Octet) : Option (StationReply HeaderValues) :=
  match os with
  | [st, a, b, c, d, e, f, g, h] =>
    stationReply st
      { dph := min 10000 (ofBe [a, b]), tsup := min 3000 (ofBe [c, d]), tret := min 3000 (ofBe [e, f]),
        qtotal := ofBe [g, h] }
  | _ => none

/-- A run proof code. -/
def proofOfCode (o : Octet) : Option Bool :=
  match o.toNat with
  | 0 => some false
  | 1 => some true
  | _ => none

/-- A unit payload, 4 octets; a chiller's value clamps at 3000 and a pump's at 1000 (06, R102). -/
def unitReply (l : LadderId) (os : List Octet) : Option (StationReply UnitValues) :=
  match os with
  | [st, pr, a, b] =>
    match proofOfCode pr with
    | none => none
    | some proof =>
      stationReply st
        { proof := proof,
          value := match l with
            | .chiller => min 3000 (ofBe [a, b])
            | .pump => min 1000 (ofBe [a, b]) }
  | _ => none

/-! ## Command payloads and command blocks (12, R183) -/

/-- A consumer's block: the valve ceiling. -/
def ceilingOctets (c : Nat) : List Octet := be 2 c

/-- The storage branch's block: mode, rate. -/
def storageCmdOctets (c : StorageCmd) : List Octet := oct c.mode.code :: be 2 c.rate

/-- A unit's block: demand, setpoint. -/
def unitCmdOctets (c : UnitCmd) : List Octet := oct c.demand.code :: be 2 c.setpoint

/-! ## Parts of replies (12, R183; log 11) -/

/-- A closed reading: presence, status, and the values behind a presence octet of their own. -/
def closedOctets {α : Type} (c : Option (Closed α)) (f : α → List Octet) : List Octet :=
  optional c fun x => oct x.status.code :: optional x.values f

/-- A branch reading's values in the order of 01, section 1.6. -/
def branchValuesOctets (v : BranchValues) : List Octet :=
  be 2 v.ts ++ be 2 v.tr ++ be 2 v.q ++
    match v.tail with
    | .consumer dpb valve => be 2 dpb ++ be 2 valve
    | .storage d => [oct d.code]

/-- The header reading's values. -/
def headerValuesOctets (v : HeaderValues) : List Octet := be 2 v.dph ++ be 2 v.tsup ++ be 2 v.tret ++ be 2 v.qtotal

/-- A unit reading's values. -/
def unitValuesOctets (v : UnitValues) : List Octet := flag v.proof :: be 2 v.value

/-- A timer's state and remaining seconds. -/
def timerOctets (t : Timer) : List Octet := flag t.isCounting :: be 2 t.remaining

/-- A schedule, laid out as a WINDOW SET body: the count and five octets a window. -/
def scheduleOctets (ws : List TariffWindow) : List Octet :=
  oct ws.length :: ws.flatMap fun w => be 2 w.start ++ [oct w.mode.code] ++ be 2 w.rate

/-- An event record (12.2). -/
def EventRecord.octets (e : EventRecord) : List Octet :=
  be 4 e.count.toNat ++ [oct e.position, oct e.note.kind.code] ++ be 2 e.note.subject ++ detailOctets e.note.detail

/-- A capture record (12.2). -/
def Capture.octets (c : Capture) : List Octet :=
  be 4 c.count.toNat ++ [oct (c.position.getD 255), if c.rising then 1 else 2, flag c.overwritten]

/-- The plant limits in the order of the PLANT LIMITS SET body; a header address of none is 0 (12.3, R183); its
one-octet fields stay so in reports (log 37). -/
def limitsOctets (x : Limits) (headerAddress : Option Nat) : List Octet :=
  be 2 x.dpMin ++ be 2 x.dpMax ++ be 2 x.dpFallback ++ be 2 x.dpMargin ++ be 2 x.dpRamp ++ be 2 x.trim
    ++ be 2 x.trimThreshold ++ be 2 x.supplySet ++ be 2 x.supplyBand ++ [oct x.upPct, oct x.downPct]
    ++ be 2 x.pumpUp ++ be 2 x.pumpDown ++ [oct x.kStale, oct x.kLost, oct (headerAddress.getD 0)]

/-! ## Bodies of fixed shape, read and written (12.2, 12.3) -/

/-- The octets of a BRANCH LOAD body. -/
def branchLoadOctets (b : BranchLoadBody) : List Octet :=
  [b.index, b.typeCode, b.address, b.guardCode, hi b.flow, lo b.flow, b.granularity, hi b.designDt, lo b.designDt,
    hi b.dtMargin, lo b.dtMargin, b.persist, b.throttle, hi b.floor, lo b.floor, b.step, hi b.dpRequired,
    lo b.dpRequired, hi b.dpCeiling, lo b.dpCeiling, hi b.substitute, lo b.substitute] ++ b.rest

/-- A BRANCH LOAD body of 22 octets or more. -/
def branchLoadOf (os : List Octet) : Option BranchLoadBody :=
  match os with
  | i :: t :: a :: g :: f1 :: f2 :: gr :: d1 :: d2 :: m1 :: m2 :: pe :: th :: l1 :: l2 :: st :: r1 :: r2 :: c1 :: c2
      :: s1 :: s2 :: rest =>
    some { index := i, typeCode := t, address := a, guardCode := g, flow := half f1 f2, granularity := gr,
           designDt := half d1 d2, dtMargin := half m1 m2, persist := pe, throttle := th, floor := half l1 l2,
           step := st, dpRequired := half r1 r2, dpCeiling := half c1 c2, substitute := half s1 s2, rest := rest }
  | _ => none

/-- The octets of a UNIT LOAD body. -/
def unitLoadOctets (b : UnitLoadBody) : List Octet :=
  [b.ladder, b.position, b.kindCode, b.address, b.guardCode] ++ b.rest

/-- A UNIT LOAD body of 5 octets or more. -/
def unitLoadOf (os : List Octet) : Option UnitLoadBody :=
  match os with
  | l :: p :: k :: a :: g :: rest => some ⟨l, p, k, a, g, rest⟩
  | _ => none

/-- The octets of a PLANT LIMITS SET body. -/
def limitsBodyOctets (b : LimitsBody) : List Octet :=
  [hi b.dpMin, lo b.dpMin, hi b.dpMax, lo b.dpMax, hi b.dpFallback, lo b.dpFallback, hi b.dpMargin, lo b.dpMargin,
    hi b.dpRamp, lo b.dpRamp, hi b.trim, lo b.trim, hi b.trimThreshold, lo b.trimThreshold, hi b.supplySet,
    lo b.supplySet, hi b.supplyBand, lo b.supplyBand, b.upPct, b.downPct, hi b.pumpUp, lo b.pumpUp, hi b.pumpDown,
    lo b.pumpDown, b.kStale, b.kLost, b.headerAddress]

/-- A PLANT LIMITS SET body of 27 octets. -/
def limitsBodyOf (os : List Octet) : Option LimitsBody :=
  match os with
  | [a1, a2, b1, b2, c1, c2, d1, d2, e1, e2, f1, f2, g1, g2, h1, h2, i1, i2, u, dn, j1, j2, k1, k2, ks, kl, ha] =>
    some { dpMin := half a1 a2, dpMax := half b1 b2, dpFallback := half c1 c2, dpMargin := half d1 d2,
           dpRamp := half e1 e2, trim := half f1 f2, trimThreshold := half g1 g2, supplySet := half h1 h2,
           supplyBand := half i1 i2, upPct := u, downPct := dn, pumpUp := half j1 j2, pumpDown := half k1 k2,
           kStale := ks, kLost := kl, headerAddress := ha }
  | _ => none

end Sys2Proof.Machine
end

