-- ==== Sys2Proof/Decode.lean ====
section
/-! DEFINITION. spec/opcode_table.json gives no row any bits, so no word spells a command. What the manual does give a
request is a link frame (12, R182; 12.3): `requestFrame` is that frame's tag, kind and body. -/

namespace Sys2Proof

/-- The command a word of the opcode table's bits spells: none, since no row has bits. -/
def decodeTableWord (nbits w : Nat) : Option Instr :=
  match nbits, w with
  | _, _ => none

/-- The port and the request frame of a request command (12.3); an event has none. -/
def requestFrame : Instr → Option (Port × Machine.RequestFrame)
  | .branchLoad p tag b => some (p, ⟨tag, 1, Machine.branchLoadOctets b⟩)
  | .branchRelease p tag i => some (p, ⟨tag, 2, [i]⟩)
  | .unitLoad p tag b => some (p, ⟨tag, 3, Machine.unitLoadOctets b⟩)
  | .ladderRotate p tag l => some (p, ⟨tag, 4, [l]⟩)
  | .slotMapWrite p tag first count entries => some (p, ⟨tag, 5, first :: count :: entries⟩)
  | .cycleSet p tag period => some (p, ⟨tag, 6, [Machine.hi period, Machine.lo period]⟩)
  | .plantLimitsSet p tag b => some (p, ⟨tag, 7, Machine.limitsBodyOctets b⟩)
  | .timerPeriodSet p tag l k period => some (p, ⟨tag, 8, [l, k, Machine.hi period, Machine.lo period]⟩)
  | .timerReload p tag l position k => some (p, ⟨tag, 9, [l, position, k]⟩)
  | .windowSet p tag count windows => some (p, ⟨tag, 10, count :: windows⟩)
  | .windowReload p tag => some (p, ⟨tag, 11, []⟩)
  | .timeSet p tag minute second => some (p, ⟨tag, 12, [Machine.hi minute, Machine.lo minute, second]⟩)
  | .channelSet p tag channel edge action => some (p, ⟨tag, 13, [channel, edge, action]⟩)
  | .unitHand p tag l position demand => some (p, ⟨tag, 14, [l, position, demand]⟩)
  | .unitAuto p tag l position => some (p, ⟨tag, 15, [l, position]⟩)
  | .unitClear p tag l position => some (p, ⟨tag, 16, [l, position]⟩)
  | .stageHold p tag selection => some (p, ⟨tag, 17, [selection]⟩)
  | .stageFree p tag selection => some (p, ⟨tag, 18, [selection]⟩)
  | .releaseStop p tag => some (p, ⟨tag, 19, []⟩)
  | .goLive p tag => some (p, ⟨tag, 20, []⟩)
  | .restart p tag => some (p, ⟨tag, 21, []⟩)
  | .fieldPass p tag address payload => some (p, ⟨tag, 22, address :: payload⟩)
  | .meterSnapshot p tag => some (p, ⟨tag, 23, []⟩)
  | .readBranch p tag i => some (p, ⟨tag, 24, [i]⟩)
  | .readUnit p tag l position => some (p, ⟨tag, 25, [l, position]⟩)
  | .readLadder p tag l => some (p, ⟨tag, 26, [l]⟩)
  | .readPlant p tag => some (p, ⟨tag, 27, []⟩)
  | .readStorage p tag => some (p, ⟨tag, 28, []⟩)
  | .readEvents p tag => some (p, ⟨tag, 29, []⟩)
  | .readCapture p tag channel => some (p, ⟨tag, 30, [channel]⟩)
  | .readSnapshot p tag i => some (p, ⟨tag, 31, [i]⟩)
  | .unitDisable p tag l position => some (p, ⟨tag, 32, [l, position]⟩)
  | .unitEnable p tag l position => some (p, ⟨tag, 33, [l, position]⟩)
  | .linkFrameComplete _ _ => none
  | .heldFrameTaken _ => none
  | .receiverGap _ => none
  | .transmitFrameSent _ => none
  | .cycleStart => none
  | .mappedSlot => none
  | .fieldReplyReceived _ => none
  | .replyWindowClose => none
  | .openSlot => none
  | .cycleEnd => none
  | .secondMark => none
  | .proveExpiry _ _ => none
  | .stopExpiry _ _ => none
  | .runExpiry _ _ => none
  | .restExpiry _ _ => none
  | .upExpiry _ => none
  | .downExpiry _ => none
  | .windowBoundary => none
  | .inputEdge _ _ => none
  | .coldReset => none
  | .rstRelease _ _ => none
  | .linkOctetReceived _ _ => none

end Sys2Proof
end

