-- ==== Sys2Proof/Machine/Flags.lean ====
section
/-! DEFINITION. The flags, lamps and lines that the manual defines from other state: each is stored once, in what it is
computed from, and read through the definition here (log 26). -/

namespace Sys2Proof.Machine

/-- ATTN and its lamp: asserted while the event list holds a record or a channel is pending (10, R168). -/
def State.attn (s : State) : Bool := !s.events.records.isEmpty || s.inputs.channels.any (·.pending)

/-- The STOP lamp (10, R164, R165). -/
def State.stopLamp (s : State) : Bool := s.inputs.stopLatch

/-- The SHADOW lamp (02, R40). -/
def State.shadowLamp (s : State) : Bool := s.fc.shadow

/-- The throttled flag: set while the ceiling is below 1000 (04, R71). -/
def Throttle.throttled (t : Throttle) : Bool := decide (t.ceiling < Config.ceilingMax)

/-- The storage branch is available (09, R145). -/
def Branch.available (b : Branch) : Bool :=
  !b.station.joined &&
    (decide (b.station.freshness = .online) || decide (b.station.freshness = .localCtl)
      || decide (b.station.freshness = .held))

/-- A unit in RUNNING or in HAND with demand RUN: for a pump, a pump in service (07, R126). -/
def PlantUnit.inService (u : PlantUnit) : Bool := decide (u.state = .running) || decide (u.state = .hand .run)

/-- A unit that a flow-loss stop or the STOP latch takes to STOPPING: STARTING, RUNNING or HAND (07, R128, R129). -/
def PlantUnit.stoppable (u : PlantUnit) : Bool :=
  match u.state with
  | .starting => true
  | .running => true
  | .hand _ => true
  | _ => false

/-- A chiller that the interlock protects: STARTING, RUNNING or HAND with demand RUN (07, R126). -/
def PlantUnit.needsFlow (u : PlantUnit) : Bool := decide (u.state = .starting) || u.inService

/-- A unit that counts in the running capacity: RUNNING, or HAND-run and proved, its PROVE timer no longer counting
(07, R119, R122). -/
def PlantUnit.delivers (u : PlantUnit) : Bool :=
  decide (u.state = .running) || (decide (u.state = .hand .run) && !u.prove.isCounting)

/-- The closed reading shows proof, whatever its status (07, R120; log 24). -/
def PlantUnit.proof (u : PlantUnit) : Bool := u.station.values.any (·.proof)

/-- Some pump is in RUNNING or in HAND with demand RUN (07, R126). -/
def Ladder.serves (L : Ladder) : Bool := L.units.any fun u => u.any (·.inService)

/-- A unit of the ladder is in STARTING (07, R125). -/
def Ladder.hasStarting (L : Ladder) : Bool := L.units.any fun u => u.any fun v => decide (v.state = .starting)

/-- A channel's input is active, by its edge selection and its taken level (10, R159). -/
def Channel.active (c : Channel) : Bool :=
  match c.edge with
  | .off => false
  | .rising => c.level
  | .falling => !c.level
  | .both => c.level

/-- The edge selection captures a change in this direction (10, R159). -/
def Edge.captures (e : Edge) (rising : Bool) : Bool :=
  match e with
  | .off => false
  | .rising => rising
  | .falling => !rising
  | .both => true

/-- The input hold: some HOLD_STAGE channel has its input active (10, R163). -/
def Inputs.holds (x : Inputs) : Bool := x.channels.any fun c => decide (c.action = .holdStage) && c.active

/-- Some STOP_ALL channel has its input active (10, R165). -/
def Inputs.stopActive (x : Inputs) : Bool := x.channels.any fun c => decide (c.action = .stopAll) && c.active

end Sys2Proof.Machine
end

