-- ==== Sys2Proof/Machine/Metering.lean ====
section
/-! DEFINITION. Thermal Metering (03): power, energy and volume at readings-closed, the staging load, the snapshot table
and its requests. -/

namespace Sys2Proof.Machine

/-! ## Power (03, R46 to R49) -/

/-- dT of a reading: Tr - Ts, and 0 when that is negative (03, R46; 04, R64). -/
def BranchValues.dT (v : BranchValues) : Nat := v.tr - v.ts

/-- P_W of R47: floor(Q x dT x 4186 / 10000), in W. -/
def BranchValues.power (v : BranchValues) : Nat := v.q * v.dT * 4186 / 10000

/-- The closed reading's values of a fresh record. -/
def Branch.freshValues (b : Branch) : Option BranchValues := if b.station.isFresh then b.station.values else none

/-- P_used of R49; `none` where nothing is integrated. -/
def Branch.usedPower (b : Branch) : Option Nat :=
  if b.station.joined then none
  else
    match b.station.freshness with
    | .online => b.station.values.map (·.power)
    | .localCtl => b.station.values.map (·.power)
    | .held => some b.meter.lastPower
    | .stale => some b.meter.lastPower
    | .lost => some (b.desc.substitute * 1000)
    | .awaiting => none

/-! ## Integration (03, R50 to R52) -/

/-- An accumulator after an increment: its value, its residue, and whether it wrapped. `unit` is how much residue makes
one. -/
structure Accum where
  value   : Nat
  residue : Nat
  wrapped : Bool
  deriving DecidableEq, Repr

/-- Adding an increment to an accumulator (03, R50 to R52). -/
def accumulate (unit value residue inc : Nat) : Accum :=
  let sum := value + (residue + inc) / unit
  { value := if Config.accumulatorWrap ≤ sum then sum - Config.accumulatorWrap else sum,
    residue := (residue + inc) % unit,
    wrapped := decide (Config.accumulatorWrap ≤ sum) }

/-- The event of a wrap, with the accumulator's number (03, R52). -/
def rolloverNotes (index number : Nat) (a : Accum) : List Note :=
  if a.wrapped then [⟨.accumRollover, index, number⟩] else []

/-- Metering one fresh record (03, R46, R47, R50 to R52). -/
def meterFresh (tc index : Nat) (m : Meter) (v : BranchValues) : Meter × List Note :=
  let e := accumulate Config.residuePerWh m.measured m.measuredRes (v.power * tc)
  let w := accumulate Config.residuePerLitre m.volume m.volumeRes (v.q * tc)
  ({ m with measured := e.value, measuredRes := e.residue, volume := w.value, volumeRes := w.residue,
            lastPower := v.power, rollover := m.rollover || e.wrapped || w.wrapped,
            reversedRun := decide (v.tr < v.ts) },
   (if v.tr < v.ts ∧ m.reversedRun = false then [⟨.reversedDt, index, (v.tr : Int) - v.ts⟩] else [])
     ++ rolloverNotes index 1 e ++ rolloverNotes index 3 w)

/-- Metering one record that was missed: its power goes to the estimated energy (03, R49, R50, R52). -/
def meterEstimated (tc index power : Nat) (m : Meter) : Meter × List Note :=
  let e := accumulate Config.residuePerWh m.estimated m.estimatedRes (power * tc)
  ({ m with estimated := e.value, estimatedRes := e.residue, rollover := m.rollover || e.wrapped },
   rolloverNotes index 2 e)

/-- Metering one record (03, R45 to R52). -/
def meterBranch (tc index : Nat) (b : Branch) : Branch × List Note :=
  match b.freshValues with
  | some v => let x := meterFresh tc index b.meter v; ({ b with meter := x.1 }, x.2)
  | none =>
    match b.usedPower with
    | some w => let x := meterEstimated tc index w b.meter; ({ b with meter := x.1 }, x.2)
    | none => (b, [])

/-! ## The staging load (03, R53 to R56) -/

/-- P_used of a CONSUMER record, 0 of any other. -/
def consumerPower (b : Option Branch) : Nat :=
  match b with
  | some b => if b.isStorage then 0 else b.usedPower.getD 0
  | none => 0

/-- A CONSUMER record that contributes its power in one of the freshness states given (03, R56). -/
def contributes (states : List Freshness) (b : Option Branch) : Bool :=
  match b with
  | some b => !b.isStorage && b.usedPower.isSome && states.contains b.station.freshness
  | none => false

/-- P_s: the power of a fresh STORAGE record (03, R48, R54). -/
def storagePower (bs : List (Option Branch)) : Nat :=
  match storageIn bs with
  | some x => (x.2.freshValues.map (·.power)).getD 0
  | none => 0

/-- The storage term S (03, R54), by the mode the scheduler holds. -/
def storageTerm (mode : StorageMode) (ps : Nat) : Int :=
  match mode with
  | .charge => ps
  | .discharge => -(ps : Int)
  | .hold => 0

/-- The figures of load-published, from the records as the closing rule left them (03, R53 to R56). -/
def loadFigures (count : CycleCount) (mode : StorageMode) (bs : List (Option Branch)) : LoadFigures :=
  let lCons := (bs.map consumerPower).sum
  let term := storageTerm mode (storagePower bs)
  { lStage := (((lCons : Int) + term) / 1000).toNat,
    lCons := lCons / 1000,
    sign := if 0 < term then .positive else if term < 0 then .negative else .zero,
    magnitude := term.natAbs / 1000,
    nMeasured := bs.countP (contributes [.online, .localCtl]),
    nHeld := bs.countP (contributes [.held, .stale]),
    nSubst := bs.countP (contributes [.lost]),
    count := count }

/-- The Metering Unit's work at readings-closed: every record metered in ascending index order, then the load
(03, R45, R53, R55). -/
def meterTable (tc : Nat) (s : State) : State :=
  let metered : List (Option (Branch × List Note)) := s.branches.zipIdx.map fun x => x.1.map (meterBranch tc x.2)
  let s' : State := { s with
    branches := metered.map fun x => x.map Prod.fst,
    load := loadFigures s.fc.count s.store.mode s.branches }
  s'.notes (metered.flatMap fun x => (x.map Prod.snd).getD [])

/-! ## Snapshots (03, R57 to R59) -/

/-- A record's snapshot entry. -/
def snapEntry (b : Branch) : SnapEntry :=
  { measured := b.meter.measured, estimated := b.meter.estimated, volume := b.meter.volume,
    rollover := b.meter.rollover }

/-- METER SNAPSHOT (03, R57). -/
def serveMeterSnapshot (s : State) : State × Reply :=
  ({ s with
     snapshot := some { count := s.fc.count, position := s.fc.position, entries := s.branches.map (·.map snapEntry) },
     branches := s.branches.map (·.map fun b => { b with meter := { b.meter with rollover := false } }) },
   ⟨.done, be 4 s.fc.count.toNat ++ [oct s.fc.position, oct (s.branches.countP (·.isSome))]⟩)

/-- The snapshot entry at an index (03, R59). -/
def State.snapAt (s : State) (index : Nat) : Option (Snapshot × SnapEntry) :=
  s.snapshot.bind fun t => ((t.entries[index]?).join).map fun e => (t, e)

/-- A READ SNAPSHOT reply's content (12.2). -/
def snapOctets (t : Snapshot) (e : SnapEntry) : List Octet :=
  be 5 e.measured ++ be 5 e.estimated ++ be 5 e.volume ++ [flag e.rollover] ++ be 4 t.count.toNat ++ [oct t.position]

/-- READ SNAPSHOT (03, R59). -/
def serveReadSnapshot (index : Octet) (s : State) : State × Reply :=
  if Config.branchCount ≤ index.toNat then refuse s .refusedIndex
  else
    match s.snapAt index.toNat with
    | none => refuse s .refusedAbsent
    | some x => (s, ⟨.done, snapOctets x.1 x.2⟩)

/-- METER_SNAPSHOT. -/
def execMeterSnapshot (p : Port) (tag : Octet) (s : State) : Host.Outcome State Fault Refusal :=
  request p tag 23 [] serveMeterSnapshot s

/-- READ_SNAPSHOT. -/
def execReadSnapshot (p : Port) (tag : Octet) (index : Octet) (s : State) : Host.Outcome State Fault Refusal :=
  request p tag 31 [index] (serveReadSnapshot index) s

end Sys2Proof.Machine
end

