-- ==== Sys2Proof/Machine/Storage.lean ====
section
/-! DEFINITION. Thermal Storage Scheduling (09): the day clock, the schedules, the storage mode and its command, the
state of charge with FULL and EMPTY, and the scheduler's requests. -/

namespace Sys2Proof.Machine

/-! ## The storage branch as the scheduler sees it (09, R145) -/

/-- The STORAGE record of the table, with its index. -/
def State.storage (s : State) : Option (Nat × Branch) := storageIn s.branches

/-- The storage part of a record's descriptor. -/
def Branch.storageDesc (b : Branch) : Option StorageDesc :=
  match b.part with
  | .storage d _ _ => some d
  | .consumer _ _ _ => none

/-- The capacity in 0.1 J (09, R154). -/
def StorageDesc.full (d : StorageDesc) : Nat := d.capacity * Config.joulesPerKWh

/-- The storage part of the loaded STORAGE record. -/
def storagePart (st : Option (Nat × Branch)) : Option StorageDesc := st.bind fun x => x.2.storageDesc

/-- The storage branch is available (09, R145). -/
def storageAvailable (st : Option (Nat × Branch)) : Bool := st.any fun x => x.2.available

/-- The subject of storage events: the record's index, or 49 when none is loaded (09, R152). -/
def storageSubject (st : Option (Nat × Branch)) : Nat := (st.map Prod.fst).getD noStorageSubject

/-! ## Windows and the mode (09, R151, R152, R155) -/

/-- The current window (09, R151); schedules stand in ascending order of start minute. -/
def Scheduler.findWindow (q : Scheduler) : Option TariffWindow :=
  match q.clock with
  | none => none
  | some c =>
    match (q.active.filter fun w => decide (w.start ≤ c.minute)).getLast? with
    | some w => some w
    | none => q.active.getLast?

/-- The mode and rate a window asks for of an available storage branch (09, R152, lines 4 to 8). -/
def windowMode (q : Scheduler) (d : StorageDesc) (w : TariffWindow) : StorageMode × Nat :=
  match w.mode with
  | .charge => if q.full then (.hold, 0) else (.charge, min w.rate d.chargeLimit)
  | .discharge => if q.empty then (.hold, 0) else (.discharge, min w.rate d.dischargeLimit)
  | .hold => (.hold, 0)

/-- The table of R152: the mode and the commanded rate. -/
def chooseMode (q : Scheduler) (st : Option (Nat × Branch)) : StorageMode × Nat :=
  if q.clock.isNone then (.hold, 0)
  else if storageAvailable st then
    match q.findWindow, storagePart st with
    | some w, some d => windowMode q d w
    | _, _ => (.hold, 0)
  else (.hold, 0)

/-- Setting mode and rate; a change of mode is stamped and noted (09, R152). -/
def Scheduler.setMode (count : CycleCount) (subject : Nat) (m : StorageMode × Nat) (q : Scheduler) :
    Scheduler × List Note :=
  if m.1 = q.mode then ({ q with rate := m.2 }, [])
  else ({ q with mode := m.1, rate := m.2, lastChange := count }, [⟨.storageMode, subject, m.1.code⟩])

/-- An evaluation of the mode (09, R152). -/
def Scheduler.evaluate (count : CycleCount) (st : Option (Nat × Branch)) (q : Scheduler) : Scheduler × List Note :=
  ({ q with window := q.findWindow.map (·.start) } : Scheduler).setMode count (storageSubject st) (chooseMode q st)

/-- FULL as the SOC and the record give it (09, R155). -/
def isFull (st : Option (Nat × Branch)) (soc : Nat) : Bool := (storagePart st).any fun d => decide (soc = d.full)

/-- EMPTY as the SOC and the record give it (09, R155). -/
def isEmpty (st : Option (Nat × Branch)) (soc : Nat) : Bool := st.isSome && decide (soc = 0)

/-- The events of the flags that a change of SOC or capacity sets (09, R155). -/
def flagNotes (st : Option (Nat × Branch)) (q : Scheduler) : List Note :=
  (if isFull st q.soc && !q.full then [⟨.storageFull, storageSubject st, (q.soc / Config.joulesPerKWh : Nat)⟩] else [])
    ++ (if isEmpty st q.soc && !q.empty then [⟨.storageEmpty, storageSubject st, 0⟩] else [])

/-- The flags brought up to date and the forced HOLD (09, R155; log 27). -/
def Scheduler.sync (count : CycleCount) (st : Option (Nat × Branch)) (q : Scheduler) : Scheduler × List Note :=
  let full := isFull st q.soc
  let empty := isEmpty st q.soc
  let flagged : Scheduler := { q with full := full, empty := empty }
  if (full && decide (q.mode = .charge)) || (empty && decide (q.mode = .discharge)) then
    let x := flagged.setMode count (storageSubject st) (.hold, 0)
    (x.1, flagNotes st q ++ x.2)
  else (flagged, flagNotes st q)

/-- The scheduler's work on its own state, with its events appended. -/
def State.schedule (s : State) (f : CycleCount → Option (Nat × Branch) → Scheduler → Scheduler × List Note) : State :=
  let x := f s.fc.count s.storage s.store
  ({ s with store := x.1 } : State).notes x.2

/-! ## The command (09, R153) -/

/-- A STORAGE record with its next command block replaced. -/
def Branch.withStorageCmd (c : StorageCmd) (b : Branch) : Branch :=
  match b.part with
  | .storage d _ cur => { b with part := .storage d (some c) cur }
  | .consumer _ _ _ => b

/-- Mode and rate written into the next command block of a STORAGE record that is not AWAITING (09, R153). -/
def State.writeStorageCmd (s : State) : State :=
  match s.storage with
  | some x =>
    if x.2.station.freshness = .awaiting then s
    else s.setBranch x.1 (some (x.2.withStorageCmd ⟨s.store.mode, s.store.rate⟩))
  | none => s

/-- An evaluation with the write that ends it (09, R152, R153). -/
def State.evaluateMode (s : State) : State := (s.schedule Scheduler.evaluate).writeStorageCmd

/-! ## Readings-closed (09, R154) -/

/-- SOC after an increment in the direction reported (09, R154). -/
def chargeAfter (full soc inc : Nat) : Direction → Nat
  | .charging => min full (soc + inc)
  | .discharging => soc - inc
  | .idle => soc

/-- SOC after a closed cycle of the STORAGE record (09, R154). -/
def socAfter (tc : Nat) (b : Branch) (soc : Nat) : Nat :=
  match b.freshValues, b.storageDesc with
  | some v, some d =>
    match v.tail with
    | .storage dir => chargeAfter d.full soc (v.power * tc) dir
    | .consumer _ _ => soc
  | _, _ => soc

/-- The scheduler's work at readings-closed; `was` says whether the branch was available before the closing
(09, R154). -/
def storageClosed (tc : Nat) (was : Bool) (s : State) : State :=
  match s.storage with
  | none => s
  | some x =>
    if x.2.station.joined then s
    else
      let charged : State := { s with store := { s.store with soc := socAfter tc x.2 s.store.soc } }
      let synced := charged.schedule Scheduler.sync
      let judged := if x.2.available = was then synced else synced.schedule Scheduler.evaluate
      judged.writeStorageCmd

/-! ## Loading, reloading and releasing the storage branch (09, R156) -/

/-- The scheduler's part of a load from EMPTY of a STORAGE record. -/
def storageLoaded (s : State) : State :=
  ({ s with store := { s.store with soc := 0 } } : State).schedule Scheduler.sync

/-- The scheduler's part of a reload: SOC clamped to the new capacity, flags up to date. -/
def storageReloaded (d : StorageDesc) (s : State) : State :=
  ({ s with store := { s.store with soc := min d.full s.store.soc } } : State).schedule Scheduler.sync

/-- The scheduler's part of a null load: SOC 0, flags clear, the mode evaluated. -/
def storageReleased (s : State) : State :=
  (({ s with store := { s.store with soc := 0 } } : State).schedule Scheduler.sync).evaluateMode

/-! ## The clock and the boundary (09, R146, R150) -/

/-- One second of the day clock (09, R146). -/
def Clock.tick (c : Clock) : Clock :=
  if c.second < 59 then { c with second := c.second + 1 }
  else { minute := if c.minute < 1439 then c.minute + 1 else 0, second := 0 }

/-- A minute is the start minute of a window of the schedule. -/
def startsAt (ws : List TariffWindow) (minute : Nat) : Bool := ws.any fun w => decide (w.start = minute)

/-- A second mark for the day clock; a boundary is reached when it carries the clock into a start minute of the active
schedule (09, R146). -/
def Scheduler.tick (q : Scheduler) : Scheduler :=
  match q.clock with
  | none => q
  | some c =>
    { q with
      clock := some c.tick,
      boundaryDue := q.boundaryDue || (decide (59 ≤ c.second) && startsAt q.active c.tick.minute) }

/-- The boundary adopts a staged schedule (09, R150). -/
def Scheduler.adopt (q : Scheduler) : Scheduler :=
  match q.staged with
  | some ws => { q with active := ws, staged := none, boundaryDue := false }
  | none => { q with boundaryDue := false }

/-- A window boundary (09, R150), when one has been reached. -/
def windowBoundary (s : State) : State :=
  if s.store.boundaryDue then ({ s with store := s.store.adopt } : State).evaluateMode else s

/-- WINDOW_BOUNDARY (09, R150). -/
def execWindowBoundary (s : State) : Host.Outcome State Fault Refusal := .next (unlessReset s windowBoundary)

/-! ## Requests -/

/-- TIME SET (09, R147). -/
def serveTimeSet (minute : Half) (second : Octet) (s : State) : State × Reply :=
  (({ s with
      store := { s.store with
        clock := some { minute := min 1439 minute.toNat, second := min 59 second.toNat } } } : State).evaluateMode,
   ⟨doneIf (decide (1439 < minute.toNat) || decide (59 < second.toNat)), []⟩)

/-- TIME_SET. -/
def execTimeSet (p : Port) (tag : Octet) (minute : Half) (second : Octet) (s : State) :
    Host.Outcome State Fault Refusal :=
  request p tag 12 [hi minute, lo minute, second] (serveTimeSet minute second) s

/-- Check 3 of R148: the supervisory port and a PANEL-guarded STORAGE record. -/
def State.storageBars (s : State) (p : Port) : Bool :=
  decide (p = .supervisory) && s.storage.any fun x => decide (x.2.desc.guard = .panel)

/-- A window put at its place by start minute. -/
def insertWindow (w : TariffWindow) : List TariffWindow → List TariffWindow
  | [] => [w]
  | v :: rest => if w.start < v.start then w :: v :: rest else v :: insertWindow w rest

/-- Windows sorted by ascending start minute (09, R148). -/
def sortWindows (ws : List TariffWindow) : List TariffWindow := ws.foldr insertWindow []

/-- Where an accepted WINDOW SET goes (09, R148), with the placement code of its reply. -/
def placeSchedule (ws : List TariffWindow) (s : State) : State × Reply :=
  if s.store.clock.isNone || s.store.active.isEmpty then
    (({ s with store := { s.store with active := ws, staged := none } } : State).evaluateMode, ⟨.done, [0]⟩)
  else ({ s with store := { s.store with staged := some ws } }, ⟨.done, [1]⟩)

/-- WINDOW SET (09, R148), after the length check of its dispatch (11, R176). -/
def serveWindowSet (p : Port) (count : Octet) (windows : List Octet) (s : State) : State × Reply :=
  if 40 < windows.length then refuse s .refusedLength
  else if 8 < count.toNat then refuse s .refusedIndex
  else if windows.length ≠ 5 * count.toNat then refuse s .refusedLength
  else if s.storageBars p then refuse s .refusedRank
  else
    match allSome ((rawWindows windows).map RawWindow.decode) with
    | none => refuse s .refusedValue
    | some ws =>
      if (ws.map (·.start)).Nodup then placeSchedule (sortWindows ws) s else refuse s .refusedValue

/-- WINDOW_SET. -/
def execWindowSet (p : Port) (tag : Octet) (count : Octet) (windows : List Octet) (s : State) :
    Host.Outcome State Fault Refusal :=
  request p tag 10 (count :: windows) (serveWindowSet p count windows) s

/-- The scheduler after a reload of its staged schedule; a boundary reached and not yet taken stands only if its minute
starts a window of the newly active schedule (09, R149; log 9). -/
def Scheduler.reload (ws : List TariffWindow) (q : Scheduler) : Scheduler :=
  { q with
    active := ws, staged := none,
    boundaryDue := q.boundaryDue && q.clock.any fun c => startsAt ws c.minute }

/-- WINDOW RELOAD (09, R149). -/
def serveWindowReload (p : Port) (s : State) : State × Reply :=
  if s.storageBars p then refuse s .refusedRank
  else
    match s.store.staged with
    | none => refuse s .refusedState
    | some ws => (({ s with store := s.store.reload ws } : State).evaluateMode, ⟨.done, []⟩)

/-- WINDOW_RELOAD. -/
def execWindowReload (p : Port) (tag : Octet) (s : State) : Host.Outcome State Fault Refusal :=
  request p tag 11 [] (serveWindowReload p) s

/-- The content of a READ STORAGE reply (09, R157; log 11); the day clock's second in one octet (log 37). -/
def storageOctets (s : State) : List Octet :=
  optional s.store.clock (fun c => be 2 c.minute ++ [oct c.second])
    ++ scheduleOctets s.store.active ++ optional s.store.staged scheduleOctets
    ++ optional s.store.window (be 2)
    ++ [oct s.store.mode.code] ++ be 2 s.store.rate ++ be 4 s.store.lastChange.toNat
    ++ optional (s.storage.map Prod.fst) (fun i => [oct i]) ++ [flag (storageAvailable s.storage)]
    ++ (match storagePart s.storage with
        | some d => be 2 (s.store.soc / Config.joulesPerKWh) ++ be 2 d.capacity
        | none => be 2 0 ++ be 2 0)
    ++ [flag s.store.full, flag s.store.empty]

/-- READ STORAGE (09, R157). -/
def serveReadStorage (s : State) : State × Reply := (s, ⟨.done, storageOctets s⟩)

/-- READ_STORAGE. -/
def execReadStorage (p : Port) (tag : Octet) (s : State) : Host.Outcome State Fault Refusal :=
  request p tag 28 [] serveReadStorage s

end Sys2Proof.Machine
end

