-- ==== Sys2Proof/Machine/Throttling.lean ====
section
/-! DEFINITION. Delta-T Monitor and Flow Ceilings (04): the low-dT count, the throttle cause, the valve ceiling and its
command, at readings-closed; and the ceiling's reload. -/

namespace Sys2Proof.Machine

/-- QC, the expanded contract flow (01, R3). -/
def BranchDesc.contract (d : BranchDesc) : Nat :=
  match d.granularity with
  | .fine => d.flowValue
  | .coarse => d.flowValue * 16 + 15

/-- The low-dT threshold, design dT less margin (04, R64). -/
def BranchDesc.threshold (d : BranchDesc) : Int := (d.designDt : Int) - d.dtMargin

/-- The low-dT count after an evaluation (04, R65). -/
def lowDtCount (d : BranchDesc) (v : BranchValues) (count : Nat) : Nat :=
  if v.q < d.contract / 4 then count
  else if (v.dT : Int) < d.threshold then bump Config.missMax count
  else count - 1

/-- The cause after the count is updated (04, R66). -/
def throttleCause (d : BranchDesc) (v : BranchValues) (count : Nat) (cause : ThrottleCause) : ThrottleCause :=
  if d.contract < v.q then .overContract
  else if d.persist ≤ count then .lowDt
  else if count = 0 then .none
  else cause

/-- The OFF event of a cause left (04, R67). -/
def causeOff (index count q : Nat) : ThrottleCause → List Note
  | .none => []
  | .lowDt => [⟨.lowDtOff, index, count⟩]
  | .overContract => [⟨.overContractOff, index, q⟩]

/-- The ON event of a cause entered (04, R67). -/
def causeOn (index count q : Nat) : ThrottleCause → List Note
  | .none => []
  | .lowDt => [⟨.lowDtOn, index, count⟩]
  | .overContract => [⟨.overContractOn, index, q⟩]

/-- The ceiling after an evaluation (04, R68, R69). -/
def stepCeiling (d : BranchDesc) (cause : ThrottleCause) (ceiling : Nat) : Nat :=
  if d.throttleAllowed then
    match cause with
    | .none => min Config.ceilingMax (ceiling + d.step)
    | _ => max d.floor (ceiling - d.step)
  else Config.ceilingMax

/-- The throttle part after an evaluation (04, R64 to R69). -/
def evaluateThrottle (d : BranchDesc) (v : BranchValues) (t : Throttle) : Throttle :=
  let count := lowDtCount d v t.count
  let cause := throttleCause d v count t.cause
  { count := count, cause := cause, ceiling := stepCeiling d cause t.ceiling }

/-- The events of an evaluation (04, R67). -/
def throttleNotes (index : Nat) (v : BranchValues) (before after : Throttle) : List Note :=
  if before.cause = after.cause then []
  else causeOff index after.count v.q before.cause ++ causeOn index after.count v.q after.cause

/-- The monitor's evaluation of one record (04, R63, R70, R72): a CONSUMER record that was fresh; the ceiling command
is written in state ONLINE only. -/
def monitorBranch (index : Nat) (b : Branch) : Branch × List Note :=
  match b.part, b.freshValues with
  | .consumer t n c, some v =>
    let t' := evaluateThrottle b.desc v t
    ({ b with part := .consumer t' (if b.station.freshness = .online then some t'.ceiling else n) c },
     throttleNotes index v t t')
  | _, _ => (b, [])

/-- The monitor's work at readings-closed, in ascending index order (04, R63). -/
def monitorTable (s : State) : State :=
  let seen : List (Option (Branch × List Note)) := s.branches.zipIdx.map fun x => x.1.map (monitorBranch x.2)
  let s' : State := { s with branches := seen.map fun x => x.map Prod.fst }
  s'.notes (seen.flatMap fun x => (x.map Prod.snd).getD [])

/-- The ceiling brought into line with a new descriptor by a reload (01, R10). -/
def reloadCeiling (d : BranchDesc) (ceiling : Nat) : Nat :=
  if d.throttleAllowed then max d.floor ceiling else Config.ceilingMax

end Sys2Proof.Machine
end

