-- ==== Sys2Proof/Machine/Branches.lean ====
section
/-! DEFINITION. The Branch Table (01): BRANCH LOAD, BRANCH RELEASE, READ BRANCH, and the closing of the branch and header
records at readings-closed. -/

namespace Sys2Proof.Machine

/-! ## The descriptor of a request, as carried and as clamped (01, R2 to R4) -/

/-- A descriptor brought into the ranges of R2 and R3. -/
def BranchDesc.clamped (d : BranchDesc) : BranchDesc :=
  { d with
    flowValue := min 4095 d.flowValue,
    designDt := clamp 100 2000 d.designDt,
    dtMargin := min 1000 d.dtMargin,
    persist := clamp 1 60 d.persist,
    floor := min 1000 d.floor,
    step := clamp 1 200 d.step,
    dpRequired := min 10000 d.dpRequired,
    dpCeiling := max (min 10000 d.dpRequired) (min 10000 d.dpCeiling) }

/-- A storage part brought into the ranges of R4. -/
def StorageDesc.clamped (d : StorageDesc) : StorageDesc := { d with capacity := max 1 d.capacity }

/-- What a BRANCH LOAD that is no null load asks for: the descriptor, and the storage part of a STORAGE load. -/
structure BranchRequest where
  desc    : BranchDesc
  storage : Option StorageDesc
  deriving DecidableEq, Repr

/-- A request with every field in its range. -/
def BranchRequest.clamped (r : BranchRequest) : BranchRequest :=
  { desc := r.desc.clamped, storage := r.storage.map (·.clamped) }

/-- A type code of a load: whether it is STORAGE (12.5); NONE is no load and is judged before. -/
def storageOfCode (o : Octet) : Option Bool :=
  match o.toNat with
  | 1 => some false
  | 2 => some true
  | _ => none

/-- The storage part of a body, as carried (12.2). -/
def storageDescOf (rest : List Octet) : Option StorageDesc :=
  match rest with
  | [a, b, c, d, e, f] => some { capacity := ofBe [a, b], chargeLimit := ofBe [c, d], dischargeLimit := ofBe [e, f] }
  | _ => none

/-- The descriptor a body carries, its codes decoded. -/
def branchDescOf (b : BranchLoadBody) (g : Guard) (gr : Granularity) (throttle : Bool) : BranchDesc :=
  { address := b.address.toNat, guard := g, flowValue := b.flow.toNat, granularity := gr, designDt := b.designDt.toNat,
    dtMargin := b.dtMargin.toNat, persist := b.persist.toNat, throttleAllowed := throttle, floor := b.floor.toNat,
    step := b.step.toNat, dpRequired := b.dpRequired.toNat, dpCeiling := b.dpCeiling.toNat,
    substitute := b.substitute.toNat }

/-! ## The loading order (01, R7) -/

/-- Check 2 of R7, for a request that asks for a guard or not: refused on the supervisory port by a PANEL-guarded record
or by a request for PANEL. -/
def branchRankBars (p : Port) (existing : Option Branch) (asksPanel : Bool) : Bool :=
  decide (p = .supervisory) && (existing.any (fun b => decide (b.desc.guard = .panel)) || asksPanel)

/-- Check 4 of R7, its three parts in order. -/
def branchCheckFour (b : BranchLoadBody) (s : State) : Except Status BranchRequest :=
  match storageOfCode b.typeCode, Guard.ofCode b.guardCode, Granularity.ofCode b.granularity,
      throttleOfCode b.throttle with
  | some storage, some g, some gr, some th =>
    if !validAddress b.address then .error .refusedValue
    else if b.rest.length ≠ (if storage then 6 else 0) then .error .refusedLength
    else if storage && s.storage.any (fun x => decide (x.1 ≠ b.index.toNat)) then .error .refusedType
    else .ok { desc := branchDescOf b g gr th, storage := storageDescOf b.rest }
  | _, _, _, _ => .error .refusedValue

/-- Checks 4 to 6 of R7. -/
def branchChecks (b : BranchLoadBody) (s : State) : Except Status BranchRequest :=
  match branchCheckFour b s with
  | .error st => .error st
  | .ok r =>
    if s.branchHolds r.desc.address (some b.index.toNat) || s.unitHolds r.desc.address none
        || s.headerHolds r.desc.address then .error .refusedInUse
    else if (s.branch? b.index.toNat).any fun x => x.isStorage != r.storage.isSome then .error .refusedInUse
    else .ok r

/-! ## Loading, reloading, emptying (01, R9 to R11) -/

/-- The meter part of a record loaded from EMPTY (01, R9; 03, R44). -/
def Meter.fresh : Meter :=
  { measured := 0, measuredRes := 0, estimated := 0, estimatedRes := 0, volume := 0, volumeRes := 0, lastPower := 0,
    rollover := false, reversedRun := false }

/-- The throttle part of a record loaded from EMPTY (01, R9). -/
def Throttle.fresh : Throttle := { count := 0, cause := .none, ceiling := Config.ceilingMax }

/-- A record loaded from EMPTY (01, R9). -/
def BranchRequest.fill (r : BranchRequest) : Branch :=
  { desc := r.desc, station := .fresh BranchValues, meter := .fresh,
    part := match r.storage with
      | some d => .storage d none none
      | none => .consumer .fresh none none }

/-- The part of a CONSUMER record after a reload: the ceiling in line with the new descriptor, and written into the next
command block when it changed outside LOCAL (01, R10). -/
def reloadConsumer (d : BranchDesc) (f : Freshness) (t : Throttle) (next cur : Option Nat) : BranchPart :=
  let c := reloadCeiling d t.ceiling
  .consumer { t with ceiling := c } (if c ≠ t.ceiling ∧ f ≠ .localCtl then some c else next) cur

/-- A record after a reload (01, R10). -/
def BranchRequest.reload (r : BranchRequest) (b : Branch) : Branch :=
  { b with
    desc := r.desc,
    part := match b.part with
      | .consumer t n c => reloadConsumer r.desc b.station.freshness t n c
      | .storage d n c => .storage (r.storage.getD d) n c }

/-- The event of a change of freshness state (01, R17). -/
def branchStateNote (index : Nat) (f : Option Freshness) : Note := ⟨.branchState, index, Freshness.code f⟩

/-- Applying a clamped request on an unloaded record (01, R9; 09, R156). -/
def loadBranch (index : Nat) (r : BranchRequest) (s : State) : State :=
  let t := (s.setBranch index (some r.fill)).notes [branchStateNote index (some .awaiting)]
  if r.storage.isSome then storageLoaded t else t

/-- Applying a clamped request over a loaded record (01, R10; 09, R156). -/
def reloadBranch (index : Nat) (r : BranchRequest) (b : Branch) (s : State) : State :=
  let t := s.setBranch index (some (r.reload b))
  match r.storage with
  | some d => storageReloaded d t
  | none => t

/-- A null load (01, R11; 09, R156). -/
def nullLoad (index : Nat) (s : State) : State :=
  match s.branch? index with
  | none => s
  | some b =>
    let t := (s.setBranch index none).notes [branchStateNote index none]
    if b.isStorage then storageReleased t else t

/-! ## Requests -/

/-- BRANCH LOAD (01, R7 to R11), after the length check of its dispatch (11, R176). -/
def serveBranchLoad (p : Port) (b : BranchLoadBody) (s : State) : State × Reply :=
  if 6 < b.rest.length then refuse s .refusedLength
  else if Config.branchCount ≤ b.index.toNat then refuse s .refusedIndex
  else if branchRankBars p (s.branch? b.index.toNat) (decide (b.typeCode ≠ 0) && decide (b.guardCode = 1)) then
    refuse s .refusedRank
  else if b.typeCode = 0 then (nullLoad b.index.toNat s, ⟨.done, []⟩)
  else
    match branchChecks b s with
    | .error st => refuse s st
    | .ok r =>
      let status := doneIf (decide (r.clamped ≠ r))
      match s.branch? b.index.toNat with
      | none => (loadBranch b.index.toNat r.clamped s, ⟨status, []⟩)
      | some x => (reloadBranch b.index.toNat r.clamped x s, ⟨status, []⟩)

/-- BRANCH_LOAD. -/
def execBranchLoad (p : Port) (tag : Octet) (b : BranchLoadBody) (s : State) : Host.Outcome State Fault Refusal :=
  request p tag 1 (branchLoadOctets b) (serveBranchLoad p b) s

/-- BRANCH RELEASE (01, R11). -/
def serveBranchRelease (p : Port) (index : Octet) (s : State) : State × Reply :=
  if Config.branchCount ≤ index.toNat then refuse s .refusedIndex
  else if branchRankBars p (s.branch? index.toNat) false then refuse s .refusedRank
  else (nullLoad index.toNat s, ⟨.done, []⟩)

/-- BRANCH_RELEASE. -/
def execBranchRelease (p : Port) (tag : Octet) (index : Octet) (s : State) : Host.Outcome State Fault Refusal :=
  request p tag 2 [index] (serveBranchRelease p index) s

/-- Octets 1 to 21 of the branch descriptor's layout (12.2). -/
def descOctets (storage : Bool) (d : BranchDesc) : List Octet :=
  [if storage then 2 else 1, oct d.address, oct d.guard.code] ++ be 2 d.flowValue ++ [oct d.granularity.code]
    ++ be 2 d.designDt ++ be 2 d.dtMargin ++ [oct d.persist, if d.throttleAllowed then 0 else 1] ++ be 2 d.floor
    ++ [oct d.step] ++ be 2 d.dpRequired ++ be 2 d.dpCeiling ++ be 2 d.substitute

/-- Octets 22 to 27 of the branch descriptor's layout. -/
def storageDescOctets (d : StorageDesc) : List Octet :=
  be 2 d.capacity ++ be 2 d.chargeLimit ++ be 2 d.dischargeLimit

/-- The meter part as READ BRANCH reports it (01, R18), the last power in W as the part holds it: the model's choice
(log 41). -/
def meterOctets (m : Meter) : List Octet :=
  be 5 m.measured ++ be 5 m.estimated ++ be 5 m.volume ++ be 4 m.lastPower ++ [flag m.rollover]

/-- The throttle part (01, R18). -/
def throttleOctets (t : Throttle) : List Octet := [oct t.count, oct t.cause.code] ++ be 2 t.ceiling

/-- The throttle part and the command blocks of a record (01, R18; log 11). -/
def partOctets : BranchPart → List Octet
  | .consumer t n c => optional (some t) throttleOctets ++ optional n ceilingOctets ++ optional c ceilingOctets
  | .storage _ n c =>
    optional (none : Option Throttle) throttleOctets ++ optional n storageCmdOctets ++ optional c storageCmdOctets

/-- The content of a READ BRANCH reply (01, R18; 12.2). -/
def branchOctets (b : Branch) : List Octet :=
  descOctets b.isStorage b.desc ++ optional b.storageDesc storageDescOctets
    ++ [oct (Freshness.code (some b.station.freshness)), oct b.station.miss]
    ++ closedOctets b.station.closed branchValuesOctets ++ meterOctets b.meter ++ partOctets b.part

/-- READ BRANCH (01, R18). -/
def serveReadBranch (index : Octet) (s : State) : State × Reply :=
  if Config.branchCount ≤ index.toNat then refuse s .refusedIndex
  else
    match s.branch? index.toNat with
    | none => refuse s .refusedAbsent
    | some b => (s, ⟨.done, branchOctets b⟩)

/-- READ_BRANCH. -/
def execReadBranch (p : Port) (tag : Octet) (index : Octet) (s : State) : Host.Outcome State Fault Refusal :=
  request p tag 24 [index] (serveReadBranch index) s

/-! ## Readings-closed (01, R14 to R17) -/

/-- The events of one station's closing: BRANCH_STATE, then STATION_FAULT (01, R17). -/
def closingNotes {α : Type} (subject : Nat) (before after : Station α) : List Note :=
  (if before.freshness = after.freshness then [] else [branchStateNote subject (some after.freshness)])
    ++ (if before.faultBegins then [⟨.stationFault, subject, Freshness.code (some after.freshness)⟩] else [])

/-- Closing a branch record. -/
def closeBranch (lim : Limits) (index : Nat) (b : Branch) : Branch × List Note :=
  let t := b.station.close lim.kStale lim.kLost
  ({ b with station := t }, closingNotes index b.station t)

/-- Closing the header record. -/
def closeHeader (lim : Limits) (h : Header) : Header × List Note :=
  let t := h.station.close lim.kStale lim.kLost
  ({ h with station := t }, closingNotes headerSubject h.station t)

/-- The Branch Table's work at readings-closed, branches in ascending index order and then the header (log 7). -/
def closeTable (s : State) : State :=
  let closed : List (Option (Branch × List Note)) := s.branches.zipIdx.map fun x => x.1.map (closeBranch s.limits x.2)
  let head : Option (Header × List Note) := s.header.map (closeHeader s.limits)
  let s' : State := { s with branches := closed.map fun x => x.map Prod.fst, header := head.map Prod.fst }
  s'.notes ((closed.flatMap fun x => (x.map Prod.snd).getD []) ++ (head.map Prod.snd).getD [])

/-! ## Warm restart (01, R21) -/

/-- A branch record after a warm restart: judged afresh, the low-dT count 0. -/
def Branch.restart (b : Branch) : Branch :=
  { b with
    station := b.station.restart,
    part := match b.part with
      | .consumer t n c => .consumer { t with count := 0 } n c
      | .storage d n c => .storage d n c }

/-- The Branch Table's part of a warm restart, with the Delta-T Monitor's (01, R21; 04, R76). -/
def restartTable (s : State) : State :=
  { s with
    branches := s.branches.map (·.map Branch.restart),
    header := s.header.map fun h => { h with station := h.station.restart } }

end Sys2Proof.Machine
end

