-- ==== Sys2Proof/Machine/Field.lean ====
section
/-! DEFINITION. The Field Cycle (02): the slot map and its requests, the controller's work at cycle start, the mapped
slot, the reply and its window, the open slot, and the controller's work at cycle end. -/

namespace Sys2Proof.Machine

/-! ## Records as bindings name them (02, R23, R25) -/

/-- The unit at a position of a ladder. -/
def State.unit? (s : State) (l : LadderId) (position : Nat) : Option PlantUnit := (s.seq.ladder l).unitAt position

/-- The bound record is loaded: the entry is active (02, R25). -/
def State.loaded (s : State) : Binding → Bool
  | .unbound => false
  | .branch i => (s.branch? i).isSome
  | .unit l p => (s.unit? l p).isSome
  | .header => s.header.isSome

/-- The bound record is a loaded branch or unit whose guard is PANEL (02, R24, check 5). -/
def State.panelBound (s : State) : Binding → Bool
  | .branch i => (s.branch? i).any fun b => decide (b.desc.guard = .panel)
  | .unit l p => (s.unit? l p).any fun u => decide (u.guard = .panel)
  | .unbound => false
  | .header => false

/-! ## Requests -/

/-- The written map with entries written from a first slot on (02, R24). -/
def writeSlots (map : List SlotEntry) (first : Nat) (es : List SlotEntry) : List SlotEntry :=
  map.take first ++ es ++ map.drop (first + es.length)

/-- SLOT MAP WRITE (02, R24), after the length check of its dispatch (11, R176). -/
def serveSlotMapWrite (p : Port) (first count : Octet) (entries : List Octet) (s : State) : State × Reply :=
  if entries.length < 3 ∨ 192 < entries.length then refuse s .refusedLength
  else if 63 < first.toNat ∨ count.toNat = 0 ∨ 64 < count.toNat ∨ 64 < first.toNat + count.toNat then
    refuse s .refusedIndex
  else if entries.length ≠ 3 * count.toNat then refuse s .refusedLength
  else if !((rawSlots entries).all (·.defined)) then refuse s .refusedValue
  else
    match allSome ((rawSlots entries).map RawSlot.decode) with
    | none => refuse s .refusedIndex
    | some es =>
      if decide (p = .supervisory)
          && (((s.fc.written.drop first.toNat).take count.toNat).any (fun e => s.panelBound e.binding)
            || es.any (fun e => s.panelBound e.binding)) then refuse s .refusedRank
      else ({ s with fc := { s.fc with written := writeSlots s.fc.written first.toNat es } }, ⟨.done, []⟩)

/-- SLOT_MAP_WRITE. -/
def execSlotMapWrite (p : Port) (tag : Octet) (first count : Octet) (entries : List Octet) (s : State) :
    Host.Outcome State Fault Refusal :=
  request p tag 5 (first :: count :: entries) (serveSlotMapWrite p first count entries) s

/-- CYCLE SET (02, R26). -/
def serveCycleSet (period : Half) (s : State) : State × Reply :=
  ({ s with fc := { s.fc with pCfg := clamp 5 600 period.toNat } },
   ⟨doneIf (decide (clamp 5 600 period.toNat ≠ period.toNat)), []⟩)

/-- CYCLE_SET. -/
def execCycleSet (p : Port) (tag : Octet) (period : Half) (s : State) : Host.Outcome State Fault Refusal :=
  request p tag 6 [hi period, lo period] (serveCycleSet period) s

/-- A pass at the tail of the open-slot queue, its deferred reply owed (02, R35; 11, R175). -/
def State.queuePass (s : State) (e : PassEntry) : State :=
  ({ s with fc := { s.fc with queue := s.fc.queue ++ [e] } } : State).setPort e.port
    { s.port e.port with owed := (s.port e.port).owed + 1 }

/-- FIELD PASS (02, R35). -/
def serveFieldPass (p : Port) (tag : Octet) (address : Octet) (payload : List Octet) (s : State) : State × Reply :=
  if maxPayload < payload.length then refuse s .refusedLength
  else if !validAddress address then refuse s .refusedValue
  else if s.fc.shadow then refuse s .refusedState
  else if Config.passCapacity ≤ s.fc.queue.length then refuse s .refusedFull
  else (s.queuePass ⟨p, tag, address.toNat, payload⟩, ⟨.accepted, []⟩)

/-- FIELD_PASS. -/
def execFieldPass (p : Port) (tag : Octet) (address : Octet) (payload : List Octet) (s : State) :
    Host.Outcome State Fault Refusal :=
  request p tag fieldPassKind (address :: payload) (serveFieldPass p tag address payload) s

/-! ## Cycle start (02, R25, R27 to R30) -/

/-- The cycle count advanced; its wrap empties the event list and is noted (02, R29; 10, R166; log 25). -/
def countCycle (s : State) : State :=
  let t : State := { s with fc := { s.fc with count := s.fc.count + 1 } }
  if t.fc.count = 0 then
    ({ t with events := s.events.clear } : State).notes [⟨.cycleWrap, cycleSubject, s.events.records.length⟩]
  else t

/-- The service list: the positions of the active entries, ascending (02, R25). -/
def serviceList (s : State) (map : List SlotEntry) : List Nat :=
  map.zipIdx.filterMap fun x => if s.loaded x.1.binding then some x.2 else none

/-- A unit's command block latched and its joined mark cleared (02, R30). -/
def PlantUnit.cycleStart (u : PlantUnit) : PlantUnit := { u with station := u.station.cycleStart, current := u.next }

/-- Every unit of a ladder latched. -/
def Ladder.cycleStart (L : Ladder) : Ladder := { L with units := L.units.map (·.map PlantUnit.cycleStart) }

/-- Both ladders latched. -/
def Sequencer.cycleStart (q : Sequencer) : Sequencer :=
  { q with chillers := q.chillers.cycleStart, pumps := q.pumps.cycleStart }

/-- The map, the service list, the line mode, the position, and the command blocks of a new cycle (02, R29, R30). -/
def latchCycle (s : State) : State :=
  let list := serviceList s s.fc.written
  { s with
    fc := { s.fc with
      runningMap := s.fc.written, serviceList := list, served := 0, openBegun := false, lineShadow := s.fc.shadow,
      position := list.headD Config.openPosition, window := none, lineOut := [], good := 0, misses := 0 },
    branches := s.branches.map (·.map Branch.cycleStart),
    header := s.header.map fun h => { h with station := h.station.cycleStart, recent := false },
    seq := s.seq.cycleStart }

/-- P_eff of a cycle of n mapped slots (02, R27). -/
def effectivePeriod (pCfg : Nat) (rate : BitVec 2) (n : Nat) : Nat :=
  max pCfg (ceilDiv ((n + 1) * Config.slotTime rate) 100)

/-- P_eff and the stretched flag (02, R27, R28). -/
def fixPeriod (s : State) : State :=
  let e := effectivePeriod s.fc.pCfg s.fc.rate s.fc.serviceList.length
  let long := decide (s.fc.pCfg < e)
  let t : State := { s with fc := { s.fc with pEff := e, stretched := long } }
  if long && !s.fc.stretched then t.notes [⟨.cycleStretched, cycleSubject, e⟩]
  else if !long && s.fc.stretched then t.notes [⟨.cycleNormal, cycleSubject, e⟩]
  else t

/-- The controller's work at cycle start, in the order of its rules (02, section 2.4). -/
def startCycle (s : State) : State := fixPeriod (latchCycle (countCycle s))

/-! ## Mapped slots (02, R31, R32) -/

/-- The current command block's payload of a branch record (12.2). -/
def BranchPart.payload : BranchPart → Option (List Octet)
  | .consumer _ _ c => c.map ceilingOctets
  | .storage _ _ c => c.map storageCmdOctets

/-- Whom a slot polls, at which address, and the current command block's payload if it has one. A record loaded since
the cycle start is not served in this cycle, though its position stands in the service list (02, R25; 06, R98; against
the letter of R31 and R107, log 32). -/
def State.slotTarget (s : State) : Binding → Option (WindowTarget × Nat × Option (List Octet))
  | .unbound => none
  | .branch i =>
    ((s.branch? i).filter fun b => !b.station.joined).map fun b => (.branch i, b.desc.address, b.part.payload)
  | .unit l p =>
    ((s.unit? l p).filter fun u => !u.station.joined).map fun u => (.unit l p, u.address, u.current.map unitCmdOctets)
  | .header => (s.header.filter fun h => !h.recent).map fun h => (.header, h.address, none)

/-- The frame of a mapped slot: POLL_CMD under the four conditions of R32, POLL otherwise. -/
def pollFrame (shadow command : Bool) (address : Nat) (payload : Option (List Octet)) : List Octet :=
  match payload with
  | some os => if command && !shadow then fieldFrame address pollCmdKind os else fieldFrame address pollKind []
  | none => fieldFrame address pollKind []

/-- The entry at a position of the running map. -/
def FieldCycle.entryAt (fc : FieldCycle) (position : Nat) : SlotEntry := fc.runningMap.getD position ⟨.unbound, false⟩

/-- Serving the mapped slot at a position (02, R31, R32). The line stays quiet for a record that is not loaded, and for
one loaded since the cycle start (02, R25; log 32). -/
def serveSlot (position : Nat) (s : State) : State :=
  let e := s.fc.entryAt position
  let fc := { s.fc with position := position, served := s.fc.served + 1 }
  match s.slotTarget e.binding with
  | none => { s with fc := { fc with lineOut := [], window := none } }
  | some x =>
    { s with
      fc := { fc with
        lineOut := pollFrame s.fc.lineShadow e.command x.2.1 x.2.2, window := some ⟨x.1, x.2.1, .waiting⟩ } }

/-- The part is between a cycle start and its cycle end, with no reply window open. -/
def FieldCycle.between (fc : FieldCycle) : Bool := decide (fc.position ≠ Config.gapPosition) && fc.window.isNone

/-- MAPPED_SLOT (02, R31), when the next entry of the service list is due. -/
def mappedSlot (s : State) : State :=
  if s.fc.between then
    match s.fc.serviceList[s.fc.served]? with
    | some position => serveSlot position s
    | none => s
  else s

/-- MAPPED_SLOT. -/
def execMappedSlot (s : State) : Host.Outcome State Fault Refusal := .next (unlessReset s mappedSlot)

/-! ## Replies (02, R33, R34; 01, R13; 06, R102) -/

/-- A station takes what a reply of the right form says. -/
def Station.takeReply {α : Type} (t : Station α) : StationReply α → Station α
  | .alive isLocal v => t.take isLocal v
  | .fault => t.takeFault

/-- The reply of a branch station, by the record's type. -/
def Branch.judge (b : Branch) (payload : List Octet) : Option (StationReply BranchValues) :=
  if b.isStorage then storageReply payload else consumerReply payload

/-- Handing a good reply to the owner of the record polled: the state with the reply taken, or `none` when the owner
rejects the payload's form. A reply for an unloaded record is not taken and rejects nothing (log 29); one for a record
emptied and loaded anew while the window is open is handed to the record that stands there now (log 33). -/
def handReply (s : State) (payload : List Octet) : WindowTarget → Option State
  | .branch i =>
    match s.branch? i with
    | none => some s
    | some b => (b.judge payload).map fun r => s.setBranch i (some { b with station := b.station.takeReply r })
  | .unit l p =>
    match s.unit? l p with
    | none => some s
    | some u =>
      (unitReply l payload).map fun r =>
        { s with
          seq := s.seq.setLadder l
            ((s.seq.ladder l).setUnit p (some { u with station := u.station.takeReply r })) }
  | .header =>
    match s.header with
    | none => some s
    | some h =>
      (headerReply payload).map fun r => { s with header := some { h with station := h.station.takeReply r } }
  | .pass => some s

/-- The state with the open window's verdict written. -/
def State.setVerdict (s : State) (w : Window) (v : Verdict) : State :=
  { s with fc := { s.fc with window := some { w with verdict := v } } }

/-- A good reply: counted, and handed to its owner (02, R34). -/
def takeGood (w : Window) (payload : List Octet) (s : State) : State :=
  let counted : State := { s with fc := { s.fc with good := s.fc.good + 1 } }
  match handReply counted payload w.target with
  | some t => t.setVerdict w (.good payload)
  | none => counted.setVerdict w .miss

/-- FIELD_REPLY_RECEIVED (02, R33): only the first frame completed in an open window is judged. -/
def fieldReply (octets : List Octet) (s : State) : State :=
  match s.fc.window with
  | none => s
  | some w =>
    match w.verdict with
    | .waiting =>
      match judgeField w.address octets with
      | .waiting => s
      | .miss => s.setVerdict w .miss
      | .good payload => takeGood w payload s
    | .miss => s
    | .good _ => s

/-- FIELD_REPLY_RECEIVED. -/
def execFieldReplyReceived (octets : List Octet) (s : State) : Host.Outcome State Fault Refusal :=
  .next (unlessReset s (fieldReply octets))

/-- The end of a pass: its deferred reply, and nothing in flight (02, R36, R37). -/
def endPass (v : Verdict) (s : State) : State :=
  match s.fc.inFlight with
  | none => s
  | some e =>
    let t : State := { s with fc := { s.fc with inFlight := none } }
    match v with
    | .good payload => t.deferred e .fieldDone payload
    | .waiting => t.deferred e .fieldTimeout []
    | .miss => t.deferred e .fieldTimeout []

/-- REPLY_WINDOW_CLOSE (02, R34, R36). -/
def windowClose (s : State) : State :=
  match s.fc.window with
  | none => s
  | some w =>
    let t : State := { s with fc := { s.fc with window := none } }
    match w.target, w.verdict with
    | .pass, v => endPass v t
    | _, .good _ => t
    | _, _ => { t with fc := { t.fc with misses := t.fc.misses + 1 } }

/-- REPLY_WINDOW_CLOSE. -/
def execReplyWindowClose (s : State) : Host.Outcome State Fault Refusal := .next (unlessReset s windowClose)

/-! ## The open slot (02, R36) -/

/-- The open slot of the cycle is due: every mapped slot has begun, and it has not. -/
def FieldCycle.openDue (fc : FieldCycle) : Bool :=
  fc.between && !fc.openBegun && decide (fc.serviceList.length ≤ fc.served)

/-- OPEN_SLOT (02, R36): in a live cycle the head of the queue is sent. -/
def openSlot (s : State) : State :=
  if s.fc.openDue then
    let fc := { s.fc with position := Config.openPosition, openBegun := true, lineOut := [] }
    if s.fc.lineShadow then { s with fc := fc }
    else
      match s.fc.queue with
      | [] => { s with fc := fc }
      | e :: rest =>
        { s with
          fc := { fc with
            queue := rest, inFlight := some e, lineOut := fieldFrame e.address passKind e.payload,
            window := some ⟨.pass, e.address, .waiting⟩ } }
  else s

/-- OPEN_SLOT. -/
def execOpenSlot (s : State) : Host.Outcome State Fault Refusal := .next (unlessReset s openSlot)

/-! ## Cycle end (02, R38, R39) -/

/-- Cycle end is due: the open slot has begun and its window has closed. -/
def FieldCycle.endDue (fc : FieldCycle) : Bool := fc.between && fc.openBegun

/-- The controller's work at cycle end: position 65, the FIELD lamp, the last cycle's tallies. -/
def endCycle (s : State) : State :=
  { s with
    fc := { s.fc with
      position := Config.gapPosition, lineOut := [], lastGood := s.fc.good, lastMisses := s.fc.misses,
      lamp := decide (1 ≤ s.fc.good) && !s.fc.lamp } }

/-! ## Warm restart (02, R43) -/

/-- Every pass in flight or queued is answered ABORTED, in that order (02, R37, R43). -/
def abortPasses (s : State) : State :=
  let passes := s.fc.inFlight.toList ++ s.fc.queue
  let t : State := { s with fc := { s.fc with inFlight := none, queue := [] } }
  passes.foldl (fun u e => u.deferred e .aborted []) t

end Sys2Proof.Machine
end

