-- ==== Sys2Proof/Machine/Sequencer.lean ====
section
/-! DEFINITION. Stage Sequencing (07), the operations: entering states, starts, stops, trips, flow loss, the interlock,
staging up and down, judging the units at readings-closed, tracking in shadow mode. The sequencer works on `Work`, its
own state and the events it appends, and reads the rest of the part through `SeqEnv`. -/

namespace Sys2Proof.Machine

/-- What the sequencer reads of other blocks: shadow mode, the STOP latch, the supply setpoint, the header DP setpoint,
the cycle count. -/
structure SeqEnv where
  shadow : Bool
  latch  : Bool
  supply : Nat
  dpSet  : Nat
  count  : CycleCount
  deriving DecidableEq, Repr

/-- The sequencer's state and the events its work has appended so far. -/
structure Work where
  seq : Sequencer
  out : List Note
  deriving DecidableEq, Repr

/-- What the sequencer reads of the part. -/
def State.seqEnv (s : State) : SeqEnv :=
  { shadow := s.fc.shadow, latch := s.inputs.stopLatch, supply := s.limits.supplySet, dpSet := s.press.setpoint,
    count := s.fc.count }

/-- The sequencer's work on the part: its own state changes, and its events are appended. -/
def State.sequence (s : State) (f : SeqEnv → Work → Work) : State :=
  let w := f s.seqEnv ⟨s.seq, []⟩
  ({ s with seq := w.seq } : State).notes w.out

/-! ## Reading and changing the work -/

/-- The unit at a position. -/
def Work.unit (w : Work) (l : LadderId) (p : Nat) : Option PlantUnit := (w.seq.ladder l).unitAt p

/-- Events appended. -/
def Work.say (w : Work) (ns : List Note) : Work := { w with out := w.out ++ ns }

/-- A ladder changed. -/
def Work.onLadder (w : Work) (l : LadderId) (f : Ladder → Ladder) : Work :=
  { w with seq := w.seq.setLadder l (f (w.seq.ladder l)) }

/-- A unit changed. -/
def Work.onUnit (w : Work) (l : LadderId) (p : Nat) (f : PlantUnit → PlantUnit) : Work :=
  w.onLadder l fun L => L.modUnit p f

/-- A push on the start stack (06, R105). -/
def Ladder.push (p : Nat) (L : Ladder) : Ladder := { L with stack := L.stack ++ [p] }

/-- A removal from the start stack (06, R105). -/
def Ladder.remove (p : Nat) (L : Ladder) : Ladder := { L with stack := L.stack.filter fun x => decide (x ≠ p) }

/-- The ladder is held (06, R106). -/
def Work.held (w : Work) (l : LadderId) : Bool := (w.seq.ladder l).requestHold || w.seq.inputHold

/-- The setpoint the sequencer writes with a demand (07, R112). -/
def SeqEnv.setpoint (e : SeqEnv) : LadderId → Nat
  | .chiller => e.supply
  | .pump => e.dpSet

/-- The event of a change of a unit's state (07, R112). -/
def unitNote (l : LadderId) (p : Nat) (st : Option UnitState) : Note :=
  ⟨.unitState, ladderSubject l + p, UnitState.code st⟩

/-- Every unit timer cancelled (07, R117). -/
def PlantUnit.noTimers (u : PlantUnit) : PlantUnit := { u with prove := .idle, stop := .idle, run := .idle, rest := .idle }

/-- Entering a state: the state, the timers as `f` leaves them, the demand if one is written, and the event (07, R112).
-/
def Work.enter (e : SeqEnv) (l : LadderId) (p : Nat) (st : UnitState) (d : Option Demand) (f : PlantUnit → PlantUnit)
    (w : Work) : Work :=
  (w.onUnit l p fun u =>
    { f u with
      state := st,
      next := match d with
        | some d => some ⟨d, e.setpoint l⟩
        | none => u.next }).say [unitNote l p (some st)]

/-! ## Stops (07, R115) -/

/-- Entry into STOPPING: PROVE and RUN cancelled, STOP started, off the stack (07, R115). -/
def Work.stopOne (e : SeqEnv) (l : LadderId) (p : Nat) (w : Work) : Work :=
  (w.enter e l p .stopping (some .stop) fun u =>
    { u with prove := .idle, run := .idle, stop := .start (w.seq.ladder l).periods.stop }).onLadder l (·.remove p)

/-- The positions of a ladder's units that a flow-loss stop or the latch stops, ascending. -/
def Ladder.stoppables (L : Ladder) : List Nat :=
  (positions L.units.length).filter fun p => (L.unitAt p).any (·.stoppable)

/-! ## SHORT_CAPACITY (07, R124, R125) -/

/-- SHORT_CAPACITY cleared, with its event when it was set. -/
def Work.clearShort (l : LadderId) (w : Work) : Work :=
  let L := w.seq.ladder l
  if L.shortCap then
    (w.onLadder l fun L => { L with shortCap := false }).say [⟨.shortCapacityOff, ladderSubject l, L.stack.length⟩]
  else w

/-- SHORT_CAPACITY set, with its event when it was clear. -/
def Work.setShort (l : LadderId) (w : Work) : Work :=
  let L := w.seq.ladder l
  if L.shortCap then w
  else (w.onLadder l fun L => { L with shortCap := true }).say [⟨.shortCapacityOn, ladderSubject l, L.stack.length⟩]

/-! ## Stage-up (07, R125, R126) -/

/-- Up pending cleared and the UP timer cancelled. -/
def Ladder.upDone (L : Ladder) : Ladder := { L with upPending := false, up := .idle }

/-- A start: STARTING, demand RUN, pushed, PROVE at pass 1 (07, R125, test 5). -/
def Work.startUnit (e : SeqEnv) (l : LadderId) (p : Nat) (w : Work) : Work :=
  ((w.enter e l p .starting (some .run) fun u =>
    { u with prove := .start (w.seq.ladder l).periods.prove }).onLadder l fun L => (L.push p).upDone).clearShort l

/-- The subject position of an INTENT event: negated for STOP (10, section 10.5). -/
def intentDetail (i : Intent) (p : Nat) : Int :=
  match i with
  | .start => p
  | .stop => -(p : Int)

/-- An intent recorded in shadow mode (07, R130). -/
def Work.intend (e : SeqEnv) (l : LadderId) (p : Nat) (i : Intent) (w : Work) : Work :=
  ((w.onUnit l p fun u => { u with intent := some i }).onLadder l fun L =>
    { L with lastIntent := some ⟨i, p, e.count⟩ }).say [⟨.intent, ladderSubject l, intentDetail i p⟩]

/-- Acting on a ladder's up pending (07, R125), with what the interlock does where test 4 applies. -/
def Work.actUpWith (e : SeqEnv) (l : LadderId) (interlock : Work → Work) (w : Work) : Work :=
  if w.held l || e.latch then w
  else if (w.seq.ladder l).hasStarting then w
  else
    match (w.seq.ladder l).first (fun u => decide (u.state = .off)) with
    | none => w.setShort l
    | some p =>
      if e.shadow then ((w.intend e l p .start).onLadder l Ladder.upDone).clearShort l
      else if decide (l = .chiller) && !w.seq.pumps.serves then interlock w
      else w.startUnit e l p

/-- Acting on the pump ladder's up pending. -/
def Work.actUpPump (e : SeqEnv) (w : Work) : Work := w.actUpWith e .pump id

/-- The interlock of a chiller start: the chiller start waits, and a pump start is tried (07, R126). -/
def Work.interlock (e : SeqEnv) (w : Work) : Work :=
  Work.actUpPump e
    { w with
      seq := { w.seq with
        chillers := { w.seq.chillers with upPending := false }, waiting := true,
        pumps := { w.seq.pumps with upPending := true } } }

/-- Acting on a ladder's up pending (07, R125). -/
def Work.actUp (e : SeqEnv) (l : LadderId) (w : Work) : Work :=
  match l with
  | .chiller => w.actUpWith e .chiller (Work.interlock e)
  | .pump => w.actUpPump e

/-- Up pending set and acted on. -/
def Work.raiseUp (e : SeqEnv) (l : LadderId) (w : Work) : Work :=
  (w.onLadder l fun L => { L with upPending := true }).actUp e l

/-- Up pending acted on if it is set. -/
def Work.tryUp (e : SeqEnv) (l : LadderId) (w : Work) : Work :=
  if (w.seq.ladder l).upPending then w.actUp e l else w

/-- A pump has entered RUNNING or become HAND-run: a waiting chiller start is carried out (07, R126). -/
def Work.pumpServes (e : SeqEnv) (w : Work) : Work :=
  if w.seq.waiting then ({ w with seq := { w.seq with waiting := false } } : Work).raiseUp e .chiller else w

/-! ## Flow loss (07, R128) -/

/-- The flow-loss stop: every chiller in STARTING, RUNNING or HAND to STOPPING. A chiller that so leaves STARTING lets its
ladder's up pending be tried once the stops are made (log 15). -/
def Work.flowLoss (e : SeqEnv) (w : Work) : Work :=
  let ps := w.seq.chillers.stoppables
  let stopped := ps.foldl (fun v p => v.stopOne e .chiller p) (w.say [⟨.flowLossStop, ladderSubject .pump, ps.length⟩])
  if w.seq.chillers.hasStarting then stopped.tryUp e .chiller else stopped

/-- What follows when a unit has left the state it was in: the flow-loss stop when the last pump leaves service, and the
ladder's up pending when the unit left STARTING (07, R125, R128; log 15). -/
def Work.afterLeaving (e : SeqEnv) (l : LadderId) (before : PlantUnit) (w : Work) : Work :=
  let v := if decide (l = .pump) && before.inService && !w.seq.pumps.serves then w.flowLoss e else w
  if before.state = .starting then v.tryUp e l else v

/-- A unit taken to STOPPING, with what follows. -/
def Work.stopUnit (e : SeqEnv) (l : LadderId) (p : Nat) (w : Work) : Work :=
  match w.unit l p with
  | none => w
  | some u => (w.stopOne e l p).afterLeaving e l u

/-- The STOP latch, set: every unit in STARTING, RUNNING or HAND to STOPPING, pumps first (07, R129). In shadow mode it
changes no unit state. -/
def Work.stopAll (e : SeqEnv) (w : Work) : Work :=
  if e.shadow then w
  else
    let pumpsDone := w.seq.pumps.stoppables.foldl (fun v p => v.stopUnit e .pump p) w
    pumpsDone.seq.chillers.stoppables.foldl (fun v p => v.stopUnit e .chiller p) pumpsDone

/-! ## Stage-down (07, R127) -/

/-- Down pending cleared and the DOWN timer cancelled. -/
def Ladder.downDone (L : Ladder) : Ladder := { L with downPending := false, down := .idle }

/-- The stack top holds a stage-down back: starting, or inside its minimum run (07, R127, test 2). -/
def PlantUnit.young (u : PlantUnit) : Bool :=
  decide (u.state = .starting) || (decide (u.state = .running) && u.run.isCounting)

/-- Acting on a ladder's down pending (07, R127, R130). -/
def Work.actDown (e : SeqEnv) (l : LadderId) (w : Work) : Work :=
  match (w.seq.ladder l).stack.getLast? with
  | none => w.onLadder l fun L => { L with downPending := false }
  | some p =>
    if w.held l then w
    else if (w.unit l p).any fun u => u.young && !(e.shadow && decide (u.state = .running)) then w
    else if e.shadow then (w.intend e l p .stop).onLadder l Ladder.downDone
    else (w.onLadder l Ladder.downDone).stopUnit e l p

/-- Down pending acted on if it is set. -/
def Work.tryDown (e : SeqEnv) (l : LadderId) (w : Work) : Work :=
  if (w.seq.ladder l).downPending then w.actDown e l else w

/-! ## Trips (07, R116) -/

/-- A trip: the entry into TRIPPED and what follows it. -/
def Work.trip (e : SeqEnv) (l : LadderId) (p : Nat) (cause : TripCause) (w : Work) : Work :=
  match w.unit l p with
  | none => w
  | some u =>
    let entered := ((w.enter e l p (.tripped cause false) (some .stop) fun u =>
      { u with prove := .idle, stop := .idle, run := .idle }).onLadder l (·.remove p)).say
        [⟨.unitTrip, ladderSubject l + p, cause.code⟩]
    let flowed := if decide (l = .pump) && u.inService && !entered.seq.pumps.serves then entered.flowLoss e else entered
    if u.state = .starting ∨ u.state = .running then flowed.raiseUp e l else flowed

/-! ## Moves at readings-closed (07, R113, R114, R117, R118) -/

/-- STARTING to RUNNING: PROVE cancelled, RUN started, the place on the stack kept (07, R113). -/
def Work.proved (e : SeqEnv) (l : LadderId) (p : Nat) (w : Work) : Work :=
  let v := w.enter e l p .running none fun u =>
    { u with prove := .idle, run := .start (w.seq.ladder l).periods.run }
  (if l = .pump then v.pumpServes e else v).tryUp e l

/-- STOPPING to RESTING: STOP cancelled, REST started (07, R113). -/
def Work.toResting (e : SeqEnv) (l : LadderId) (p : Nat) (w : Work) : Work :=
  w.enter e l p .resting (some .stop) fun u =>
    { u with stop := .idle, rest := .start (w.seq.ladder l).periods.rest }

/-- To LOCAL: every timer cancelled, off the stack, no demand written (07, R117). -/
def Work.toLocal (e : SeqEnv) (l : LadderId) (p : Nat) (w : Work) : Work :=
  match w.unit l p with
  | none => w
  | some u => ((w.enter e l p .localCtl none PlantUnit.noTimers).onLadder l (·.remove p)).afterLeaving e l u

/-- Into RUNNING with demand RUN, pushed on top, RUN started (07, R118, R120). -/
def Work.takeIntoService (e : SeqEnv) (l : LadderId) (p : Nat) (w : Work) : Work :=
  let v := (w.enter e l p .running (some .run) fun u =>
    { u with prove := .idle, run := .start (w.seq.ladder l).periods.run }).onLadder l (·.push p)
  if l = .pump then v.pumpServes e else v

/-- Out of LOCAL, by the proof of a fresh OK cycle (07, R118; log 14). -/
def Work.fromLocal (e : SeqEnv) (l : LadderId) (p : Nat) (proof : Bool) (w : Work) : Work :=
  if !proof then w.toResting e l p
  else if e.latch then w.stopOne e l p
  else
    let v := w.takeIntoService e l p
    if decide (l = .chiller) && !v.seq.pumps.serves then v.flowLoss e else v

/-- A late proof recorded once (07, R114). -/
def Work.proofLate (l : LadderId) (p : Nat) (w : Work) : Work :=
  (w.onUnit l p fun u => { u with state := .tripped .noProof true }).say [⟨.proofLate, ladderSubject l + p, 0⟩]

/-- Judging one unit by R113's table, from what the cycle was and the proof its closed reading shows. -/
def Work.judgeOne (e : SeqEnv) (l : LadderId) (p : Nat) (u : PlantUnit) (c : CycleClass) (w : Work) : Work :=
  match u.state, c with
  | .off, .fresh true => w.toLocal e l p
  | .resting, .fresh true => w.toLocal e l p
  | .starting, .fresh true => w.toLocal e l p
  | .running, .fresh true => w.toLocal e l p
  | .stopping, .fresh true => w.toLocal e l p
  | .starting, .fresh false => if u.proof then w.proved e l p else w
  | .running, .fresh false => if u.proof then w else w.trip e l p .lostProof
  | .stopping, .fresh false => if u.proof then w else w.toResting e l p
  | .localCtl, .fresh false => w.fromLocal e l p u.proof
  | .tripped .noProof false, .fresh false => if u.proof then w.proofLate l p else w
  | .hand .run, .fresh isLocal =>
    if u.prove.isCounting then (if u.proof then w.onUnit l p fun v => { v with prove := .idle } else w)
    else if isLocal || u.proof then w else w.trip e l p .lostProof
  | .starting, .fault => w.trip e l p .stationFault
  | .running, .fault => w.trip e l p .stationFault
  | .hand .run, .fault => w.trip e l p .stationFault
  | _, _ => w

/-- Tracking one unit in shadow mode (07, R130; log 31, log 34). -/
def Work.trackOne (e : SeqEnv) (l : LadderId) (p : Nat) (u : PlantUnit) (w : Work) : Work :=
  match u.station.values, u.state with
  | some v, .off =>
    if v.proof then
      let t := (w.enter e l p .running (some .run) fun u => { u with intent := none }).onLadder l (·.push p)
      if l = .pump then t.pumpServes e else t
    else w
  | some v, .running =>
    if v.proof then w
    else (w.enter e l p .off (some .stop) fun u => { u with intent := none }).onLadder l (·.remove p)
  | _, _ => w

/-- Judging or tracking the unit at a position, by what its cycle was before the closing; a unit whose joined mark was
set is passed over (07, R113, R130). Its state is the one it holds when its turn comes: a unit that an earlier judgement
of the same readings-closed has put in STARTING is judged as STARTING (log 40). -/
def Work.judgeAt (e : SeqEnv) (before : Sequencer) (l : LadderId) (w : Work) (p : Nat) : Work :=
  match (before.ladder l).unitAt p, w.unit l p with
  | some b, some u =>
    if b.station.joined then w
    else if e.shadow then w.trackOne e l p u
    else w.judgeOne e l p u b.station.cls
  | _, _ => w

/-- The positions of a ladder in ladder order. -/
def ladderPositions (l : LadderId) : List Nat := positions (ladderSize l)

/-- Every unit judged, the pump ladder first, each ladder in ascending order (07, R113); tracked in the same order, which
R130 leaves open, in shadow mode (log 34). -/
def Work.judgeAll (e : SeqEnv) (before : Sequencer) (w : Work) : Work :=
  (ladderPositions .chiller).foldl (Work.judgeAt e before .chiller)
    ((ladderPositions .pump).foldl (Work.judgeAt e before .pump) w)

/-! ## Closing the units (06, R103) -/

/-- COMM_LOST after the table (06, R103). -/
def commLostAfter (was : Bool) : Freshness → Bool
  | .stale => true
  | .lost => true
  | .held => was
  | .online => false
  | .localCtl => false
  | .awaiting => false

/-- A unit closed (06, R103). -/
def PlantUnit.close (lim : Limits) (u : PlantUnit) : PlantUnit :=
  let t := u.station.close lim.kStale lim.kLost
  { u with station := t, commLost := commLostAfter u.commLost t.freshness }

/-- The STATION_FAULT events of a ladder's closing, ascending (06, R103; log 7). -/
def Ladder.faultNotes (l : LadderId) (lim : Limits) (L : Ladder) : List Note :=
  L.units.zipIdx.flatMap fun x =>
    match x.1 with
    | some u =>
      if u.station.faultBegins then
        [⟨.stationFault, ladderSubject l + (x.2 + 1), Freshness.code (some (u.close lim).station.freshness)⟩]
      else []
    | none => []

/-- Every unit of a ladder closed. -/
def Ladder.close (lim : Limits) (L : Ladder) : Ladder := { L with units := L.units.map (·.map (PlantUnit.close lim)) }

/-- Both ladders closed. -/
def Work.closeUnits (lim : Limits) (w : Work) : Work :=
  { seq := { w.seq with chillers := w.seq.chillers.close lim, pumps := w.seq.pumps.close lim },
    out := w.out ++ w.seq.pumps.faultNotes .pump lim ++ w.seq.chillers.faultNotes .chiller lim }

/-- The supply setpoint written into every chiller's block that is not NONE (07, R112). -/
def Ladder.writeSupply (supply : Nat) (L : Ladder) : Ladder :=
  { L with units := L.units.map (·.map fun u => { u with next := u.next.map fun c => { c with setpoint := supply } }) }

/-! ## The staging evaluation (07, R122 to R124, R132) -/

/-- What an evaluation reads besides the units: the load, HEADER_STALE, Tsup, the limits. -/
structure LoadInput where
  lStage      : Nat
  headerStale : Bool
  tsup        : Nat
  limits      : Limits
  deriving DecidableEq, Repr

/-- C_run: the rated capacity of the chillers that deliver (07, R122). -/
def Ladder.running (L : Ladder) : Nat :=
  (L.units.map fun u =>
    match u with
    | some v => if v.delivers then v.capacity else 0
    | none => 0).sum

/-- cap_top: the rated capacity of the stack top (07, R122). -/
def Ladder.capTop (L : Ladder) : Nat :=
  match L.stack.getLast? with
  | some p => ((L.unitAt p).map (·.capacity)).getD 0
  | none => 0

/-- The chiller ladder's figures (07, R122, R132). -/
def chillerFigures (e : SeqEnv) (x : LoadInput) (L : Ladder) : Figures :=
  let up := decide (L.running * x.limits.upPct < x.lStage * 100)
    || (!x.headerStale && decide (x.limits.supplySet + x.limits.supplyBand < x.tsup))
  let down := (decide (2 ≤ L.stack.length) && decide (x.lStage * 100 < (L.running - L.capTop) * x.limits.downPct))
    || (decide (x.lStage = 0) && !L.stack.isEmpty)
  { load := x.lStage, count := e.count, cRun := L.running, capTop := L.capTop, tsupUsed := !x.headerStale,
    pumps := 0, speed := 0, running := L.stack.length, up := up, down := down && !up }

/-- The RUNNING pumps (07, R123). -/
def Ladder.runningUnits (L : Ladder) : List PlantUnit :=
  L.units.filterMap fun u => u.filter fun v => decide (v.state = .running)

/-- The average speed of the RUNNING pumps, rounded down; 0 when there is none (07, R123; log 28). -/
def averageSpeed (us : List PlantUnit) : Nat :=
  (us.map fun u => (u.station.values.map (·.value)).getD 0).sum / us.length

/-- The pump ladder's figures (07, R123, R132). -/
def pumpFigures (e : SeqEnv) (x : LoadInput) (waiting : Bool) (L : Ladder) : Figures :=
  let us := L.runningUnits
  let up := (!us.isEmpty && decide (x.limits.pumpUp ≤ averageSpeed us)) || (waiting && !L.serves)
  let down := decide (2 ≤ L.stack.length) && !us.isEmpty && decide (averageSpeed us ≤ x.limits.pumpDown)
  { load := x.lStage, count := e.count, cRun := 0, capTop := 0, tsupUsed := false, pumps := us.length,
    speed := averageSpeed us, running := L.stack.length, up := up, down := down && !up }

/-- The up side of R124. -/
def Work.driveUp (e : SeqEnv) (l : LadderId) (holds : Bool) (w : Work) : Work :=
  if holds then
    if (w.seq.ladder l).upPending then w.actUp e l
    else w.onLadder l fun L => { L with up := L.up.startIfIdle L.periods.up }
  else
    let v := w.onLadder l Ladder.upDone
    ({ v with seq := { v.seq with waiting := v.seq.waiting && decide (l ≠ .chiller) } } : Work).clearShort l

/-- The down side of R124. -/
def Work.driveDown (e : SeqEnv) (l : LadderId) (holds : Bool) (w : Work) : Work :=
  if holds then
    if (w.seq.ladder l).downPending then w.actDown e l
    else w.onLadder l fun L => { L with down := L.down.startIfIdle L.periods.down }
  else w.onLadder l Ladder.downDone

/-- One ladder driven by its figures, which are then recorded (07, R124): the up side first, then the down side (log 39). -/
def Work.drive (e : SeqEnv) (l : LadderId) (f : Figures) (w : Work) : Work :=
  ((w.driveUp e l f.up).driveDown e l f.down).onLadder l fun L => { L with figures := f }

/-- The staging evaluation: the chiller ladder, then the pump ladder; a held ladder is not evaluated. Both ladders'
figures read the units as the judgement left them, and the pump ladder's the waiting flag as the chiller ladder's drive
leaves it (07, R122). -/
def Work.evaluate (e : SeqEnv) (x : LoadInput) (w : Work) : Work :=
  let v := if w.held .chiller then w else w.drive e .chiller (chillerFigures e x w.seq.chillers)
  if w.held .pump then v else v.drive e .pump (pumpFigures e x v.seq.waiting w.seq.pumps)

/-- What the evaluation reads of the part (07, R122; log 28). -/
def State.loadInput (s : State) : LoadInput :=
  { lStage := s.load.lStage, headerStale := s.press.headerStale,
    tsup := ((s.header.bind fun h => h.station.values).map (·.tsup)).getD 0, limits := s.limits }

/-- The sequencer's work at readings-closed: units closed and judged, the supply setpoint written, the ladders evaluated
(07, R112, R113, R122). -/
def sequencerClosed (s : State) : State :=
  s.sequence fun e w =>
    (((w.closeUnits s.limits).judgeAll e s.seq).onLadder .chiller (·.writeSupply e.supply)).evaluate e s.loadInput

end Sys2Proof.Machine
end

