-- ==== Sys2Proof/Machine/Units.lean ====
section
/-! DEFINITION. Units and Stage Ladders (06), the requests: UNIT LOAD, LADDER ROTATE, STAGE HOLD, STAGE FREE, READ UNIT
and READ LADDER. -/

namespace Sys2Proof.Machine

/-- A ladder code and a position within the ladder's size (06, R97, check 1). -/
def placeOf (ladder position : Octet) : Option (LadderId × Nat) :=
  match ladderOfCode ladder with
  | none => none
  | some l => if 1 ≤ position.toNat ∧ position.toNat ≤ ladderSize l then some (l, position.toNat) else none

/-- The state with what stands at a position replaced. -/
def State.setUnit (s : State) (l : LadderId) (p : Nat) (u : Option PlantUnit) : State :=
  { s with seq := s.seq.setLadder l ((s.seq.ladder l).setUnit p u) }

/-! ## UNIT LOAD (06, R97 to R100) -/

/-- A unit that may be reloaded or emptied: in OFF, RESTING, OUT or TRIPPED (06, R97, checks 3 and 6). -/
def PlantUnit.atRest (u : PlantUnit) : Bool :=
  match u.state with
  | .off => true
  | .resting => true
  | .out => true
  | .tripped _ _ => true
  | .starting => false
  | .running => false
  | .stopping => false
  | .hand _ => false
  | .localCtl => false

/-- Check 2 of R97. -/
def unitRankBars (p : Port) (existing : Option PlantUnit) (asksPanel : Bool) : Bool :=
  decide (p = .supervisory) && (existing.any (fun u => decide (u.guard = .panel)) || asksPanel)

/-- The kind code of a ladder's units (06, R95; 12.5). -/
def kindCode : LadderId → Octet
  | .chiller => 1
  | .pump => 2

/-- What an accepted UNIT LOAD asks for; `capacity` is as carried, 0 for a pump. -/
structure UnitRequest where
  address  : Nat
  guard    : Guard
  capacity : Nat
  deriving DecidableEq, Repr

/-- The capacity clamp of R96; a PUMP has no capacity. -/
def UnitRequest.clamped (l : LadderId) (r : UnitRequest) : UnitRequest :=
  match l with
  | .chiller => { r with capacity := clamp 1 20000 r.capacity }
  | .pump => r

/-- Check 4 of R97, its three parts in order. -/
def unitCheckFour (l : LadderId) (b : UnitLoadBody) : Except Status UnitRequest :=
  match ladderOfCode b.kindCode, Guard.ofCode b.guardCode with
  | some kind, some g =>
    if !validAddress b.address then .error .refusedValue
    else if b.rest.length ≠ (match kind with | .chiller => 2 | .pump => 0) then .error .refusedLength
    else if kind ≠ l then .error .refusedType
    else .ok { address := b.address.toNat, guard := g, capacity := ofBe b.rest }
  | _, _ => .error .refusedValue

/-- Checks 4 to 6 of R97. -/
def unitChecks (l : LadderId) (p : Nat) (b : UnitLoadBody) (s : State) : Except Status UnitRequest :=
  match unitCheckFour l b with
  | .error st => .error st
  | .ok r =>
    if s.branchHolds r.address none || s.headerHolds r.address || s.unitHolds r.address (some (l, p)) then
      .error .refusedInUse
    else if (s.unit? l p).all (·.atRest) then .ok r
    else .error .refusedState

/-- A unit loaded into an empty position (06, R98). -/
def UnitRequest.fill (r : UnitRequest) : PlantUnit :=
  { address := r.address, guard := r.guard, capacity := r.capacity, state := .off, station := .fresh UnitValues,
    commLost := false, intent := none, next := none, current := none, prove := .idle, stop := .idle, run := .idle,
    rest := .idle }

/-- A unit after a reload (06, R99). -/
def UnitRequest.reload (r : UnitRequest) (u : PlantUnit) : PlantUnit :=
  { u with address := r.address, guard := r.guard, capacity := r.capacity }

/-- Applying a clamped request (06, R98, R99). -/
def applyUnit (l : LadderId) (p : Nat) (r : UnitRequest) (s : State) : State :=
  match s.unit? l p with
  | none => (s.setUnit l p (some r.fill)).notes [unitNote l p (some .off)]
  | some u => s.setUnit l p (some (r.reload u))

/-- Emptying a position (06, R100). -/
def emptyUnit (l : LadderId) (p : Nat) (s : State) : State :=
  match s.unit? l p with
  | none => s
  | some _ => (s.setUnit l p none).notes [unitNote l p none]

/-- UNIT LOAD (06, R97), after the length check of its dispatch (11, R176). -/
def serveUnitLoad (port : Port) (b : UnitLoadBody) (s : State) : State × Reply :=
  if 2 < b.rest.length then refuse s .refusedLength
  else
    match placeOf b.ladder b.position with
    | none => refuse s .refusedIndex
    | some (l, p) =>
      if unitRankBars port (s.unit? l p) (decide (b.kindCode ≠ 0) && decide (b.guardCode = 1)) then
        refuse s .refusedRank
      else if b.kindCode = 0 then
        if (s.unit? l p).all (·.atRest) then (emptyUnit l p s, ⟨.done, []⟩) else refuse s .refusedState
      else
        match unitChecks l p b s with
        | .error st => refuse s st
        | .ok r => (applyUnit l p (r.clamped l) s, ⟨doneIf (decide (r.clamped l ≠ r)), []⟩)

/-- UNIT_LOAD. -/
def execUnitLoad (port : Port) (tag : Octet) (b : UnitLoadBody) (s : State) : Host.Outcome State Fault Refusal :=
  request port tag 3 (unitLoadOctets b) (serveUnitLoad port b) s

/-! ## LADDER ROTATE (06, R107) -/

/-- The occupied positions, ascending. -/
def Ladder.occupied (L : Ladder) : List Nat := (positions L.units.length).filter fun p => (L.unitAt p).isSome

/-- Where a rotation takes the unit at each occupied position: the first to the last's place, every later one to the
place before it. -/
def rotation (ps : List Nat) : List (Nat × Nat) :=
  match ps.getLast? with
  | none => []
  | some last => ps.zip (last :: ps.dropLast)

/-- Where a rotation takes a position. -/
def movedTo (m : List (Nat × Nat)) (p : Nat) : Nat := ((m.find? fun x => decide (x.1 = p)).map Prod.snd).getD p

/-- The ladder after a rotation; the stack names the same units (06, R107; log 10). -/
def Ladder.rotate (L : Ladder) : Ladder :=
  let m := rotation L.occupied
  { L with
    units := (positions L.units.length).map fun q =>
      match m.find? fun x => decide (x.2 = q) with
      | some x => L.unitAt x.1
      | none => none,
    stack := L.stack.map (movedTo m) }

/-- An open window follows the unit it polled to its new position (06, R107). -/
def Window.rotated (l : LadderId) (m : List (Nat × Nat)) (w : Window) : Window :=
  match w.target with
  | .unit l' p => if l' = l then { w with target := .unit l (movedTo m p) } else w
  | .branch _ => w
  | .header => w
  | .pass => w

/-- The station address at each position, 0 where there is none (06, R107; 12, R183). -/
def Ladder.addresses (L : Ladder) : List Octet := L.units.map fun u => oct ((u.map (·.address)).getD 0)

/-- A rotation taken (06, R107). -/
def rotateLadder (l : LadderId) (s : State) : State :=
  let L := s.seq.ladder l
  { s with
    seq := s.seq.setLadder l L.rotate,
    fc := { s.fc with window := s.fc.window.map (Window.rotated l (rotation L.occupied)) } }

/-- LADDER ROTATE (06, R107). -/
def serveLadderRotate (p : Port) (ladder : Octet) (s : State) : State × Reply :=
  match ladderOfCode ladder with
  | none => refuse s .refusedIndex
  | some l =>
    let L := s.seq.ladder l
    if decide (p = .supervisory) && L.units.any (fun u => u.any fun v => decide (v.guard = .panel)) then
      refuse s .refusedRank
    else if L.hasStarting then refuse s .refusedState
    else (rotateLadder l s, ⟨.done, L.rotate.addresses⟩)

/-- LADDER_ROTATE. -/
def execLadderRotate (p : Port) (tag : Octet) (ladder : Octet) (s : State) : Host.Outcome State Fault Refusal :=
  request p tag 4 [ladder] (serveLadderRotate p ladder) s

/-! ## STAGE HOLD and STAGE FREE (06, R106) -/

/-- The request hold of the selected ladders set to a value. -/
def Sequencer.setHold (sel : Bool × Bool) (v : Bool) (q : Sequencer) : Sequencer :=
  { q with
    chillers := if sel.1 then { q.chillers with requestHold := v } else q.chillers,
    pumps := if sel.2 then { q.pumps with requestHold := v } else q.pumps }

/-- STAGE HOLD (06, R106). -/
def serveStageHold (selection : Octet) (s : State) : State × Reply :=
  match selectionOfCode selection with
  | none => refuse s .refusedIndex
  | some sel => ({ s with seq := s.seq.setHold sel true }, ⟨.done, []⟩)

/-- STAGE_HOLD. -/
def execStageHold (p : Port) (tag : Octet) (selection : Octet) (s : State) : Host.Outcome State Fault Refusal :=
  request p tag 17 [selection] (serveStageHold selection) s

/-- STAGE FREE (06, R106). -/
def serveStageFree (selection : Octet) (s : State) : State × Reply :=
  match selectionOfCode selection with
  | none => refuse s .refusedIndex
  | some sel => ({ s with seq := s.seq.setHold sel false }, ⟨.done, []⟩)

/-- STAGE_FREE. -/
def execStageFree (p : Port) (tag : Octet) (selection : Octet) (s : State) : Host.Outcome State Fault Refusal :=
  request p tag 18 [selection] (serveStageFree selection) s

/-! ## READ UNIT and READ LADDER (06, R108, R109; log 11) -/

/-- The descriptor as reported: kind, station address, guard, and a chiller's capacity (06, R96). -/
def unitDescOctets (l : LadderId) (u : PlantUnit) : List Octet :=
  [kindCode l, oct u.address, oct u.guard.code]
    ++ match l with
       | .chiller => be 2 u.capacity
       | .pump => []

/-- The state with what it carries: the hand demand, or the trip cause and the late-proof mark (06, R108), with no presence
octet before it, since the state says what follows (log 38). -/
def unitStateOctets (st : UnitState) : List Octet :=
  oct (UnitState.code (some st)) ::
    match st with
    | .hand d => [oct d.code]
    | .tripped c late => [oct c.code, flag late]
    | _ => []

/-- The content of a READ UNIT reply (06, R108); PROVE's pass in one octet (log 37). -/
def unitOctets (shadow : Bool) (l : LadderId) (u : PlantUnit) : List Octet :=
  unitDescOctets l u ++ unitStateOctets u.state ++ (if shadow then [oct (Intent.code u.intent)] else [])
    ++ [oct (Freshness.code (some u.station.freshness)), oct u.station.miss, flag u.commLost]
    ++ closedOctets u.station.closed unitValuesOctets
    ++ optional u.next unitCmdOctets ++ optional u.current unitCmdOctets
    ++ timerOctets u.prove ++ [oct u.prove.pass] ++ timerOctets u.stop ++ timerOctets u.run ++ timerOctets u.rest

/-- READ UNIT (06, R108). -/
def serveReadUnit (ladder position : Octet) (s : State) : State × Reply :=
  match placeOf ladder position with
  | none => refuse s .refusedIndex
  | some (l, p) =>
    match s.unit? l p with
    | none => refuse s .refusedAbsent
    | some u => (s, ⟨.done, unitOctets s.fc.shadow l u⟩)

/-- READ_UNIT. -/
def execReadUnit (p : Port) (tag : Octet) (ladder position : Octet) (s : State) : Host.Outcome State Fault Refusal :=
  request p tag 25 [ladder, position] (serveReadUnit ladder position) s

/-- A ladder's last intent: intent, position, cycle count (06, R106). -/
def lastIntentOctets (x : LastIntent) : List Octet :=
  [oct (Intent.code (some x.intent)), oct x.position] ++ be 4 x.count.toNat

/-- A ladder's flags in the order of R106; "chiller start waiting for pump" is the chiller ladder's. -/
def ladderFlagOctets (l : LadderId) (q : Sequencer) : List Octet :=
  let L := q.ladder l
  [flag L.upPending, flag L.downPending]
    ++ (match l with
        | .chiller => [flag q.waiting]
        | .pump => [])
    ++ [flag L.requestHold, flag q.inputHold, flag L.shortCap] ++ optional L.lastIntent lastIntentOctets

/-- A ladder's staging figures in the order of R132. -/
def figureOctets (l : LadderId) (f : Figures) : List Octet :=
  be 4 f.load ++ be 4 f.count.toNat
    ++ (match l with
        | .chiller => be 4 f.cRun ++ be 2 f.capTop ++ [oct f.running, flag f.tsupUsed]
        | .pump => [oct f.pumps] ++ be 2 f.speed ++ [oct f.running])
    ++ [flag f.up, flag f.down]

/-- A ladder's six settings in the order of the timer kind codes (06, R109). -/
def periodOctets (x : Periods) : List Octet :=
  be 2 x.prove ++ be 2 x.stop ++ be 2 x.run ++ be 2 x.rest ++ be 2 x.up ++ be 2 x.down

/-- The content of a READ LADDER reply (06, R109). -/
def ladderOctets (l : LadderId) (q : Sequencer) : List Octet :=
  let L := q.ladder l
  (L.units.flatMap fun u => optional u fun v => [oct v.address, oct (UnitState.code (some v.state))])
    ++ (oct L.stack.length :: L.stack.map oct) ++ ladderFlagOctets l q ++ timerOctets L.up ++ timerOctets L.down
    ++ periodOctets L.periods ++ figureOctets l L.figures

/-- READ LADDER (06, R109). -/
def serveReadLadder (ladder : Octet) (s : State) : State × Reply :=
  match ladderOfCode ladder with
  | none => refuse s .refusedIndex
  | some l => (s, ⟨.done, ladderOctets l s.seq⟩)

/-- READ_LADDER. -/
def execReadLadder (p : Port) (tag : Octet) (ladder : Octet) (s : State) : Host.Outcome State Fault Refusal :=
  request p tag 26 [ladder] (serveReadLadder ladder) s

end Sys2Proof.Machine
end

