-- ==== Sys2Proof/Machine/Hand.lean ====
section
/-! DEFINITION. Stage Sequencing (07), the requests on units: UNIT HAND, UNIT AUTO, UNIT CLEAR, UNIT DISABLE, UNIT ENABLE,
GO LIVE; and the sequencer's part of a warm restart. -/

namespace Sys2Proof.Machine

/-! ## Checks (07, R119 to R121) -/

/-- A unit that a request names, once index and occupancy are checked. -/
structure NamedUnit where
  ladder   : LadderId
  position : Nat
  unit     : PlantUnit
  deriving DecidableEq, Repr

/-- The checks for index and occupancy (07, R119, R121). -/
def namedUnit (ladder position : Octet) (s : State) : Except Status NamedUnit :=
  match placeOf ladder position with
  | none => .error .refusedIndex
  | some (l, p) =>
    match s.unit? l p with
    | none => .error .refusedAbsent
    | some u => .ok ⟨l, p, u⟩

/-- Index, occupancy, the panel port, live mode: the first checks of UNIT HAND and UNIT AUTO (07, R119, R120; 11, R177).
-/
def panelUnit (port : Port) (ladder position : Octet) (s : State) : Except Status NamedUnit :=
  match namedUnit ladder position s with
  | .error st => .error st
  | .ok x =>
    if port = .supervisory then .error .refusedRank
    else if s.fc.shadow then .error .refusedState
    else .ok x

/-- Index, occupancy, the guard, live mode: the first checks of UNIT CLEAR, UNIT DISABLE and UNIT ENABLE (07, R121). -/
def guardedUnit (port : Port) (ladder position : Octet) (s : State) : Except Status NamedUnit :=
  match namedUnit ladder position s with
  | .error st => .error st
  | .ok x =>
    if port = .supervisory ∧ x.unit.guard = .panel then .error .refusedRank
    else if s.fc.shadow then .error .refusedState
    else .ok x

/-! ## UNIT HAND (07, R119) -/

/-- Check 5 of R119. -/
def handStateOk (st : UnitState) (d : Demand) : Bool :=
  match st with
  | .off => true
  | .running => true
  | .out => true
  | .hand _ => true
  | .resting => decide (d = .stop)
  | .starting => false
  | .stopping => false
  | .tripped _ _ => false
  | .localCtl => false

/-- Check 6 of R119: demand RUN is held back. -/
def handRunBars (x : NamedUnit) (s : State) : Bool :=
  x.unit.rest.isCounting || s.inputs.stopLatch || (decide (x.ladder = .chiller) && !s.seq.pumps.serves)

/-- Check 7 of R119: demand STOP on the last pump in service while a chiller needs flow. -/
def handStopBars (x : NamedUnit) (s : State) : Bool :=
  decide (x.ladder = .pump) && x.unit.inService
    && decide ((s.seq.pumps.units.countP fun u => u.any (·.inService)) ≤ 1)
    && s.seq.chillers.units.any fun u => u.any (·.needsFlow)

/-- A unit that UNIT HAND with demand RUN leaves proved: RUNNING, or HAND-run with PROVE idle (07, R119). -/
def PlantUnit.handProved (u : PlantUnit) : Bool := u.delivers

/-- The timers of a unit put in HAND (07, R119). -/
def handTimers (d : Demand) (x : Periods) (u : PlantUnit) : PlantUnit :=
  match d with
  | .run => { u with run := .idle, prove := if u.handProved then .idle else .start x.prove }
  | .stop =>
    if u.inService then { u with run := .idle, prove := .idle, rest := u.rest.startIfIdle x.rest }
    else { u with run := .idle }

/-- The event of an entry into HAND; a change of demand within HAND is no change of state. -/
def handNotes (x : NamedUnit) (d : Demand) : List Note :=
  match x.unit.state with
  | .hand _ => []
  | _ => [unitNote x.ladder x.position (some (.hand d))]

/-- Putting a unit in HAND (07, R119), with the waiting chiller start or the flow-loss stop it brings. -/
def Work.takeInHand (e : SeqEnv) (x : NamedUnit) (d : Demand) (w : Work) : Work :=
  let l := x.ladder
  let entered := ((w.onUnit l x.position fun u =>
    { handTimers d (w.seq.ladder l).periods u with state := .hand d, next := some ⟨d, e.setpoint l⟩ }).onLadder l
      (·.remove x.position)).say (handNotes x d)
  match l, d with
  | .pump, .run => entered.pumpServes e
  | .pump, .stop => entered.afterLeaving e .pump x.unit
  | .chiller, _ => entered

/-- UNIT HAND (07, R119); an undefined demand code is refused after check 4 (log 12). -/
def serveUnitHand (port : Port) (ladder position demand : Octet) (s : State) : State × Reply :=
  match panelUnit port ladder position s with
  | .error st => refuse s st
  | .ok x =>
    match Demand.ofCode demand with
    | none => refuse s .refusedValue
    | some d =>
      if !handStateOk x.unit.state d then refuse s .refusedState
      else if (match d with | .run => handRunBars x s | .stop => handStopBars x s) then refuse s .refusedState
      else (s.sequence fun e w => w.takeInHand e x d, ⟨.done, []⟩)

/-- UNIT_HAND. -/
def execUnitHand (p : Port) (tag : Octet) (ladder position demand : Octet) (s : State) :
    Host.Outcome State Fault Refusal :=
  request p tag 14 [ladder, position, demand] (serveUnitHand p ladder position demand) s

/-! ## UNIT AUTO (07, R120) -/

/-- The end of hand control (07, R120). -/
def Work.takeOutOfHand (e : SeqEnv) (x : NamedUnit) (w : Work) : Work :=
  let l := x.ladder
  let p := x.position
  if !x.unit.proof then
    (w.enter e l p .resting (some .stop) fun u =>
      { u with prove := .idle, rest := u.rest.startIfIdle (w.seq.ladder l).periods.rest }).afterLeaving e l x.unit
  else if e.latch || (decide (l = .chiller) && !w.seq.pumps.serves) then (w.stopOne e l p).afterLeaving e l x.unit
  else w.takeIntoService e l p

/-- UNIT AUTO (07, R120). -/
def serveUnitAuto (port : Port) (ladder position : Octet) (s : State) : State × Reply :=
  match panelUnit port ladder position s with
  | .error st => refuse s st
  | .ok x =>
    match x.unit.state with
    | .hand _ => (s.sequence fun e w => w.takeOutOfHand e x, ⟨.done, []⟩)
    | _ => refuse s .refusedState

/-- UNIT_AUTO. -/
def execUnitAuto (p : Port) (tag : Octet) (ladder position : Octet) (s : State) : Host.Outcome State Fault Refusal :=
  request p tag 15 [ladder, position] (serveUnitAuto p ladder position) s

/-! ## UNIT CLEAR, UNIT DISABLE, UNIT ENABLE (07, R121) -/

/-- The last closed status is FAULT (07, R121). -/
def PlantUnit.closedFault (u : PlantUnit) : Bool := u.station.closed.any fun c => decide (c.status = .fault)

/-- A trip cleared: RESTING, demand STOP, REST started. -/
def Work.clearTrip (e : SeqEnv) (x : NamedUnit) (w : Work) : Work :=
  w.enter e x.ladder x.position .resting (some .stop) fun u =>
    { u with rest := .start (w.seq.ladder x.ladder).periods.rest }

/-- UNIT CLEAR (07, R121). -/
def serveUnitClear (port : Port) (ladder position : Octet) (s : State) : State × Reply :=
  match guardedUnit port ladder position s with
  | .error st => refuse s st
  | .ok x =>
    match x.unit.state with
    | .tripped _ _ =>
      if x.unit.closedFault then refuse s .refusedState
      else (s.sequence fun e w => w.clearTrip e x, ⟨.done, []⟩)
    | _ => refuse s .refusedState

/-- UNIT_CLEAR. -/
def execUnitClear (p : Port) (tag : Octet) (ladder position : Octet) (s : State) : Host.Outcome State Fault Refusal :=
  request p tag 16 [ladder, position] (serveUnitClear p ladder position) s

/-- UNIT DISABLE (07, R121): OUT, a counting REST timer left to run. -/
def serveUnitDisable (port : Port) (ladder position : Octet) (s : State) : State × Reply :=
  match guardedUnit port ladder position s with
  | .error st => refuse s st
  | .ok x =>
    match x.unit.state with
    | .off => (s.sequence fun e w => w.enter e x.ladder x.position .out none id, ⟨.done, []⟩)
    | .resting => (s.sequence fun e w => w.enter e x.ladder x.position .out none id, ⟨.done, []⟩)
    | .tripped _ _ => (s.sequence fun e w => w.enter e x.ladder x.position .out none id, ⟨.done, []⟩)
    | _ => refuse s .refusedState

/-- UNIT_DISABLE. -/
def execUnitDisable (p : Port) (tag : Octet) (ladder position : Octet) (s : State) :
    Host.Outcome State Fault Refusal :=
  request p tag 32 [ladder, position] (serveUnitDisable p ladder position) s

/-- Back in service: RESTING while REST counts, OFF otherwise (07, R121). -/
def Work.enable (e : SeqEnv) (x : NamedUnit) (w : Work) : Work :=
  if x.unit.rest.isCounting then w.enter e x.ladder x.position .resting (some .stop) id
  else w.enter e x.ladder x.position .off none id

/-- UNIT ENABLE (07, R121). -/
def serveUnitEnable (port : Port) (ladder position : Octet) (s : State) : State × Reply :=
  match guardedUnit port ladder position s with
  | .error st => refuse s st
  | .ok x =>
    match x.unit.state with
    | .out => (s.sequence fun e w => w.enable e x, ⟨.done, []⟩)
    | _ => refuse s .refusedState

/-- UNIT_ENABLE. -/
def execUnitEnable (p : Port) (tag : Octet) (ladder position : Octet) (s : State) :
    Host.Outcome State Fault Refusal :=
  request p tag 33 [ladder, position] (serveUnitEnable p ladder position) s

/-! ## GO LIVE (02, R40; 07, R131) -/

/-- A unit at GO LIVE: RUN started afresh if RUNNING, no intent. -/
def PlantUnit.goLive (period : Nat) (u : PlantUnit) : PlantUnit :=
  { u with intent := none, run := if u.state = .running then .start period else u.run }

/-- A ladder at GO LIVE. -/
def Ladder.goLive (L : Ladder) : Ladder := { L with units := L.units.map (·.map (PlantUnit.goLive L.periods.run)) }

/-- Some unit of the ladder is RUNNING. -/
def Ladder.hasRunning (L : Ladder) : Bool := L.units.any fun u => u.any fun v => decide (v.state = .running)

/-- The part goes live (07, R131): the timers and intents, and the STOP latch's stop if it is set. -/
def goLive (s : State) : State :=
  ({ s with fc := { s.fc with shadow := false } } : State).sequence fun e w =>
    let v : Work := { w with seq := { w.seq with chillers := w.seq.chillers.goLive, pumps := w.seq.pumps.goLive } }
    if e.latch then v.stopAll e else v

/-- GO LIVE (02, R40; 07, R131). -/
def serveGoLive (p : Port) (s : State) : State × Reply :=
  if p = .supervisory then refuse s .refusedRank
  else if !s.fc.shadow then refuse s .refusedState
  else if s.seq.chillers.hasRunning && !s.seq.pumps.hasRunning then refuse s .refusedState
  else (goLive s, ⟨.done, []⟩)

/-- GO_LIVE. -/
def execGoLive (p : Port) (tag : Octet) (s : State) : Host.Outcome State Fault Refusal :=
  request p tag 20 [] (serveGoLive p) s

/-! ## Warm restart (06, R111; 07, R133; 08, R144; log 19) -/

/-- A unit's timers after a warm restart in live mode. -/
def PlantUnit.restartTimers (x : Periods) (u : PlantUnit) : PlantUnit :=
  { u with
    run := if u.state = .running then .start x.run else .idle,
    prove := if u.state = .starting ∨ u.prove.isCounting then .start x.prove else .idle,
    stop := if u.state = .stopping then .start x.stop else .idle,
    rest := if u.state = .resting ∨ u.rest.isCounting then .start x.rest else .idle }

/-- A unit after a warm restart. -/
def PlantUnit.restart (shadow : Bool) (x : Periods) (u : PlantUnit) : PlantUnit :=
  { (if shadow then u else u.restartTimers x) with station := u.station.restart, commLost := false }

/-- A ladder after a warm restart. -/
def Ladder.restart (shadow : Bool) (L : Ladder) : Ladder :=
  { L with
    units := L.units.map (·.map (PlantUnit.restart shadow L.periods)), upPending := false, downPending := false,
    shortCap := false, up := .idle, down := .idle }

/-- The Stage Sequencer's and the Unit Timer Bank's parts of a warm restart. -/
def restartSequencer (s : State) : State :=
  { s with
    seq := { s.seq with
      chillers := s.seq.chillers.restart s.fc.shadow, pumps := s.seq.pumps.restart s.fc.shadow, waiting := false } }

end Sys2Proof.Machine
end

