-- ==== Sys2Proof/Machine/Timers.lean ====
section
/-! DEFINITION. Unit Timer Bank (08): the period settings, the second mark, TIMER RELOAD, and the sequencer's action on
each expiry (07, R114, R115, R124). -/

namespace Sys2Proof.Machine

/-! ## TIMER PERIOD SET (08, R135) -/

/-- The state with a ladder changed. -/
def State.onLadder (s : State) (l : LadderId) (f : Ladder → Ladder) : State :=
  { s with seq := s.seq.setLadder l (f (s.seq.ladder l)) }

/-- TIMER PERIOD SET (08, R135). -/
def serveTimerPeriodSet (ladder kind : Octet) (period : Half) (s : State) : State × Reply :=
  match ladderOfCode ladder with
  | none => refuse s .refusedIndex
  | some l =>
    match TimerKind.ofCode kind with
    | none => refuse s .refusedValue
    | some k =>
      let n := max 1 period.toNat
      (s.onLadder l fun L => { L with periods := L.periods.put k n }, ⟨doneIf (decide (n ≠ period.toNat)), be 2 n⟩)

/-- TIMER_PERIOD_SET. -/
def execTimerPeriodSet (p : Port) (tag : Octet) (ladder kind : Octet) (period : Half) (s : State) :
    Host.Outcome State Fault Refusal :=
  request p tag 8 [ladder, kind, hi period, lo period] (serveTimerPeriodSet ladder kind period) s

/-! ## TIMER RELOAD (08, R141) -/

/-- The timer of a unit by kind; the ladder kinds name none. -/
def PlantUnit.timer (u : PlantUnit) : TimerKind → Timer
  | .prove => u.prove
  | .stop => u.stop
  | .run => u.run
  | .rest => u.rest
  | .up => .idle
  | .down => .idle

/-- A unit with the timer of a kind replaced. -/
def PlantUnit.setTimer (u : PlantUnit) (k : TimerKind) (t : Timer) : PlantUnit :=
  match k with
  | .prove => { u with prove := t }
  | .stop => { u with stop := t }
  | .run => { u with run := t }
  | .rest => { u with rest := t }
  | .up => u
  | .down => u

/-- The reload of a ladder timer: check 5 and the effect. -/
def reloadLadderTimer (l : LadderId) (k : TimerKind) (s : State) : State × Reply :=
  let L := s.seq.ladder l
  let n := L.periods.get k
  match k with
  | .up =>
    if L.up.isCounting then (s.onLadder l fun L => { L with up := L.up.reload n }, ⟨.done, be 2 n⟩)
    else refuse s .refusedState
  | _ =>
    if L.down.isCounting then (s.onLadder l fun L => { L with down := L.down.reload n }, ⟨.done, be 2 n⟩)
    else refuse s .refusedState

/-- The reload of a unit timer: checks 3 to 5 and the effect. -/
def reloadUnitTimer (port : Port) (l : LadderId) (p : Nat) (k : TimerKind) (s : State) : State × Reply :=
  match s.unit? l p with
  | none => refuse s .refusedAbsent
  | some u =>
    if port = .supervisory ∧ u.guard = .panel then refuse s .refusedRank
    else if !(u.timer k).isCounting then refuse s .refusedState
    else
      let n := (s.seq.ladder l).periods.get k
      (s.setUnit l p (some (u.setTimer k ((u.timer k).reload n))), ⟨.done, be 2 n⟩)

/-- A kind code that names a ladder timer (08, R141). -/
def ladderKindOf (kind : Octet) : Option TimerKind :=
  match TimerKind.ofCode kind with
  | some .up => some .up
  | some .down => some .down
  | _ => none

/-- TIMER RELOAD (08, R141); a ladder kind ignores the position (12.3). -/
def serveTimerReload (port : Port) (ladder position kind : Octet) (s : State) : State × Reply :=
  match ladderOfCode ladder with
  | none => refuse s .refusedIndex
  | some l =>
    match ladderKindOf kind with
    | some k => reloadLadderTimer l k s
    | none =>
      if position.toNat < 1 ∨ ladderSize l < position.toNat then refuse s .refusedIndex
      else
        match TimerKind.ofCode kind with
        | none => refuse s .refusedValue
        | some k => reloadUnitTimer port l position.toNat k s

/-- TIMER_RELOAD. -/
def execTimerReload (p : Port) (tag : Octet) (ladder position kind : Octet) (s : State) :
    Host.Outcome State Fault Refusal :=
  request p tag 9 [ladder, position, kind] (serveTimerReload p ladder position kind) s

/-! ## The second mark (08, R137; 09, R146; log 8) -/

/-- A unit's timers at a mark. -/
def PlantUnit.tick (u : PlantUnit) : PlantUnit :=
  { u with prove := u.prove.tick, stop := u.stop.tick, run := u.run.tick, rest := u.rest.tick }

/-- A ladder's timers at a mark. -/
def Ladder.tick (L : Ladder) : Ladder :=
  { L with units := L.units.map (·.map PlantUnit.tick), up := L.up.tick, down := L.down.tick }

/-- One whole second: every counting timer and the day clock. -/
def secondMark (s : State) : State :=
  { s with
    seq := { s.seq with chillers := s.seq.chillers.tick, pumps := s.seq.pumps.tick }, store := s.store.tick }

/-- SECOND_MARK. -/
def execSecondMark (s : State) : Host.Outcome State Fault Refusal := .next (unlessReset s secondMark)

/-! ## Expiries (08, R138; 07, R114, R115, R124) -/

/-- PROVE's expiry, once its count has run out: the second pass, or the trip (07, R114; 08, R140). -/
def Work.proveExpired (e : SeqEnv) (l : LadderId) (p : Nat) (u : PlantUnit) (w : Work) : Work :=
  match u.prove with
  | .idle => w
  | .counting _ latched pass =>
    let idle := w.onUnit l p fun v => { v with prove := .idle }
    if u.state = .starting ∨ u.state = .hand .run then
      if pass = 1 then
        (w.onUnit l p fun v => { v with prove := .counting latched latched 2 }).say
          [⟨.proveSlow, ladderSubject l + p, 1⟩]
      else idle.trip e l p .noProof
    else idle

/-- STOP's expiry (07, R115). -/
def Work.stopExpired (e : SeqEnv) (l : LadderId) (p : Nat) (u : PlantUnit) (w : Work) : Work :=
  let idle := w.onUnit l p fun v => { v with stop := .idle }
  if u.state = .stopping then idle.trip e l p .noStop else idle

/-- RUN's expiry (07, R115). -/
def Work.runExpired (e : SeqEnv) (l : LadderId) (p : Nat) (u : PlantUnit) (w : Work) : Work :=
  let idle := w.onUnit l p fun v => { v with run := .idle }
  if u.state = .running ∧ (w.seq.ladder l).stack.getLast? = some p then idle.tryDown e l else idle

/-- REST's expiry (07, R115). -/
def Work.restExpired (e : SeqEnv) (l : LadderId) (p : Nat) (u : PlantUnit) (w : Work) : Work :=
  let idle := w.onUnit l p fun v => { v with rest := .idle }
  if u.state = .resting then idle.enter e l p .off none id else idle

/-- An expiry of a unit's timer, when the count of that timer has run out (log 3, log 8). -/
def unitExpiry (l : LadderId) (p : Nat) (timer : PlantUnit → Timer)
    (act : SeqEnv → LadderId → Nat → PlantUnit → Work → Work) (s : State) : State :=
  match s.unit? l p with
  | none => s
  | some u => if (timer u).ranOut then s.sequence fun e w => act e l p u w else s

/-- The meaning of a unit timer's expiry row; a position outside the ladder has no timer (log 23). -/
def expiryAt (l : LadderId) (p : Nat) (work : State → State) (s : State) : Host.Outcome State Fault Refusal :=
  if 1 ≤ p ∧ p ≤ ladderSize l then .next (unlessReset s work) else .fault .noSuchPosition

/-- PROVE_EXPIRY (07, R114). -/
def execProveExpiry (l : LadderId) (p : Nat) (s : State) : Host.Outcome State Fault Refusal :=
  expiryAt l p (unitExpiry l p (·.prove) fun e l p u w => w.proveExpired e l p u) s

/-- STOP_EXPIRY (07, R115). -/
def execStopExpiry (l : LadderId) (p : Nat) (s : State) : Host.Outcome State Fault Refusal :=
  expiryAt l p (unitExpiry l p (·.stop) fun e l p u w => w.stopExpired e l p u) s

/-- RUN_EXPIRY (07, R115). -/
def execRunExpiry (l : LadderId) (p : Nat) (s : State) : Host.Outcome State Fault Refusal :=
  expiryAt l p (unitExpiry l p (·.run) fun e l p u w => w.runExpired e l p u) s

/-- REST_EXPIRY (07, R115). -/
def execRestExpiry (l : LadderId) (p : Nat) (s : State) : Host.Outcome State Fault Refusal :=
  expiryAt l p (unitExpiry l p (·.rest) fun e l p u w => w.restExpired e l p u) s

/-- UP's expiry: up pending set and acted on (07, R124). -/
def upExpired (l : LadderId) (s : State) : State :=
  if (s.seq.ladder l).up.ranOut then
    s.sequence fun e w => (w.onLadder l fun L => { L with up := .idle }).raiseUp e l
  else s

/-- UP_EXPIRY. -/
def execUpExpiry (l : LadderId) (s : State) : Host.Outcome State Fault Refusal := .next (unlessReset s (upExpired l))

/-- DOWN's expiry: down pending set and acted on (07, R124; log 16). -/
def downExpired (l : LadderId) (s : State) : State :=
  if (s.seq.ladder l).down.ranOut then
    s.sequence fun e w => (w.onLadder l fun L => { L with down := .idle, downPending := true }).actDown e l
  else s

/-- DOWN_EXPIRY. -/
def execDownExpiry (l : LadderId) (s : State) : Host.Outcome State Fault Refusal :=
  .next (unlessReset s (downExpired l))

end Sys2Proof.Machine
end

