-- ==== Sys2Proof/Machine/Capture.lean ====
section
/-! DEFINITION. Discrete Inputs and the Event List (10): channels, captures, the input hold, the STOP latch, and the
requests that read captures and events. -/

namespace Sys2Proof.Machine

/-- The channel n, 1 to 8. -/
def Inputs.channel (x : Inputs) : Nat → Option Channel
  | 0 => none
  | n + 1 => x.channels[n]?

/-- The inputs with channel n replaced. -/
def Inputs.setChannel (x : Inputs) (n : Nat) (c : Channel) : Inputs := { x with channels := x.channels.set (n - 1) c }

/-- The subject of channel n (10, section 10.5). -/
def channelSubject (n : Nat) : Nat := captureSubject + n

/-- The input hold of both ladders brought up to date (10, R163). -/
def State.updateHold (s : State) : State := { s with seq := { s.seq with inputHold := s.inputs.holds } }

/-- The STOP latch set by channel n: its event, then the sequencer's stops; nothing when it is set already (10, R164). -/
def State.setLatch (s : State) (n : Nat) (detail : Int) : State :=
  if s.inputs.stopLatch then s
  else
    (({ s with inputs := { s.inputs with stopLatch := true } } : State).notes
      [⟨.stopLatchOn, channelSubject n, detail⟩]).sequence fun e w => w.stopAll e

/-! ## Captures (10, R160, R161, R164) -/

/-- A channel after an edge it captures, at a cycle count and slot position (10, R160). -/
def Channel.captured (c : Channel) (count : CycleCount) (position : Option Nat) (high : Bool) : Channel :=
  { c with
    level := high, pending := true,
    record := some { count := count, position := position, rising := high, overwritten := c.pending } }

/-- The CAPTURE event's detail: the direction, doubled when a pending record is overwritten (10, R160). -/
def captureDetail (c : Channel) (high : Bool) : Int :=
  (if high then 1 else -1) * (if c.pending then 2 else 1)

/-- An edge of channel n that its selection captures: the record, the event, the input hold, and the latch when the
input of a STOP_ALL channel becomes active (10, R160, R163, R164). -/
def takeEdge (n : Nat) (c : Channel) (high : Bool) (position : Option Nat) (s : State) : State :=
  let c' := c.captured s.fc.count position high
  let t := (({ s with inputs := s.inputs.setChannel n c' } : State).notes
    [⟨.capture, channelSubject n, captureDetail c high⟩]).updateHold
  if c'.action = .stopAll ∧ c'.active = true then t.setLatch n 1 else t

/-- The level of input n taken: nothing when it has not changed, the taken level and the hold alone when the change is
not captured (10, R160). -/
def takeLevel (n : Nat) (high : Bool) (position : Option Nat) (s : State) : State :=
  match s.inputs.channel n with
  | none => s
  | some c =>
    if c.level = high then s
    else if c.edge.captures high then takeEdge n c high position s
    else ({ s with inputs := s.inputs.setChannel n { c with level := high } } : State).updateHold

/-- The level at pin n. -/
def Inputs.pin (x : Inputs) (n : Nat) : Bool := x.pins.getD (n - 1) false

/-- The sample of channels 7 and 8 at cycle start (10, R161): channel 7's whole, capture, hold and latch, before channel
8's (log 35). -/
def sampleSlow (s : State) : State :=
  let t := takeLevel 7 (s.inputs.pin 7) none s
  takeLevel 8 (t.inputs.pin 8) none t

/-- A level at a pin: channels 1 to 6 take it at once, unless RST is asserted (10, R160; log 21). -/
def inputEdge (n : Nat) (high : Bool) (s : State) : State :=
  let t : State := { s with inputs := { s.inputs with pins := s.inputs.pins.set (n - 1) high } }
  if s.rst || decide (6 < n) then t else takeLevel n high (some s.fc.position) t

/-- INPUT_EDGE (10, R160); the part has no other inputs than IN1 to IN8 (log 23). -/
def execInputEdge (n : Nat) (high : Bool) (s : State) : Host.Outcome State Fault Refusal :=
  if 1 ≤ n ∧ n ≤ 8 then .next (inputEdge n high s) else .fault .noSuchInput

/-! ## Requests -/

/-- CHANNEL SET (10, R159). -/
def serveChannelSet (p : Port) (channel edge action : Octet) (s : State) : State × Reply :=
  match s.inputs.channel channel.toNat with
  | none => refuse s .refusedIndex
  | some c =>
    match Edge.ofCode edge, Action.ofCode action with
    | some e, some a =>
      if p = .supervisory ∧ (c.action = .stopAll ∨ a = .stopAll) then refuse s .refusedRank
      else
        let c' : Channel := { c with edge := e, action := a }
        let t := ({ s with inputs := s.inputs.setChannel channel.toNat c' } : State).updateHold
        (if a = .stopAll ∧ c'.active = true then t.setLatch channel.toNat 2 else t, ⟨.done, []⟩)
    | _, _ => refuse s .refusedValue

/-- CHANNEL_SET. -/
def execChannelSet (p : Port) (tag : Octet) (channel edge action : Octet) (s : State) :
    Host.Outcome State Fault Refusal :=
  request p tag 13 [channel, edge, action] (serveChannelSet p channel edge action) s

/-- READ CAPTURE (10, R162). -/
def serveReadCapture (channel : Octet) (s : State) : State × Reply :=
  match s.inputs.channel channel.toNat with
  | none => refuse s .refusedIndex
  | some c =>
    match c.record with
    | none => refuse s .refusedAbsent
    | some r =>
      ({ s with
         inputs := s.inputs.setChannel channel.toNat
           { c with record := some { r with overwritten := false }, pending := false } },
       ⟨.done, r.octets ++ [flag c.pending]⟩)

/-- READ_CAPTURE. -/
def execReadCapture (p : Port) (tag : Octet) (channel : Octet) (s : State) : Host.Outcome State Fault Refusal :=
  request p tag 30 [channel] (serveReadCapture channel) s

/-- RELEASE STOP (10, R165). -/
def serveReleaseStop (p : Port) (s : State) : State × Reply :=
  if p = .supervisory then refuse s .refusedRank
  else if s.inputs.stopActive then refuse s .refusedState
  else if s.inputs.stopLatch then
    (({ s with inputs := { s.inputs with stopLatch := false } } : State).notes [⟨.stopLatchOff, captureSubject, 0⟩],
     ⟨.done, []⟩)
  else (s, ⟨.done, []⟩)

/-- RELEASE_STOP. -/
def execReleaseStop (p : Port) (tag : Octet) (s : State) : Host.Outcome State Fault Refusal :=
  request p tag 19 [] (serveReleaseStop p) s

/-- The content of a READ EVENTS reply (12.2). -/
def eventOctets (x : EventList) : List Octet :=
  let taken := x.records.take Config.eventsPerRead
  [flag x.discarded] ++ be 2 x.discardedCount ++ [oct (x.records.length - taken.length), oct taken.length]
    ++ taken.flatMap EventRecord.octets

/-- The list after a READ EVENTS (10, R167). -/
def EventList.drained (x : EventList) : EventList :=
  { records := x.records.drop Config.eventsPerRead, discarded := false, discardedCount := 0 }

/-- READ EVENTS (10, R167). -/
def serveReadEvents (s : State) : State × Reply :=
  ({ s with events := s.events.drained }, ⟨.done, eventOctets s.events⟩)

/-- READ_EVENTS. -/
def execReadEvents (p : Port) (tag : Octet) (s : State) : Host.Outcome State Fault Refusal :=
  request p tag 29 [] serveReadEvents s

end Sys2Proof.Machine
end

