-- ==== Sys2Proof/Machine/Pressure.lean ====
section
/-! DEFINITION. Network Pressure Reset (05): the evaluation at readings-closed, the pump setpoint write, and PLANT LIMITS
SET. -/

namespace Sys2Proof.Machine

/-! ## The header and the eligible branches (05, R80 to R83) -/

/-- DPh of a usable header (05, R80). -/
def Header.dph (h : Header) : Option Nat :=
  if h.station.joined then none
  else
    match h.station.freshness with
    | .online => h.station.values.map (·.dph)
    | .localCtl => h.station.values.map (·.dph)
    | .held => h.station.values.map (·.dph)
    | .awaiting => none
    | .stale => none
    | .lost => none

/-- What an evaluation forms for an eligible branch (05, R82, R83). -/
structure Eligible where
  index   : Nat
  need    : Nat
  allowed : Nat
  deriving DecidableEq, Repr

/-- The freshness states an eligible branch may have (05, R81). -/
def Freshness.trusted : Freshness → Bool
  | .online => true
  | .localCtl => true
  | .held => true
  | .awaiting => false
  | .stale => false
  | .lost => false

/-- The trim a branch is entitled to (05, R82). -/
def trimFor (lim : Limits) (t : Throttle) (valve : Nat) : Nat :=
  if lim.trimThreshold ≤ valve ∧ t.throttled = false then lim.trim else 0

/-- The need and the allowance of a branch, when it is eligible (05, R81 to R83). -/
def eligible (lim : Limits) (dph index : Nat) (b : Branch) : Option Eligible :=
  if b.station.joined || !b.station.freshness.trusted then none
  else
    match b.part, b.station.values with
    | .consumer t _ _, some v =>
      match v.tail with
      | .consumer dpb valve =>
        some { index := index, need := b.desc.dpRequired + (dph - dpb) + trimFor lim t valve,
               allowed := b.desc.dpCeiling + (dph - dpb) }
      | .storage _ => none
    | _, _ => none

/-- The eligible branches of the table, ascending. -/
def eligibles (lim : Limits) (dph : Nat) (bs : List (Option Branch)) : List Eligible :=
  bs.zipIdx.filterMap fun x => x.1.bind (eligible lim dph x.2)

/-- The greatest need, the lowest index winning a tie (05, R84). -/
def mostNeedy : Eligible → List Eligible → Eligible
  | e, [] => e
  | e, f :: rest => mostNeedy (if e.need < f.need then f else e) rest

/-- The smallest allowance, the lowest index winning a tie (05, R83). -/
def mostLimiting : Eligible → List Eligible → Eligible
  | e, [] => e
  | e, f :: rest => mostLimiting (if f.allowed < e.allowed then f else e) rest

/-! ## The target and the ramp (05, R85 to R87) -/

/-- The setpoint moved toward the target by at most `step` (05, R87). -/
def ramp (step setpoint target : Nat) : Nat :=
  if setpoint < target then setpoint + min step (target - setpoint) else setpoint - min step (setpoint - target)

/-- The setpoint after an evaluation with a target (05, R87). -/
def nextSetpoint (lim : Limits) (setpoint target : Nat) : Nat :=
  clamp lim.dpMin lim.dpMax (ramp lim.dpRamp setpoint target)

/-- The ON or OFF event of a flag that changes. -/
def flagChange (before after : Bool) (on off : Note) : List Note :=
  match before, after with
  | false, true => [on]
  | true, false => [off]
  | _, _ => []

/-- An evaluation that finds no eligible branch (05, R86). -/
def evaluateFallback (count : CycleCount) (lim : Limits) (q : Pressure) : Pressure × List Note :=
  ({ q with
     setpoint := nextSetpoint lim q.setpoint lim.dpFallback, target := lim.dpFallback, critical := none,
     criticalNeed := 0, limiting := none, ceiling := 0, eligible := 0, conflict := false, noCritical := true,
     stamp := count },
   flagChange q.noCritical true ⟨.noCriticalOn, headerSubject, lim.dpFallback⟩ ⟨.noCriticalOff, headerSubject, 0⟩
     ++ flagChange q.conflict false ⟨.dpConflictOn, headerSubject, 0⟩ ⟨.dpConflictOff, headerSubject, 0⟩)

/-- The target of R85: the need target, held down to the ceiling, clamped into the limits. -/
def targetOf (lim : Limits) (need ceiling : Nat) : Nat :=
  clamp lim.dpMin lim.dpMax (min (need + lim.dpMargin) ceiling)

/-- An evaluation with at least one eligible branch (05, R83 to R85, R87). -/
def evaluateNeeds (count : CycleCount) (lim : Limits) (e : Eligible) (rest : List Eligible) (q : Pressure) :
    Pressure × List Note :=
  let crit := mostNeedy e rest
  let tight := mostLimiting e rest
  let target := targetOf lim crit.need tight.allowed
  let excess := max (crit.need + lim.dpMargin) target
  let conflict := decide (tight.allowed < excess)
  ({ q with
     setpoint := nextSetpoint lim q.setpoint target, target := target, critical := some crit.index,
     criticalNeed := crit.need, limiting := some tight.index, ceiling := tight.allowed,
     eligible := rest.length + 1, conflict := conflict, noCritical := false, stamp := count },
   flagChange q.noCritical false ⟨.noCriticalOn, headerSubject, 0⟩ ⟨.noCriticalOff, crit.index, crit.need⟩
     ++ flagChange q.conflict conflict ⟨.dpConflictOn, tight.index, (excess - tight.allowed : Nat)⟩
          ⟨.dpConflictOff, tight.index, 0⟩)

/-- The calculator's judgement and evaluation at readings-closed (05, R80 to R87). -/
def judgePressure (count : CycleCount) (lim : Limits) (header : Option Header) (bs : List (Option Branch))
    (q : Pressure) : Pressure × List Note :=
  let detail : Int := Freshness.code (header.map fun h => h.station.freshness)
  let stale := fun after => flagChange q.headerStale after ⟨.headerStaleOn, headerSubject, detail⟩
    ⟨.headerStaleOff, headerSubject, detail⟩
  match header.bind Header.dph with
  | none => ({ q with headerStale := true }, stale true)
  | some dph =>
    let x := match eligibles lim dph bs with
      | [] => evaluateFallback count lim { q with headerStale := false }
      | e :: rest => evaluateNeeds count lim e rest { q with headerStale := false }
    (x.1, stale false ++ x.2)

/-! ## Pump setpoints (05, R88, R90) -/

/-- A pump that takes the setpoint: RUNNING, STARTING, or HAND with demand RUN (05, R88). -/
def PlantUnit.takesSetpoint (u : PlantUnit) : Bool := u.needsFlow

/-- The setpoint written into the block of a pump that takes it. -/
def PlantUnit.writeSetpoint (setpoint : Nat) (u : PlantUnit) : PlantUnit :=
  if u.takesSetpoint then { u with next := u.next.map fun c => { c with setpoint := setpoint } } else u

/-- The setpoint written into every pump's block that takes it (05, R88). -/
def Ladder.writeSetpoint (setpoint : Nat) (L : Ladder) : Ladder :=
  { L with units := L.units.map (·.map (PlantUnit.writeSetpoint setpoint)) }

/-- The pumps' blocks with the setpoint in force written (05, R88). -/
def State.writePumps (s : State) : State :=
  { s with seq := { s.seq with pumps := s.seq.pumps.writeSetpoint s.press.setpoint } }

/-- The calculator's work at readings-closed (05, R79). -/
def pressureClosed (s : State) : State :=
  let x := judgePressure s.fc.count s.limits s.header s.branches s.press
  (({ s with press := x.1 } : State).writePumps).notes x.2

/-! ## PLANT LIMITS SET (05, R89, R90; 01, R5) -/

/-- The limits as carried. -/
def carriedLimits (b : LimitsBody) : Limits :=
  { dpMin := b.dpMin.toNat, dpMax := b.dpMax.toNat, dpFallback := b.dpFallback.toNat, dpMargin := b.dpMargin.toNat,
    dpRamp := b.dpRamp.toNat, trim := b.trim.toNat, trimThreshold := b.trimThreshold.toNat,
    supplySet := b.supplySet.toNat, supplyBand := b.supplyBand.toNat, upPct := b.upPct.toNat,
    downPct := b.downPct.toNat, pumpUp := b.pumpUp.toNat, pumpDown := b.pumpDown.toNat, kStale := b.kStale.toNat,
    kLost := b.kLost.toNat }

/-- Step 1 of R89: each limit but DP_fallback clamped into its range. -/
def Limits.ranged (x : Limits) : Limits :=
  { x with
    dpMin := min 10000 x.dpMin, dpMax := min 10000 x.dpMax, dpMargin := min 2000 x.dpMargin,
    dpRamp := clamp 1 1000 x.dpRamp, trim := min 1000 x.trim, trimThreshold := clamp 500 1000 x.trimThreshold,
    supplySet := clamp 300 1500 x.supplySet, supplyBand := clamp 10 500 x.supplyBand, upPct := clamp 50 100 x.upPct,
    downPct := clamp 30 95 x.downPct, pumpUp := clamp 500 1000 x.pumpUp, pumpDown := clamp 100 900 x.pumpDown,
    kStale := clamp 1 50 x.kStale, kLost := clamp 2 51 x.kLost }

/-- Step 4 of R89: the clamps that look at another limit. -/
def Limits.related (x : Limits) : Limits :=
  { x with
    dpFallback := clamp x.dpMin x.dpMax x.dpFallback, pumpDown := min (x.pumpUp - 1) x.pumpDown,
    kLost := max (x.kStale + 1) x.kLost }

/-- The header address check: the refusal, if any (01, R5; 05, R89). -/
def headerAddressBars (a : Octet) (s : State) : Option Status :=
  if a = 0 then none
  else if !validAddress a then some .refusedValue
  else if s.branchHolds a.toNat none || s.unitHolds a.toNat none then some .refusedInUse
  else none

/-- A header at a new address (01, R5), loaded since the last cycle start or not (02, R25). -/
def freshHeader (address : Nat) (recent : Bool) : Header :=
  { address := address, station := .fresh HeaderValues, recent := recent }

/-- The header record follows the address an accepted request carried (01, R5). -/
def applyHeader (a : Octet) (s : State) : State :=
  match s.header with
  | none =>
    if a = 0 then s
    else
      ({ s with header := some (freshHeader a.toNat true) } : State).notes
        [branchStateNote headerSubject (some .awaiting)]
  | some h =>
    if a = 0 then ({ s with header := none } : State).notes [branchStateNote headerSubject none]
    else if a.toNat = h.address then s
    else
      ({ s with header := some (freshHeader a.toNat h.recent) } : State).notes
        (if h.station.freshness = .awaiting then [] else [branchStateNote headerSubject (some .awaiting)])

/-- The setpoint clamped into new limits, and written to the pumps when the clamp changes it (05, R90). -/
def applySetpoint (s : State) : State :=
  let v := clamp s.limits.dpMin s.limits.dpMax s.press.setpoint
  if v = s.press.setpoint then s else ({ s with press := { s.press with setpoint := v } } : State).writePumps

/-- PLANT LIMITS SET (05, R89). -/
def servePlantLimitsSet (b : LimitsBody) (s : State) : State × Reply :=
  let ranged := (carriedLimits b).ranged
  if ranged.dpMax < ranged.dpMin then refuse s .refusedValue
  else
    match headerAddressBars b.headerAddress s with
    | some st => refuse s st
    | none =>
      (applySetpoint (applyHeader b.headerAddress { s with limits := ranged.related }),
       ⟨doneIf (decide (ranged.related ≠ carriedLimits b)), []⟩)

/-- PLANT_LIMITS_SET. -/
def execPlantLimitsSet (p : Port) (tag : Octet) (b : LimitsBody) (s : State) : Host.Outcome State Fault Refusal :=
  request p tag 7 (limitsBodyOctets b) (servePlantLimitsSet b) s

end Sys2Proof.Machine
end

