-- ==== Sys2Proof/Machine/Cycle.lean ====
section
/-! DEFINITION. The two events that pace the part, composed from its blocks: cycle start (02, section 2.4; 10, R161) and
cycle end with readings-closed (02, R38; log 6). -/

namespace Sys2Proof.Machine

/-- A cycle start: the controller's work, then the samples of channels 7 and 8. -/
def beginCycle (s : State) : State := sampleSlow (startCycle s)

/-- CYCLE_START (02, R29), when the part is between a cycle end and the next start. -/
def cycleStart (s : State) : State := if s.fc.position = Config.gapPosition then beginCycle s else s

/-- CYCLE_START. -/
def execCycleStart (s : State) : Host.Outcome State Fault Refusal := .next (unlessReset s cycleStart)

/-- Readings-closed: the Branch Table, the Metering Unit, the Delta-T Monitor, the Pressure Reset Calculator, the Stage
Sequencer, the Storage Scheduler (95, CYCLE_END; log 6). Tc is the P_eff of the cycle. -/
def readingsClosed (s : State) : State :=
  storageClosed s.fc.pEff (storageAvailable s.storage)
    (sequencerClosed (pressureClosed (monitorTable (meterTable s.fc.pEff (closeTable s)))))

/-- CYCLE_END (02, R38), when the open slot's window has closed. -/
def cycleEnd (s : State) : State := if s.fc.endDue then readingsClosed (endCycle s) else s

/-- CYCLE_END. -/
def execCycleEnd (s : State) : Host.Outcome State Fault Refusal := .next (unlessReset s cycleEnd)

end Sys2Proof.Machine
end

