-- ==== Sys2Proof/Machine/Links.lean ====
section
/-! DEFINITION. Plant Link Ports (11): READ PLANT, RESTART with its warm restart, the dispatch of a taken frame, the
receivers and transmit queues, and RST. -/

namespace Sys2Proof.Machine

/-! ## READ PLANT (11, R181; 12.2) -/

/-- The header figures (01, R19). -/
def headerOctets (h : Option Header) : List Octet :=
  [oct ((h.map (·.address)).getD 0), oct (Freshness.code (h.map fun x => x.station.freshness)),
    oct ((h.map fun x => x.station.miss).getD 0)] ++ closedOctets (h.bind fun x => x.station.closed) headerValuesOctets

/-- The field cycle figures (02, R41); the FIELD RATE strap value in one octet (log 37). -/
def cycleOctets (f : FieldCycle) : List Octet :=
  be 4 f.count.toNat ++ [oct f.position] ++ be 2 f.pCfg ++ be 2 f.pEff
    ++ [flag f.stretched, flag f.lineShadow, flag f.shadow, oct f.queue.length, flag f.inFlight.isSome,
      oct f.lastGood, oct f.lastMisses, oct f.rate.toNat]

/-- The load figures (03, R56). -/
def loadOctets (x : LoadFigures) : List Octet :=
  be 4 x.lStage ++ be 4 x.lCons ++ [oct x.sign.code] ++ be 4 x.magnitude
    ++ [oct x.nMeasured, oct x.nHeld, oct x.nSubst] ++ be 4 x.count.toNat

/-- The pressure figures, the plant limits among them (05, R92). -/
def pressureOctets (x : Pressure) (lim : Limits) (address : Option Nat) : List Octet :=
  be 2 x.setpoint ++ be 2 x.target ++ optional x.critical (fun i => [oct i]) ++ be 2 x.criticalNeed
    ++ optional x.limiting (fun i => [oct i]) ++ be 2 x.ceiling
    ++ [oct x.eligible, flag x.conflict, flag x.noCritical, flag x.headerStale] ++ be 4 x.stamp.toNat
    ++ limitsOctets lim address

/-- One port's figures (11, R181; 12.2): each drop count in two octets (log 37). -/
def portOctets (x : LinkPort) : List Octet :=
  be 2 x.gapDrops ++ be 2 x.lengthDrops ++ be 2 x.crcDrops ++ be 2 x.replyDrops ++ be 2 x.overruns
    ++ [oct x.owed, oct x.tx.length]

/-- The content of a READ PLANT reply: its five groups (12.2). -/
def plantOctets (s : State) : List Octet :=
  headerOctets s.header ++ cycleOctets s.fc ++ loadOctets s.load
    ++ pressureOctets s.press s.limits (s.header.map (·.address)) ++ portOctets s.supervisory ++ portOctets s.panel

/-- READ PLANT (01, R19). -/
def serveReadPlant (s : State) : State × Reply := (s, ⟨.done, plantOctets s⟩)

/-- READ_PLANT. -/
def execReadPlant (p : Port) (tag : Octet) (s : State) : Host.Outcome State Fault Refusal :=
  request p tag 27 [] serveReadPlant s

/-! ## RESTART (11, R178) -/

/-- Some unit is in HAND with guard PANEL. -/
def Sequencer.panelHand (q : Sequencer) : Bool :=
  (q.chillers.units ++ q.pumps.units).any fun u =>
    u.any fun v =>
      decide (v.guard = .panel)
        && match v.state with
           | .hand _ => true
           | _ => false

/-- The warm restart, block by block in the order of R178 (01, R21; 06, R111; 07, R133; 08, R144; 09, R158; 02, R43;
10, R169). -/
def warmRestart (p : Port) (s : State) : State :=
  let noted := s.notes [⟨.warmRestart, linkSubject, portNumber p⟩]
  beginCycle (abortPasses (restartSequencer (restartTable noted)).evaluateMode)

/-- The request kind code of RESTART (12.3). -/
def restartKind : Octet := 21

/-- The taking of a RESTART: DONE is handed first, and the restart follows (11, R178). -/
def takeRestart (p : Port) (tag : Octet) (s : State) : State :=
  if p = .supervisory ∧ s.seq.panelHand = true then answer p tag restartKind (refuse s .refusedRank)
  else warmRestart p (answer p tag restartKind (s, ⟨.done, []⟩))

/-- RESTART (11, R178). -/
def execRestart (p : Port) (tag : Octet) (s : State) : Host.Outcome State Fault Refusal :=
  .next (arrive p ⟨tag, restartKind, []⟩ (takeRestart p tag) s)

/-! ## Dispatch (11, R176; 12.3) -/

/-- Refusing a body whose length the kind cannot have. -/
def wrongLength (s : State) : State × Reply := refuse s .refusedLength

/-- A request whose body is empty. -/
def noBody (serve : State → State × Reply) (body : List Octet) (s : State) : State × Reply :=
  match body with
  | [] => serve s
  | _ => wrongLength s

/-- A request whose body is one octet. -/
def oneOctet (serve : Octet → State → State × Reply) (body : List Octet) (s : State) : State × Reply :=
  match body with
  | [a] => serve a s
  | _ => wrongLength s

/-- A request whose body is two octets. -/
def twoOctets (serve : Octet → Octet → State → State × Reply) (body : List Octet) (s : State) : State × Reply :=
  match body with
  | [a, b] => serve a b s
  | _ => wrongLength s

/-- A request whose body is three octets. -/
def threeOctets (serve : Octet → Octet → Octet → State → State × Reply) (body : List Octet) (s : State) :
    State × Reply :=
  match body with
  | [a, b, c] => serve a b c s
  | _ => wrongLength s

/-- A request whose body is four octets. -/
def fourOctets (serve : Octet → Octet → Octet → Octet → State → State × Reply) (body : List Octet) (s : State) :
    State × Reply :=
  match body with
  | [a, b, c, d] => serve a b c d s
  | _ => wrongLength s

/-- BRANCH LOAD's body. -/
def dispatchBranchLoad (p : Port) (body : List Octet) (s : State) : State × Reply :=
  match branchLoadOf body with
  | some b => serveBranchLoad p b s
  | none => wrongLength s

/-- UNIT LOAD's body. -/
def dispatchUnitLoad (p : Port) (body : List Octet) (s : State) : State × Reply :=
  match unitLoadOf body with
  | some b => serveUnitLoad p b s
  | none => wrongLength s

/-- PLANT LIMITS SET's body. -/
def dispatchLimits (body : List Octet) (s : State) : State × Reply :=
  match limitsBodyOf body with
  | some b => servePlantLimitsSet b s
  | none => wrongLength s

/-- SLOT MAP WRITE's body. -/
def dispatchSlotMap (p : Port) (body : List Octet) (s : State) : State × Reply :=
  match body with
  | first :: count :: entries => serveSlotMapWrite p first count entries s
  | _ => wrongLength s

/-- WINDOW SET's body. -/
def dispatchWindows (p : Port) (body : List Octet) (s : State) : State × Reply :=
  match body with
  | count :: windows => serveWindowSet p count windows s
  | _ => wrongLength s

/-- FIELD PASS's body. -/
def dispatchPass (p : Port) (tag : Octet) (body : List Octet) (s : State) : State × Reply :=
  match body with
  | address :: payload => serveFieldPass p tag address payload s
  | _ => wrongLength s

/-- The owner of a kind other than RESTART, or REFUSED_KIND (11, R176). -/
def dispatch (p : Port) (f : RequestFrame) (s : State) : State × Reply :=
  match f.kind.toNat with
  | 1 => dispatchBranchLoad p f.body s
  | 2 => oneOctet (serveBranchRelease p) f.body s
  | 3 => dispatchUnitLoad p f.body s
  | 4 => oneOctet (serveLadderRotate p) f.body s
  | 5 => dispatchSlotMap p f.body s
  | 6 => twoOctets (fun a b => serveCycleSet (half a b)) f.body s
  | 7 => dispatchLimits f.body s
  | 8 => fourOctets (fun a b c d => serveTimerPeriodSet a b (half c d)) f.body s
  | 9 => threeOctets (serveTimerReload p) f.body s
  | 10 => dispatchWindows p f.body s
  | 11 => noBody (serveWindowReload p) f.body s
  | 12 => threeOctets (fun a b c => serveTimeSet (half a b) c) f.body s
  | 13 => threeOctets (serveChannelSet p) f.body s
  | 14 => threeOctets (serveUnitHand p) f.body s
  | 15 => twoOctets (serveUnitAuto p) f.body s
  | 16 => twoOctets (serveUnitClear p) f.body s
  | 17 => oneOctet serveStageHold f.body s
  | 18 => oneOctet serveStageFree f.body s
  | 19 => noBody (serveReleaseStop p) f.body s
  | 20 => noBody (serveGoLive p) f.body s
  | 22 => dispatchPass p f.tag f.body s
  | 23 => noBody serveMeterSnapshot f.body s
  | 24 => oneOctet serveReadBranch f.body s
  | 25 => twoOctets serveReadUnit f.body s
  | 26 => oneOctet serveReadLadder f.body s
  | 27 => noBody serveReadPlant f.body s
  | 28 => noBody serveReadStorage f.body s
  | 29 => noBody serveReadEvents f.body s
  | 30 => oneOctet serveReadCapture f.body s
  | 31 => oneOctet serveReadSnapshot f.body s
  | 32 => twoOctets (serveUnitDisable p) f.body s
  | 33 => twoOctets (serveUnitEnable p) f.body s
  | _ => refuse s .refusedKind

/-- The taking of a good request frame: its dispatch, its owner's work, its immediate reply (11, R173, R176). -/
def takeFrame (p : Port) (f : RequestFrame) (s : State) : State :=
  if f.kind = restartKind ∧ f.body = [] then takeRestart p f.tag s
  else if f.kind = restartKind then answer p f.tag f.kind (wrongLength s)
  else answer p f.tag f.kind (dispatch p f s)

/-! ## Receiving (11, R170 to R172) -/

/-- The port's receiver set. -/
def State.setReceiver (s : State) (p : Port) (r : Receiver) : State := s.setPort p { s.port p with receiver := r }

/-- A complete frame judged: a CRC drop, a reply-flag drop, or a good request frame that arrives (11, R171). -/
def judgeFrame (p : Port) (octets : List Octet) (s : State) : State :=
  if !crcMatches octets then
    s.setPort p { s.port p with crcDrops := bump Config.countMax (s.port p).crcDrops }
  else if (linkFields octets).kind.msb then
    s.setPort p { s.port p with replyDrops := bump Config.countMax (s.port p).replyDrops }
  else arrive p (linkFields octets) (takeFrame p (linkFields octets)) s

/-- The last octet of a frame has arrived: the receiver returns to HUNT and the frame is judged (11, R170). -/
def completeFrame (p : Port) (octets : List Octet) (s : State) : State :=
  judgeFrame p octets (s.setReceiver p .hunt)

/-- The length octet of a frame (11, R170). -/
def receiveLength (p : Port) (o : Octet) (s : State) : State :=
  if o.toNat ≤ maxBody then s.setReceiver p (.receiving [o])
  else
    s.setPort p { s.port p with
      receiver := .discarding, lengthDrops := bump Config.countMax (s.port p).lengthDrops }

/-- One octet arriving at a receiver (11, R170). -/
def receiveOctet (p : Port) (o : Octet) (s : State) : State :=
  match (s.port p).receiver with
  | .hunt => if o = startMark then s.setReceiver p (.receiving []) else s
  | .receiving [] => receiveLength p o s
  | .receiving (k :: kept) =>
    let os := k :: kept ++ [o]
    if linkComplete os then completeFrame p os s else s.setReceiver p (.receiving os)
  | .discarding => s

/-- LINK_OCTET_RECEIVED (11, R170). -/
def execLinkOctetReceived (p : Port) (o : Octet) (s : State) : Host.Outcome State Fault Refusal :=
  .next (unlessReset s (receiveOctet p o))

/-- The receiver may complete this frame next: it is in HUNT, or RECEIVING with a first part of it kept. -/
def Receiver.mayComplete (r : Receiver) (octets : List Octet) : Bool :=
  match r with
  | .hunt => true
  | .receiving kept => kept.isPrefixOf octets && decide (kept.length < octets.length)
  | .discarding => false

/-- A whole frame's octets arriving at a receiver (11, R170, R171; log 3). -/
def receiveFrame (p : Port) (octets : List Octet) (s : State) : State :=
  if linkComplete octets && (s.port p).receiver.mayComplete octets then completeFrame p octets s else s

/-- LINK_FRAME_COMPLETE (11, R171). -/
def execLinkFrameComplete (p : Port) (octets : List Octet) (s : State) : Host.Outcome State Fault Refusal :=
  .next (unlessReset s (receiveFrame p octets))

/-- More than 20 ms without an octet (11, R170). -/
def receiverGap (p : Port) (s : State) : State :=
  match (s.port p).receiver with
  | .hunt => s
  | .receiving _ =>
    s.setPort p { s.port p with receiver := .hunt, gapDrops := bump Config.countMax (s.port p).gapDrops }
  | .discarding => s.setReceiver p .hunt

/-- RECEIVER_GAP (11, R170). -/
def execReceiverGap (p : Port) (s : State) : Host.Outcome State Fault Refusal := .next (unlessReset s (receiverGap p))

/-- HELD_FRAME_TAKEN (11, R172), when a frame is held and the port's last immediate reply has gone. Until this row the
frame stays held, its reply gone or not (log 36). -/
def takeHeld (p : Port) (s : State) : State :=
  match (s.port p).heldFrame with
  | none => s
  | some f => if (s.port p).busy then s else takeFrame p f (s.setPort p { s.port p with heldFrame := none })

/-- HELD_FRAME_TAKEN. -/
def execHeldFrameTaken (p : Port) (s : State) : Host.Outcome State Fault Refusal := .next (unlessReset s (takeHeld p))

/-- TRANSMIT_FRAME_SENT (11, R174): the oldest frame has gone, while RST is asserted too (11, R179). Where R172 takes the
held frame with the reply's last octet, the row HELD_FRAME_TAKEN does (log 36). -/
def execTransmitFrameSent (p : Port) (s : State) : Host.Outcome State Fault Refusal :=
  .next (s.setPort p { s.port p with tx := (s.port p).tx.drop 1 })

/-! ## RST (11, R179; 02, R42; 10, R169) -/

/-- RST asserted: every block at its cold-reset values; the transmit queues go on, and the pins are outside (log 21). -/
def coldReset (s : State) : State :=
  { State.reset with
    pending := s.pending,
    inputs := { Inputs.reset with pins := s.inputs.pins },
    supervisory := { LinkPort.reset with tx := s.supervisory.tx },
    panel := { LinkPort.reset with tx := s.panel.tx } }

/-- COLD_RESET (11, R179). -/
def execColdReset (s : State) : Host.Outcome State Fault Refusal := .next (coldReset s)

/-- Each channel's taken level set to its input's level (10, R169). -/
def Inputs.release (x : Inputs) : Inputs :=
  { x with channels := x.channels.zipIdx.map fun c => { c.1 with level := x.pin (c.2 + 1) } }

/-- The release of RST: the ports start afresh, the straps are latched, and the first cycle start follows at once
(11, R179; 02, R42; log 20). -/
def releaseReset (shadow : Bool) (rate : BitVec 2) (s : State) : State :=
  beginCycle
    { s with
      rst := false, inputs := s.inputs.release, supervisory := .reset, panel := .reset,
      fc := { s.fc with shadow := shadow, rate := rate } }

/-- RST_RELEASE (11, R179), when RST is asserted. -/
def execRstRelease (shadow : Bool) (rate : BitVec 2) (s : State) : Host.Outcome State Fault Refusal :=
  .next (if s.rst then releaseReset shadow rate s else s)

end Sys2Proof.Machine
end

