-- ==== Sys2Proof/Machine/Dispatch.lean ====
section
/-! DEFINITION. One arm per command: the meaning each row has. -/

namespace Sys2Proof.Machine

/-- The effect of a command on everything but the queue. -/
def exec (i : Instr) (s : State) : Host.Outcome State Fault Refusal :=
  match i with
  | .branchLoad p tag b => Sys2Proof.Machine.execBranchLoad p tag b s
  | .branchRelease p tag index => Sys2Proof.Machine.execBranchRelease p tag index s
  | .readBranch p tag index => Sys2Proof.Machine.execReadBranch p tag index s
  | .slotMapWrite p tag first count entries => Sys2Proof.Machine.execSlotMapWrite p tag first count entries s
  | .cycleSet p tag period => Sys2Proof.Machine.execCycleSet p tag period s
  | .fieldPass p tag address payload => Sys2Proof.Machine.execFieldPass p tag address payload s
  | .goLive p tag => Sys2Proof.Machine.execGoLive p tag s
  | .meterSnapshot p tag => Sys2Proof.Machine.execMeterSnapshot p tag s
  | .readSnapshot p tag index => Sys2Proof.Machine.execReadSnapshot p tag index s
  | .plantLimitsSet p tag b => Sys2Proof.Machine.execPlantLimitsSet p tag b s
  | .readPlant p tag => Sys2Proof.Machine.execReadPlant p tag s
  | .unitLoad p tag b => Sys2Proof.Machine.execUnitLoad p tag b s
  | .ladderRotate p tag ladder => Sys2Proof.Machine.execLadderRotate p tag ladder s
  | .stageHold p tag selection => Sys2Proof.Machine.execStageHold p tag selection s
  | .stageFree p tag selection => Sys2Proof.Machine.execStageFree p tag selection s
  | .readUnit p tag ladder position => Sys2Proof.Machine.execReadUnit p tag ladder position s
  | .readLadder p tag ladder => Sys2Proof.Machine.execReadLadder p tag ladder s
  | .unitHand p tag ladder position demand => Sys2Proof.Machine.execUnitHand p tag ladder position demand s
  | .unitAuto p tag ladder position => Sys2Proof.Machine.execUnitAuto p tag ladder position s
  | .unitClear p tag ladder position => Sys2Proof.Machine.execUnitClear p tag ladder position s
  | .unitDisable p tag ladder position => Sys2Proof.Machine.execUnitDisable p tag ladder position s
  | .unitEnable p tag ladder position => Sys2Proof.Machine.execUnitEnable p tag ladder position s
  | .timerPeriodSet p tag ladder kind period => Sys2Proof.Machine.execTimerPeriodSet p tag ladder kind period s
  | .timerReload p tag ladder position kind => Sys2Proof.Machine.execTimerReload p tag ladder position kind s
  | .timeSet p tag minute second => Sys2Proof.Machine.execTimeSet p tag minute second s
  | .windowSet p tag count windows => Sys2Proof.Machine.execWindowSet p tag count windows s
  | .windowReload p tag => Sys2Proof.Machine.execWindowReload p tag s
  | .readStorage p tag => Sys2Proof.Machine.execReadStorage p tag s
  | .channelSet p tag channel edge action => Sys2Proof.Machine.execChannelSet p tag channel edge action s
  | .readCapture p tag channel => Sys2Proof.Machine.execReadCapture p tag channel s
  | .releaseStop p tag => Sys2Proof.Machine.execReleaseStop p tag s
  | .readEvents p tag => Sys2Proof.Machine.execReadEvents p tag s
  | .restart p tag => Sys2Proof.Machine.execRestart p tag s
  | .linkFrameComplete p octets => Sys2Proof.Machine.execLinkFrameComplete p octets s
  | .heldFrameTaken p => Sys2Proof.Machine.execHeldFrameTaken p s
  | .receiverGap p => Sys2Proof.Machine.execReceiverGap p s
  | .transmitFrameSent p => Sys2Proof.Machine.execTransmitFrameSent p s
  | .cycleStart => Sys2Proof.Machine.execCycleStart s
  | .mappedSlot => Sys2Proof.Machine.execMappedSlot s
  | .fieldReplyReceived octets => Sys2Proof.Machine.execFieldReplyReceived octets s
  | .replyWindowClose => Sys2Proof.Machine.execReplyWindowClose s
  | .openSlot => Sys2Proof.Machine.execOpenSlot s
  | .cycleEnd => Sys2Proof.Machine.execCycleEnd s
  | .secondMark => Sys2Proof.Machine.execSecondMark s
  | .proveExpiry l position => Sys2Proof.Machine.execProveExpiry l position s
  | .stopExpiry l position => Sys2Proof.Machine.execStopExpiry l position s
  | .runExpiry l position => Sys2Proof.Machine.execRunExpiry l position s
  | .restExpiry l position => Sys2Proof.Machine.execRestExpiry l position s
  | .upExpiry l => Sys2Proof.Machine.execUpExpiry l s
  | .downExpiry l => Sys2Proof.Machine.execDownExpiry l s
  | .windowBoundary => Sys2Proof.Machine.execWindowBoundary s
  | .inputEdge input high => Sys2Proof.Machine.execInputEdge input high s
  | .coldReset => Sys2Proof.Machine.execColdReset s
  | .rstRelease shadow rate => Sys2Proof.Machine.execRstRelease shadow rate s
  | .linkOctetReceived p octet => Sys2Proof.Machine.execLinkOctetReceived p octet s

end Sys2Proof.Machine
end

