-- ==== Sys2Proof/Safety.lean ====
section
/-! DEFINITION. The terms statements are made in: when a port takes a request, what a reply is, and the laws the manual
gives of the whole part, each a predicate of the state. -/

namespace Sys2Proof.Machine

/-! ## Taking and answering -/

/-- Port p takes a good request frame as it arrives: RST is released, nothing is held, and the port's last immediate
reply has gone (11, R172, R179). -/
def State.Ready (s : State) (p : Port) : Prop :=
  s.rst = false ∧ (s.port p).heldFrame = none ∧ (s.port p).busy = false

/-- Commands run one after another, each on the state the one before it left; a stop ends the run. -/
def runAll : List Instr → State → Host.Outcome State Fault Refusal
  | [], s => .next s
  | c :: rest, s =>
    match exec c s with
    | .next t => runAll rest t
    | .fault r => .fault r
    | .refused r => .refused r

/-- The immediate reply to a request of a kind: its tag, the kind with the reply flag, the status and the content
(11, R173). -/
def replyFrame (tag kind : Octet) (st : Status) (content : List Octet) : TxFrame :=
  ⟨tag, replyKind kind, BitVec.ofNat 8 st.code :: content, true⟩

/-- The deferred reply of a pass (11, R175). -/
def passReply (e : PassEntry) (st : Status) (content : List Octet) : TxFrame :=
  ⟨e.tag, replyKind fieldPassKind, BitVec.ofNat 8 st.code :: content, false⟩

/-! ## Slot entries and windows as a request spells them (12.2) -/

/-- A binding that names a record the part can hold (02, R24, check 4). -/
def Binding.Valid : Binding → Prop
  | .unbound => True
  | .branch i => i ≤ 47
  | .unit l p => 1 ≤ p ∧ p ≤ ladderSize l
  | .header => True

/-- A slot entry's three octets. -/
def SlotEntry.octets (e : SlotEntry) : List Octet :=
  let d := if e.command then 1 else 0
  match e.binding with
  | .unbound => [oct d, 0, 0]
  | .branch i => [oct (2 + d), oct i, 0]
  | .unit l p => [oct (4 + d), (match l with | .chiller => 1 | .pump => 2), oct p]
  | .header => [oct (6 + d), 0, 0]

/-- A window a request can carry (09, R148, check 4). -/
def TariffWindow.Valid (w : TariffWindow) : Prop := w.start ≤ 1439 ∧ w.rate ≤ 65535

/-- A window's five octets. -/
def TariffWindow.octets (w : TariffWindow) : List Octet := be 2 w.start ++ [oct w.mode.code] ++ be 2 w.rate

/-! ## The event list (10, R166) -/

/-- At most 64 records, in non-decreasing order of cycle count, none later than the count in progress; the discarded
count within its range. -/
structure EventsInOrder (s : State) : Prop where
  few     : s.events.records.length ≤ Config.eventCapacity
  counted : s.events.discardedCount ≤ Config.countMax
  ordered : (s.events.records.map fun r => r.count.toNat).Pairwise (· ≤ ·)
  past    : ∀ r ∈ s.events.records, r.count.toNat ≤ s.fc.count.toNat

/-! ## The plant limits and the header DP setpoint (05, R78, section 5.9) -/

/-- Every limit in its range, DP_min not above DP_max, and the three limits that look at another one in order with it. -/
structure Limits.Lawful (x : Limits) : Prop where
  pressures : x.dpMin ≤ x.dpMax ∧ x.dpMax ≤ 10000
  fallback  : x.dpMin ≤ x.dpFallback ∧ x.dpFallback ≤ x.dpMax
  margins   : x.dpMargin ≤ 2000 ∧ 1 ≤ x.dpRamp ∧ x.dpRamp ≤ 1000 ∧ x.trim ≤ 1000
  threshold : 500 ≤ x.trimThreshold ∧ x.trimThreshold ≤ 1000
  supply    : 300 ≤ x.supplySet ∧ x.supplySet ≤ 1500 ∧ 10 ≤ x.supplyBand ∧ x.supplyBand ≤ 500
  percents  : 50 ≤ x.upPct ∧ x.upPct ≤ 100 ∧ 30 ≤ x.downPct ∧ x.downPct ≤ 95
  speeds    : 500 ≤ x.pumpUp ∧ x.pumpUp ≤ 1000 ∧ 100 ≤ x.pumpDown ∧ x.pumpDown ≤ 900 ∧ x.pumpDown < x.pumpUp
  patience  : 1 ≤ x.kStale ∧ x.kStale ≤ 50 ∧ 2 ≤ x.kLost ∧ x.kLost ≤ 51 ∧ x.kStale < x.kLost

/-- The setpoint lies within the limits in force. -/
def SetpointWithin (s : State) : Prop :=
  s.limits.dpMin ≤ s.press.setpoint ∧ s.press.setpoint ≤ s.limits.dpMax

/-! ## Passes (02, R35 to R37; 11, R175) -/

/-- The passes of port p that are queued or in flight. -/
def State.passesOf (s : State) (p : Port) : Nat :=
  (s.fc.inFlight.toList ++ s.fc.queue).countP fun e => decide (e.port = p)

/-- The owed counts are the passes queued or in flight, at most four wait, and a pass in flight has its window open. -/
structure PassesOwed (s : State) : Prop where
  owed   : ∀ p, (s.port p).owed = s.passesOf p
  few    : s.fc.queue.length ≤ Config.passCapacity
  flight : s.fc.inFlight ≠ none → ∃ w, s.fc.window = some w ∧ w.target = .pass
  gap    : s.fc.position = Config.gapPosition → s.fc.window = none
  map    : s.fc.written.length = Config.slotCount
  list   : ∀ p ∈ s.fc.serviceList, p < Config.slotCount
  reset  : s.rst = true → s.fc.inFlight = none ∧ s.fc.queue = []

/-- A port's transmit queue holds at most one immediate reply (11, R174). -/
def LinkPort.OneReply (x : LinkPort) : Prop := x.tx.countP (·.immediate) ≤ 1

/-! ## Storage (09, R154, R155) -/

/-- How many STORAGE records are loaded. -/
def storageCount (bs : List (Option Branch)) : Nat := bs.countP fun b => b.any (·.isStorage)

/-- At most one STORAGE record; SOC within its capacity; the flags as R155 gives them; no mode but HOLD without a record;
no CHARGE of a full tank and no DISCHARGE of an empty one. -/
structure StorageLaw (s : State) : Prop where
  single    : storageCount s.branches ≤ 1
  bound     : ∀ d, storagePart s.storage = some d → 1 ≤ d.capacity ∧ s.store.soc ≤ d.full
  full      : s.store.full = isFull s.storage s.store.soc
  empty     : s.store.empty = isEmpty s.storage s.store.soc
  absent    : s.storage = none → s.store.soc = 0 ∧ s.store.mode = .hold
  charge    : s.store.mode = .charge → s.store.full = false
  discharge : s.store.mode = .discharge → s.store.empty = false

/-! ## An evaluation of the storage mode (09, R151 to R153) -/

/-- The window of a schedule that is current at a minute (R151): the latest that has started or, before the first start of
the day, the last of the schedule. -/
def TariffWindow.CurrentAt (w : TariffWindow) (now : Nat) (ws : List TariffWindow) : Prop :=
  w ∈ ws ∧
  ((w.start ≤ now ∧ ∀ v ∈ ws, v.start ≤ now → v.start ≤ w.start) ∨
    ((∀ v ∈ ws, now < v.start) ∧ ∀ v ∈ ws, v.start ≤ w.start))

/-- `t` is what an evaluation makes of `s`, with the scheduler as the event that brought it leaves it, `q`: R151's current
window, R152's table with its event and its stamp, R153's write. -/
structure ModeEvaluated (q : Scheduler) (s t : State) : Prop where
  frame   : t = { s with branches := t.branches, store := t.store, events := t.events }
  kept    : t.store = { q with
    mode := t.store.mode, rate := t.store.rate, window := t.store.window, lastChange := t.store.lastChange }
  same    : t.store.mode = q.mode → t.events = s.events ∧ t.store.lastChange = q.lastChange
  changed : t.store.mode ≠ q.mode → t.store.lastChange = s.fc.count ∧
    t.events = (s.notes [⟨.storageMode, (s.storage.map Prod.fst).getD 49, t.store.mode.code⟩]).events
  held    : q.clock = none ∨ q.active = [] ∨ (∀ i b, s.storage = some (i, b) → b.available = false) →
    t.store.mode = .hold ∧ t.store.rate = 0
  unset   : q.clock = none ∨ q.active = [] → t.store.window = none
  current : (q.active.map (·.start)).Pairwise (· < ·) → ∀ (c : Clock) (w : TariffWindow), q.clock = some c →
    w.CurrentAt c.minute q.active →
    t.store.window = some w.start ∧
    ∀ i b d, s.storage = some (i, b) → b.storageDesc = some d → b.available = true →
      (t.store.mode, t.store.rate) = match w.mode with
        | .charge => if q.full then (.hold, 0) else (.charge, min w.rate d.chargeLimit)
        | .discharge => if q.empty then (.hold, 0) else (.discharge, min w.rate d.dischargeLimit)
        | .hold => (.hold, 0)
  absent  : s.storage = none → t.branches = s.branches
  written : ∀ i b d n c, s.storage = some (i, b) → b.part = .storage d n c →
    t.branches = s.branches.set i (some { b with
      part := .storage d (if b.station.freshness = .awaiting then n else some ⟨t.store.mode, t.store.rate⟩) c })

/-! ## What commands find -/

/-- The setpoint written with a demand: the supply setpoint to a chiller, the header DP setpoint to a pump (07, R112). -/
def State.setpointFor (s : State) : LadderId → Nat
  | .chiller => s.limits.supplySet
  | .pump => s.press.setpoint

/-- The open slot of the cycle in progress has been served: cycle end is due (02, R38). -/
def State.CycleEndDue (s : State) : Prop :=
  s.rst = false ∧ s.fc.position ≠ Config.gapPosition ∧ s.fc.window = none ∧ s.fc.openBegun = true

/-! ## The interlock of chillers and pumps (07, R126, R130) -/

/-- Some chiller is in STARTING, RUNNING, or HAND with demand RUN. -/
def Ladder.needsFlow (L : Ladder) : Bool := L.units.any fun u => u.any (·.needsFlow)

/-- Every unit of the ladder stands in OFF or RUNNING, as it does in shadow mode (07, R130). -/
def Ladder.tracked (L : Ladder) : Bool :=
  L.units.all fun u => u.all fun v => decide (v.state = .off) || decide (v.state = .running)

/-- No chiller is left circulating without a pump while the part is live; in shadow mode, where the law does not hold,
units stand in OFF or RUNNING; while RST is asserted both ladders are empty (06, R110). -/
structure FlowKept (s : State) : Prop where
  live    : s.fc.shadow = false → s.seq.chillers.needsFlow = true → s.seq.pumps.serves = true
  tracked : s.fc.shadow = true → s.seq.chillers.tracked = true ∧ s.seq.pumps.tracked = true
  reset   : s.rst = true → ∀ l u, u ∈ (s.seq.ladder l).units → u = none

/-! ## Stops and the flow-loss stop (07, R115, R128) -/

/-- A unit taken to STOPPING: demand STOP with the setpoint, PROVE and RUN cancelled, STOP started (07, R112, R115). -/
def PlantUnit.stopped (x : Periods) (setpoint : Nat) (u : PlantUnit) : PlantUnit :=
  { u with
    state := .stopping, next := some ⟨.stop, setpoint⟩, prove := .idle, run := .idle,
    stop := .counting x.stop x.stop 1 }

/-- The record is one of those appended to the event list from `s` to `t`. -/
def State.Appends (s t : State) (r : EventRecord) : Prop :=
  ∃ rs : List EventRecord, t.events = rs.foldl EventList.append s.events ∧ r ∈ rs

/-- How many chillers stand in STARTING, RUNNING or HAND: the detail of FLOW_LOSS_STOP. -/
def State.stoppableChillers (s : State) : Nat := s.seq.chillers.units.countP fun u => u.any (·.stoppable)

/-- The flow-loss stop: every chiller in STARTING, RUNNING or HAND is taken to STOPPING and off the stack, the others
stand, and FLOW_LOSS_STOP is appended with the number of those stopped (07, R128). -/
structure FlowLossStop (s t : State) : Prop where
  units : ∀ n, t.unit? .chiller n = (s.unit? .chiller n).map fun u =>
    if u.stoppable then u.stopped s.seq.chillers.periods s.limits.supplySet else u
  stack : t.seq.chillers.stack = s.seq.chillers.stack.filter fun n => !(s.unit? .chiller n).any (·.stoppable)
  noted : s.Appends t ⟨s.fc.count, s.fc.position, ⟨.flowLossStop, 200, s.stoppableChillers⟩⟩

/-- What the chillers see of the pump at `n`, `u` before, leaving its state: the flow-loss stop when it was in RUNNING or
HAND-run and no other pump is, nothing otherwise (07, R128). -/
def State.PumpLeaves (n : Nat) (u : PlantUnit) (s t : State) : Prop :=
  let last := u.inService = true ∧ ∀ m v, m ≠ n → s.unit? .pump m = some v → v.inService = false
  (last → FlowLossStop s t) ∧ (¬ last → t.seq.chillers = s.seq.chillers)

/-- What the chillers see of a pump entering service: a waiting chiller start waits no more, and with none waiting the
chiller ladder stands (07, R126). -/
def State.PumpEnters (s t : State) : Prop :=
  t.seq.waiting = false ∧ (s.seq.waiting = false → t.seq.chillers = s.seq.chillers)

/-! ## The start stacks (06, R105) -/

/-- A unit that stands on its ladder's stack: in STARTING or RUNNING. -/
def PlantUnit.stacked (u : PlantUnit) : Bool := decide (u.state = .starting) || decide (u.state = .running)

/-- A ladder's stack holds exactly its units in STARTING or RUNNING, each once; at most one unit is in STARTING (R125,
test 2). -/
structure Ladder.StackExact (L : Ladder) : Prop where
  once  : L.stack.Nodup
  exact : ∀ p, p ∈ L.stack ↔ (L.unitAt p).any (·.stacked) = true
  alone : (L.units.countP fun u => u.any fun v => decide (v.state = .starting)) ≤ 1

/-! ## The judgement of a unit at readings-closed (07, R113) -/

/-- What a judgement makes of a unit: its state, the demand written if one is, its four timers. -/
structure Moves where
  state  : UnitState
  demand : Option Demand
  prove  : Timer
  stop   : Timer
  run    : Timer
  rest   : Timer
  deriving DecidableEq, Repr

/-- A unit that is moved nowhere. -/
def PlantUnit.unmoved (u : PlantUnit) : Moves := ⟨u.state, none, u.prove, u.stop, u.run, u.rest⟩

/-- A trip: demand STOP, PROVE, STOP and RUN cancelled, REST left to run (07, R116). -/
def PlantUnit.tripped (u : PlantUnit) (c : TripCause) : Moves := ⟨.tripped c false, some .stop, .idle, .idle, .idle, u.rest⟩

/-- R113's table over what the cycle brought, row by row, with R114's late proof, R117, R118 and, for a HAND unit, R119
(logs 17 and 30). `x` are the ladder's settings. -/
def PlantUnit.judged (x : Periods) (latch : Bool) (u : PlantUnit) : Moves :=
  let resting : Moves := ⟨.resting, some .stop, u.prove, .idle, u.run, .counting x.rest x.rest 1⟩
  match u.station.cycle, u.state with
  | none, .starting => if u.station.faultMark then u.tripped .stationFault else u.unmoved
  | none, .running => if u.station.faultMark then u.tripped .stationFault else u.unmoved
  | none, .hand .run => if u.station.faultMark then u.tripped .stationFault else u.unmoved
  | some ⟨true, v⟩, .hand .run => if v.proof then { u.unmoved with prove := .idle } else u.unmoved
  | some ⟨true, _⟩, st =>
    match st with
    | .off => ⟨.localCtl, none, .idle, .idle, .idle, .idle⟩
    | .resting => ⟨.localCtl, none, .idle, .idle, .idle, .idle⟩
    | .starting => ⟨.localCtl, none, .idle, .idle, .idle, .idle⟩
    | .running => ⟨.localCtl, none, .idle, .idle, .idle, .idle⟩
    | .stopping => ⟨.localCtl, none, .idle, .idle, .idle, .idle⟩
    | _ => u.unmoved
  | some ⟨false, v⟩, .starting =>
    if v.proof then ⟨.running, none, .idle, u.stop, .counting x.run x.run 1, u.rest⟩ else u.unmoved
  | some ⟨false, v⟩, .running => if v.proof then u.unmoved else u.tripped .lostProof
  | some ⟨false, v⟩, .stopping => if v.proof then u.unmoved else resting
  | some ⟨false, v⟩, .localCtl =>
    if !v.proof then resting
    else if latch then ⟨.stopping, some .stop, .idle, .counting x.stop x.stop 1, .idle, u.rest⟩
    else ⟨.running, some .run, .idle, u.stop, .counting x.run x.run 1, u.rest⟩
  | some ⟨false, v⟩, .tripped .noProof false =>
    if v.proof then { u.unmoved with state := .tripped .noProof true } else u.unmoved
  | some ⟨false, v⟩, .hand .run =>
    if v.proof then { u.unmoved with prove := .idle }
    else if u.prove = .idle then u.tripped .lostProof else u.unmoved
  | _, _ => u.unmoved

/-- A unit stands as a judgement leaves it. -/
def PlantUnit.Shows (m : Moves) (v : PlantUnit) : Prop :=
  v.state = m.state ∧ v.prove = m.prove ∧ v.stop = m.stop ∧ v.run = m.run ∧ v.rest = m.rest

/-- Some RUNNING pump is not moved by the readings: passed over, not heard, or heard OK with proof. -/
def State.PumpStays (s : State) : Prop :=
  ∃ n v, s.unit? .pump n = some v ∧ v.state = .running ∧
    (v.station.joined = true ∨ (v.station.cycle = none ∧ v.station.faultMark = false) ∨
      ∃ x, v.station.cycle = some ⟨false, x⟩ ∧ x.proof = true)

/-! ## Readings-closed (01, R14, R15) -/

/-- What the closing rule and the freshness table make of a station that had not joined during the cycle: the three cases
of R14, and R15's table row by row. -/
structure Station.ClosedBy {α : Type} (kStale kLost : Nat) (t u : Station α) : Prop where
  cleared : u.cycle = none ∧ u.faultMark = false ∧ u.joined = false
  fresh   : ∀ r, t.cycle = some r →
    u.closed = some ⟨if r.isLocal then .localCtl else .ok, some r.values⟩ ∧
    u.freshness = (if r.isLocal then .localCtl else .online) ∧ u.miss = 0 ∧ u.faultRun = false
  fault   : t.cycle = none → t.faultMark = true → u.closed = some ⟨.fault, t.values⟩ ∧ u.faultRun = true
  silent  : t.cycle = none → t.faultMark = false → u.closed = t.closed ∧ u.faultRun = t.faultRun
  leaves  : t.cycle = none → t.freshness = .online ∨ t.freshness = .localCtl → u.freshness = .held ∧ u.miss = 1
  counts  : t.cycle = none → t.freshness ≠ .online → t.freshness ≠ .localCtl → u.miss = min 255 (t.miss + 1)
  awaiting : t.cycle = none → t.freshness = .awaiting → u.freshness = if kLost ≤ u.miss then .lost else .awaiting
  held    : t.cycle = none → t.freshness = .held → u.freshness = if kStale ≤ u.miss then .stale else .held
  stale   : t.cycle = none → t.freshness = .stale → u.freshness = if kLost ≤ u.miss then .lost else .stale
  lost    : t.cycle = none → t.freshness = .lost → u.freshness = .lost

/-- What readings-closed leaves of a station: closed by the rule, or, when it had joined during the cycle, passed over
with its cycle reading and fault mark dropped. -/
def Station.After {α : Type} (kStale kLost : Nat) (t u : Station α) : Prop :=
  (t.joined = false → t.ClosedBy kStale kLost u) ∧
  (t.joined = true → u = { t with cycle := none, faultMark := false })

/-! ## Station addresses (01, R6) -/

/-- The station addresses of the loaded units of a ladder. -/
def Ladder.stations (L : Ladder) : List Nat := L.units.filterMap fun u => u.map (·.address)

/-- The station addresses of every loaded record: the branches, the header, the units. -/
def State.stations (s : State) : List Nat :=
  (s.branches.filterMap fun b => b.map (·.desc.address)) ++ s.header.toList.map (·.address)
    ++ s.seq.chillers.stations ++ s.seq.pumps.stations

/-- No two loaded records carry one station address. -/
def AddressesDistinct (s : State) : Prop := s.stations.Nodup

/-! ## Timers (08, R134) -/

/-- A timer's remaining seconds and latched period are in their ranges. -/
def Timer.InRange : Timer → Prop
  | .idle => True
  | .counting r l p => r ≤ l ∧ 1 ≤ l ∧ l ≤ 65535 ∧ (p = 1 ∨ p = 2)

/-- A ladder's settings are 1 to 65535. -/
def Periods.InRange (x : Periods) : Prop := ∀ k, 1 ≤ x.get k ∧ x.get k ≤ 65535

/-- Every timer and every setting of a ladder is in its range. -/
structure Ladder.TimersInRange (L : Ladder) : Prop where
  settings : L.periods.InRange
  ladder   : L.up.InRange ∧ L.down.InRange
  units    : ∀ u, some u ∈ L.units → u.prove.InRange ∧ u.stop.InRange ∧ u.run.InRange ∧ u.rest.InRange

/-- Every timer of the part is in its range. -/
def TimersInRange (s : State) : Prop := s.seq.chillers.TimersInRange ∧ s.seq.pumps.TimersInRange

end Sys2Proof.Machine
end

