-- ==== Sys2Proof/WellFormed.lean ====
section
/-! DEFINITION. Which commands are well formed: an expiry names a position its ladder has (06, R95), an edge names one of
IN1 to IN8 (10, R159), a request's body fits a frame (12, R182), a completed link frame has the octets its length octet
gives (12, R182), and a frame that arrives on the field line has octets. -/

namespace Sys2Proof

/-- A position of a ladder (06, R95). -/
def wfPosition (l : LadderId) (p : Nat) : Bool := decide (1 ≤ p) && decide (p ≤ Machine.ladderSize l)

/-- A body of this many octets fits a link frame (12, R182). -/
def wfBody (n : Nat) : Bool := decide (n ≤ Machine.maxBody)

/-- A command is well formed. -/
def Instr.wf : Instr → Bool
  | .branchLoad _ _ b => wfBody (22 + b.rest.length)
  | .branchRelease _ _ _ => true
  | .readBranch _ _ _ => true
  | .slotMapWrite _ _ _ _ entries => wfBody (2 + entries.length)
  | .cycleSet _ _ _ => true
  | .fieldPass _ _ _ payload => wfBody (1 + payload.length)
  | .goLive _ _ => true
  | .meterSnapshot _ _ => true
  | .readSnapshot _ _ _ => true
  | .plantLimitsSet _ _ _ => true
  | .readPlant _ _ => true
  | .unitLoad _ _ b => wfBody (5 + b.rest.length)
  | .ladderRotate _ _ _ => true
  | .stageHold _ _ _ => true
  | .stageFree _ _ _ => true
  | .readUnit _ _ _ _ => true
  | .readLadder _ _ _ => true
  | .unitHand _ _ _ _ _ => true
  | .unitAuto _ _ _ _ => true
  | .unitClear _ _ _ _ => true
  | .unitDisable _ _ _ _ => true
  | .unitEnable _ _ _ _ => true
  | .timerPeriodSet _ _ _ _ _ => true
  | .timerReload _ _ _ _ _ => true
  | .timeSet _ _ _ _ => true
  | .windowSet _ _ _ windows => wfBody (1 + windows.length)
  | .windowReload _ _ => true
  | .readStorage _ _ => true
  | .channelSet _ _ _ _ _ => true
  | .readCapture _ _ _ => true
  | .releaseStop _ _ => true
  | .readEvents _ _ => true
  | .restart _ _ => true
  | .linkFrameComplete _ octets => Machine.linkComplete octets
  | .heldFrameTaken _ => true
  | .receiverGap _ => true
  | .transmitFrameSent _ => true
  | .cycleStart => true
  | .mappedSlot => true
  | .fieldReplyReceived octets => !octets.isEmpty
  | .replyWindowClose => true
  | .openSlot => true
  | .cycleEnd => true
  | .secondMark => true
  | .proveExpiry l p => wfPosition l p
  | .stopExpiry l p => wfPosition l p
  | .runExpiry l p => wfPosition l p
  | .restExpiry l p => wfPosition l p
  | .upExpiry _ => true
  | .downExpiry _ => true
  | .windowBoundary => true
  | .inputEdge n _ => decide (1 ≤ n) && decide (n ≤ 8)
  | .coldReset => true
  | .rstRelease _ _ => true
  | .linkOctetReceived _ _ => true

end Sys2Proof
end

