-- ==== Sys2Proof/Certificates/Slice0/Obligations.lean ====
section
/-! DEFINITION. The statements about the model, from the numbered rules of spec/. `hand` puts a reply at the tail of a
port's transmit queue; an equation `exec c s = .next (t.hand p (replyFrame tag kind st content))` says that the request
completes, what it changes and what it answers, and that it changes nothing else. A clause that rests on a choice of the
model names its log entry. -/

open Sys2Proof Sys2Proof.Machine

/-! ## The part as a whole -/

/-- A step takes the command at the front of the queue and runs it on the state with the rest; with nothing waiting
the part idles (the model's choice, log 4). -/
def Obligations.StepRunsFrontCommand : Prop :=
  (∀ (c : Instr) (rest : List Instr) (s : State),
    step { s with pending := c :: rest } = exec c { s with pending := rest }) ∧
  ∀ s : State, s.pending = [] → step s = .next s

/-- No command changes the queue of commands that wait: after a step the queue is the rest of it. -/
def Obligations.CommandsLeaveTheQueue : Prop :=
  (∀ (c : Instr) (s t : State), exec c s = .next t → t.pending = s.pending) ∧
  ∀ s t : State, step s = .next t → t.pending = s.pending.drop 1

/-- Every well-formed command completes in every state, no command is refused, and the four unit expiries stop on a
position their ladder lacks, INPUT_EDGE on an input the part lacks (log 23). -/
def Obligations.OnlyImpossibleCommandsStop : Prop :=
  (∀ (c : Instr) (s : State), c.wf = true → ∃ t : State, exec c s = .next t) ∧
  (∀ (c : Instr) (s : State) (r : Refusal), exec c s ≠ .refused r) ∧
  (∀ (l : LadderId) (n : Nat) (s : State), n = 0 ∨ ladderSize l < n →
    exec (.proveExpiry l n) s = .fault .noSuchPosition ∧ exec (.stopExpiry l n) s = .fault .noSuchPosition ∧
    exec (.runExpiry l n) s = .fault .noSuchPosition ∧ exec (.restExpiry l n) s = .fault .noSuchPosition) ∧
  ∀ (n : Nat) (high : Bool) (s : State), n = 0 ∨ 8 < n → exec (.inputEdge n high) s = .fault .noSuchInput

/-! ## RST (11, R179 and the resets of each chapter) -/

/-- COLD_RESET completes in every state: RST is asserted, and every block stands at the values its chapter gives for a
cold reset; the transmit queues keep their frames and the pins their levels (the pins are the model's choice, log 21).
-/
def Obligations.ColdResetValues : Prop :=
  ∀ s : State, ∃ t : State, exec .coldReset s = .next t ∧ t.rst = true ∧
    (t.branches = List.replicate 48 none ∧ t.header = none) ∧
    (t.fc.written = List.replicate 64 ⟨.unbound, false⟩ ∧ t.fc.runningMap = List.replicate 64 ⟨.unbound, false⟩ ∧
      t.fc.pCfg = 20 ∧ t.fc.stretched = false ∧ t.fc.count = 0 ∧ t.fc.queue = [] ∧ t.fc.inFlight = none ∧
      t.fc.serviceList = [] ∧
      t.fc.window = none ∧ t.fc.lineOut = [] ∧ t.fc.good = 0 ∧ t.fc.misses = 0 ∧ t.fc.lastGood = 0 ∧
      t.fc.lastMisses = 0 ∧ t.fc.lamp = false) ∧
    (t.load = ⟨0, 0, .zero, 0, 0, 0, 0, 0⟩ ∧ t.snapshot = none) ∧
    t.press = ⟨1500, 0, none, 0, none, 0, 0, false, false, false, 0⟩ ∧
    t.limits = ⟨500, 4000, 1500, 100, 50, 50, 950, 550, 50, 90, 80, 950, 400, 3, 10⟩ ∧
    (∀ l, (t.seq.ladder l).units = List.replicate (ladderSize l) none ∧ (t.seq.ladder l).stack = [] ∧
      (t.seq.ladder l).upPending = false ∧ (t.seq.ladder l).downPending = false ∧
      (t.seq.ladder l).requestHold = false ∧ (t.seq.ladder l).shortCap = false ∧
      (t.seq.ladder l).lastIntent = none ∧ (t.seq.ladder l).up = .idle ∧ (t.seq.ladder l).down = .idle ∧
      (t.seq.ladder l).periods = ⟨120, 180, 900, 600, 300, 600⟩ ∧
      (t.seq.ladder l).figures = ⟨0, 0, 0, 0, false, 0, 0, 0, false, false⟩) ∧
    (t.seq.waiting = false ∧ t.seq.inputHold = false) ∧
    t.store = ⟨none, [], none, .hold, 0, none, 0, false, false, 0, false⟩ ∧
    (t.inputs.pins = s.inputs.pins ∧ t.inputs.stopLatch = false ∧ t.inputs.channels.length = 8 ∧
      ∀ c ∈ t.inputs.channels, c.edge = .off ∧ c.action = .note ∧ c.record = none ∧ c.pending = false) ∧
    t.events = ⟨[], false, 0⟩ ∧
    ∀ p, t.port p = ⟨.hunt, none, (s.port p).tx, 0, 0, 0, 0, 0, 0⟩

/-- RST_RELEASE, while RST is asserted, latches the two straps, starts both ports afresh, sets each channel's taken
level to its input's and starts the first cycle; released already, it changes nothing. That it is void then (log 3),
that a frame still queued is gone at the release (log 20) and that the pins stand (log 21) are the model's choices. -/
def Obligations.RstReleaseStarts : Prop :=
  ∀ (shadow : Bool) (rate : BitVec 2) (s : State),
    (s.rst = true → ∃ t : State, exec (.rstRelease shadow rate) s = .next t ∧
      t.rst = false ∧ t.fc.shadow = shadow ∧ t.fc.rate = rate ∧ t.fc.lineShadow = shadow ∧
      t.fc.count = s.fc.count + 1 ∧ t.fc.position = t.fc.serviceList.headD 64 ∧
      (∀ p, t.port p = ⟨.hunt, none, [], 0, 0, 0, 0, 0, 0⟩) ∧
      (∀ n c, s.inputs.channel n = some c → t.inputs.channel n = some { c with level := s.inputs.pin n }) ∧
      t.inputs.pins = s.inputs.pins ∧ t.inputs.stopLatch = s.inputs.stopLatch ∧
      t.limits = s.limits ∧ t.press = s.press ∧ t.load = s.load ∧ t.snapshot = s.snapshot ∧ t.store = s.store) ∧
    (s.rst = false → exec (.rstRelease shadow rate) s = .next s)

/-- While RST is asserted every well-formed command but COLD_RESET, RST_RELEASE, TRANSMIT_FRAME_SENT and INPUT_EDGE
changes nothing: no request is taken, no octet received, nothing counts and the line is quiet. That a command which
cannot occur then has no effect is the model's choice (log 3). -/
def Obligations.AssertedResetTakesNothing : Prop :=
  ∀ (c : Instr) (s : State), s.rst = true → c.wf = true → c ≠ .coldReset → (∀ a b, c ≠ .rstRelease a b) →
    (∀ p, c ≠ .transmitFrameSent p) → (∀ n h, c ≠ .inputEdge n h) → exec c s = .next s

/-! ## The plant link ports (11) -/

/-- A request row is its frame arriving (the model's choice, log 2). A good request frame that arrives while the
port's last immediate reply is waiting becomes the held frame, and one that arrives while a frame is held is an
overrun. That it is one, too, when the reply has gone and the held frame has not yet been taken by its own row, where
R172 takes that frame at once, is the model's choice (log 36). -/
def Obligations.BusyPortHoldsOneFrame : Prop :=
  ∀ (c : Instr) (p : Port) (f : RequestFrame) (s : State), requestFrame c = some (p, f) → s.rst = false →
    ((s.port p).heldFrame ≠ none →
      exec c s = .next (s.setPort p { s.port p with overruns := min 65535 ((s.port p).overruns + 1) })) ∧
    ((s.port p).heldFrame = none → (∃ r ∈ (s.port p).tx, r.immediate = true) →
      exec c s = .next (s.setPort p { s.port p with heldFrame := some f }))

/-- A request and its link frame are one thing: when the receiver is in HUNT, the frame the layout gives a well-formed
request, arriving whole, does exactly what the request's own row does (the model's reading of a request row, log 2).
-/
def Obligations.FrameIsItsRequest : Prop :=
  ∀ (c : Instr) (p : Port) (f : RequestFrame) (s : State), requestFrame c = some (p, f) → c.wf = true →
    s.rst = false → (s.port p).receiver = .hunt →
    ∃ t : State, exec c s = .next t ∧ exec (.linkFrameComplete p (linkOctets f.tag f.kind f.body)) s = .next t

/-- Octet by octet or whole: a start mark and the octets of a frame with a body of up to 240 octets, received one
after another from HUNT, do exactly what the frame does when it arrives whole. That LINK_FRAME_COMPLETE takes effect
at a receiver in HUNT is the model's choice (log 3). -/
def Obligations.OctetsMakeTheFrame : Prop :=
  ∀ (p : Port) (tag kind : Octet) (body : List Octet) (s : State), body.length ≤ 240 → s.rst = false →
    (s.port p).receiver = .hunt →
    ∃ t : State, exec (.linkFrameComplete p (linkOctets tag kind body)) s = .next t ∧
      runAll ((startMark :: linkOctets tag kind body).map (.linkOctetReceived p)) s = .next t

/-- HELD_FRAME_TAKEN takes the held frame once the immediate reply has gone, exactly as the request's own row would
with nothing held; before that, or with nothing held, it changes nothing, which is the model's choice for an event
that is not due (log 3), as is the row that parts the taking from the reply's last octet (log 36). -/
def Obligations.HeldFrameIsItsRequest : Prop :=
  ∀ (p : Port) (s : State), s.rst = false →
    (∀ c f, requestFrame c = some (p, f) → (s.port p).heldFrame = some f → (s.port p).busy = false →
      ∃ t : State, exec (.heldFrameTaken p) s = .next t ∧
        exec c (s.setPort p { s.port p with heldFrame := none }) = .next t) ∧
    ((s.port p).heldFrame = none ∨ (s.port p).busy = true → exec (.heldFrameTaken p) s = .next s)

/-- A complete frame whose CRC does not match is dropped and counted; one whose kind has the reply flag is dropped and
counted; a good frame of a kind the part does not have is answered REFUSED_KIND, and one of a known kind with a body
of a length that kind cannot have is answered REFUSED_LENGTH (R176); either changes nothing. -/
def Obligations.FramesThatAreNoRequest : Prop :=
  ∀ (p : Port) (s : State), s.rst = false → (s.port p).receiver = .hunt →
    (∀ octets, linkComplete octets = true → crcMatches octets = false →
      exec (.linkFrameComplete p octets) s
        = .next (s.setPort p { s.port p with crcDrops := min 65535 ((s.port p).crcDrops + 1) })) ∧
    (∀ tag kind body, body.length ≤ 240 → 128 ≤ kind.toNat →
      exec (.linkFrameComplete p (linkOctets tag kind body)) s
        = .next (s.setPort p { s.port p with replyDrops := min 65535 ((s.port p).replyDrops + 1) })) ∧
    (∀ tag kind body, s.Ready p → body.length ≤ 240 → kind = 0 ∨ (34 ≤ kind.toNat ∧ kind.toNat < 128) →
      exec (.linkFrameComplete p (linkOctets tag kind body)) s = .next (s.hand p (replyFrame tag kind .refusedKind []))) ∧
    let fixed : Nat → List Nat → List (Nat × Nat × Nat) := fun n ks => ks.map fun k => (k, n, n)
    let lengths : List (Nat × Nat × Nat) := [(1, 22, 28), (3, 5, 7), (5, 5, 194), (10, 1, 41), (22, 1, 33)]
      ++ fixed 0 [11, 19, 20, 21, 23, 27, 28, 29] ++ fixed 1 [2, 4, 17, 18, 24, 26, 30, 31]
      ++ fixed 2 [6, 15, 16, 25, 32, 33] ++ fixed 3 [9, 12, 13, 14] ++ fixed 4 [8] ++ fixed 27 [7]
    ∀ tag kind body shortest longest, s.Ready p → body.length ≤ 240 → (kind.toNat, shortest, longest) ∈ lengths →
      body.length < shortest ∨ longest < body.length →
      exec (.linkFrameComplete p (linkOctets tag kind body)) s = .next (s.hand p (replyFrame tag kind .refusedLength []))

/-- The receiver's table with the gap rule, and the transmit queue, which sends its oldest frame first. A frame that
is held when the immediate reply goes stays held until its own row takes it, where R172 takes it at that moment: the
model's choice (log 36). -/
def Obligations.ReceiverTable : Prop :=
  ∀ (p : Port) (o : Octet) (s : State),
    (s.rst = false →
      ((s.port p).receiver = .hunt → o = 0xA5 →
        exec (.linkOctetReceived p o) s = .next (s.setPort p { s.port p with receiver := .receiving [] })) ∧
      ((s.port p).receiver = .hunt → o ≠ 0xA5 → exec (.linkOctetReceived p o) s = .next s) ∧
      ((s.port p).receiver = .receiving [] → o.toNat ≤ 240 →
        exec (.linkOctetReceived p o) s = .next (s.setPort p { s.port p with receiver := .receiving [o] })) ∧
      ((s.port p).receiver = .receiving [] → 241 ≤ o.toNat →
        exec (.linkOctetReceived p o) s = .next (s.setPort p { s.port p with
          receiver := .discarding, lengthDrops := min 65535 ((s.port p).lengthDrops + 1) })) ∧
      (∀ n kept, (s.port p).receiver = .receiving (n :: kept) → kept.length + 2 < n.toNat + 5 →
        exec (.linkOctetReceived p o) s
          = .next (s.setPort p { s.port p with receiver := .receiving (n :: kept ++ [o]) })) ∧
      ((s.port p).receiver = .discarding → exec (.linkOctetReceived p o) s = .next s) ∧
      (∀ kept, (s.port p).receiver = .receiving kept →
        exec (.receiverGap p) s = .next (s.setPort p { s.port p with
          receiver := .hunt, gapDrops := min 65535 ((s.port p).gapDrops + 1) })) ∧
      ((s.port p).receiver = .discarding →
        exec (.receiverGap p) s = .next (s.setPort p { s.port p with receiver := .hunt })) ∧
      ((s.port p).receiver = .hunt → exec (.receiverGap p) s = .next s)) ∧
    ∀ f rest, (s.port p).tx = f :: rest →
      exec (.transmitFrameSent p) s = .next (s.setPort p { s.port p with tx := rest })

/-- The four requests that only the panel may make are refused on the supervisory port and change nothing: GO_LIVE and
RELEASE_STOP at once, UNIT_HAND and UNIT_AUTO after index and occupancy. -/
def Obligations.PanelRequestsRefused : Prop :=
  ∀ (tag : Octet) (s : State), s.Ready .supervisory →
    exec (.goLive .supervisory tag) s = .next (s.hand .supervisory (replyFrame tag 20 .refusedRank [])) ∧
    exec (.releaseStop .supervisory tag) s = .next (s.hand .supervisory (replyFrame tag 19 .refusedRank [])) ∧
    ∀ l position demand,
      (placeOf l position = none →
        exec (.unitHand .supervisory tag l position demand) s
          = .next (s.hand .supervisory (replyFrame tag 14 .refusedIndex [])) ∧
        exec (.unitAuto .supervisory tag l position) s
          = .next (s.hand .supervisory (replyFrame tag 15 .refusedIndex []))) ∧
      (∀ x, placeOf l position = some x → s.unit? x.1 x.2 = none →
        exec (.unitHand .supervisory tag l position demand) s
          = .next (s.hand .supervisory (replyFrame tag 14 .refusedAbsent [])) ∧
        exec (.unitAuto .supervisory tag l position) s
          = .next (s.hand .supervisory (replyFrame tag 15 .refusedAbsent []))) ∧
      (∀ x u, placeOf l position = some x → s.unit? x.1 x.2 = some u →
        exec (.unitHand .supervisory tag l position demand) s
          = .next (s.hand .supervisory (replyFrame tag 14 .refusedRank [])) ∧
        exec (.unitAuto .supervisory tag l position) s
          = .next (s.hand .supervisory (replyFrame tag 15 .refusedRank [])))

/-- RESTART is refused REFUSED_RANK on the supervisory port while a unit with guard PANEL is in HAND, and changes
nothing. Otherwise WARM_RESTART is noted; DONE is handed first, then ABORTED to the owner of each pass, in flight
first; the queue empties, a reply window closes, and a cycle starts as CYCLE_START starts one: count, maps, service
list, position, line mode, P_eff, stretched flag, tallies. Every branch record, the header and every unit is AWAITING
with its closed reading kept (a header's mark of a load in this cycle, the model's field of log 32, clears), a low-dT
count is 0, and every next block is latched; the mode is HOLD at rate 0; the ports' receivers, held frames and
counters, the limits, the snapshot and the load figures stand. With channels 7 and 8 as last taken, units and stacks
stand but for the timers, started afresh in live mode (where R133 and R144 both speak, log 19), and the pendings, the
waiting flag, SHORT_CAPACITY, UP and DOWN clear. -/
def Obligations.RestartAborts : Prop :=
  (∀ (tag : Octet) (l : LadderId) (u : PlantUnit) (d : Demand) (s : State), s.Ready .supervisory →
    some u ∈ (s.seq.ladder l).units → u.state = .hand d → u.guard = .panel →
    exec (.restart .supervisory tag) s = .next (s.hand .supervisory (replyFrame tag 21 .refusedRank []))) ∧
  ∀ (p : Port) (tag : Octet) (s : State), s.Ready p →
    p = .panel ∨ (∀ l u d, some u ∈ (s.seq.ladder l).units → u.guard = .panel → u.state ≠ .hand d) →
    ∃ t : State, exec (.restart p tag) s = .next t ∧
      (t.port p).tx = (s.port p).tx ++ [replyFrame tag 21 .done []]
        ++ ((s.fc.inFlight.toList ++ s.fc.queue).filter (fun e => e.port = p)).map (passReply · .aborted []) ∧
      (∀ q, q ≠ p → (t.port q).tx = (s.port q).tx
        ++ ((s.fc.inFlight.toList ++ s.fc.queue).filter (fun e => e.port = q)).map (passReply · .aborted [])) ∧
      (∀ q, (t.port q).owed = (s.port q).owed - s.passesOf q ∧
        t.port q = { s.port q with tx := (t.port q).tx, owed := (t.port q).owed }) ∧
      t.fc = { s.fc with
        count := s.fc.count + 1, runningMap := s.fc.written, serviceList := t.fc.serviceList, served := 0,
        openBegun := false, lineShadow := s.fc.shadow, position := t.fc.serviceList.headD 64,
        pEff := max s.fc.pCfg (((t.fc.serviceList.length + 1) * Config.slotTime s.fc.rate + 99) / 100),
        stretched := t.fc.stretched, window := none, lineOut := [], good := 0, misses := 0, queue := [],
        inFlight := none } ∧
      (t.fc.stretched = true ↔ s.fc.pCfg < t.fc.pEff) ∧
      (∀ k, k ∈ t.fc.serviceList ↔ ∃ e, s.fc.written[k]? = some e ∧ s.loaded e.binding = true) ∧
      t.fc.serviceList.Pairwise (· < ·) ∧
      (∀ i, t.branch? i = (s.branch? i).map fun b =>
        { b with
          station := { b.station with
            freshness := .awaiting, miss := 0, faultRun := false, joined := false, cycle := none, faultMark := false },
          part := match b.part with
            | .consumer x n _ => .consumer { x with count := 0 } n n
            | .storage d n _ => .storage d n n }) ∧
      (t.header = s.header.map fun h =>
        { h with
          recent := false,
          station := { h.station with
            freshness := .awaiting, miss := 0, faultRun := false, joined := false, cycle := none,
            faultMark := false } }) ∧
      t.limits = s.limits ∧ t.press = s.press ∧ t.load = s.load ∧ t.snapshot = s.snapshot ∧
      t.store.clock = s.store.clock ∧ t.store.active = s.store.active ∧ t.store.staged = s.store.staged ∧
      t.store.soc = s.store.soc ∧ t.store.mode = .hold ∧ t.store.rate = 0 ∧
      (s.fc.count + 1 ≠ 0 → ∃ rs : List EventRecord, t.events = rs.foldl EventList.append
        (s.notes [⟨.warmRestart, 500, if p = .supervisory then 1 else 2⟩]).events) ∧
      ((∀ n c, n = 7 ∨ n = 8 → s.inputs.channel n = some c → c.level = s.inputs.pin n) →
        t.inputs = s.inputs ∧ t.seq.waiting = false ∧ t.seq.inputHold = s.seq.inputHold ∧
        ∀ l, t.seq.ladder l = { s.seq.ladder l with
            units := (t.seq.ladder l).units, upPending := false, downPending := false, shortCap := false,
            up := .idle, down := .idle } ∧
          ∀ n, t.unit? l n = (s.unit? l n).map fun u =>
            let x := (s.seq.ladder l).periods
            { u with
              station := { u.station with
                freshness := .awaiting, miss := 0, faultRun := false, joined := false, cycle := none,
                faultMark := false },
              commLost := false, current := u.next,
              run := if s.fc.shadow then u.run
                else if u.state = .running then .counting x.run x.run 1 else .idle,
              prove := if s.fc.shadow then u.prove
                else if u.state = .starting ∨ u.prove ≠ .idle then .counting x.prove x.prove 1 else .idle,
              stop := if s.fc.shadow then u.stop
                else if u.state = .stopping then .counting x.stop x.stop 1 else .idle,
              rest := if s.fc.shadow then u.rest
                else if u.state = .resting ∨ u.rest ≠ .idle then .counting x.rest x.rest 1 else .idle })

/-! ## The Branch Table (01) -/

/-- BRANCH_LOAD on an unloaded record, with every check passed: the record is filled with the clamped descriptor,
AWAITING and joined, with a fresh meter part and no command block; BRANCH_STATE is appended; the reply is DONE when no
field was clamped, DONE_CLAMPED otherwise. A CONSUMER has a fresh throttle part. A STORAGE load, with no STORAGE
record in the table, starts the charge at 0: EMPTY is set with STORAGE_EMPTY, and the mode stands. -/
def Obligations.BranchLoadFills : Prop :=
  ∀ (p : Port) (tag : Octet) (b : BranchLoadBody) (g : Guard) (gr : Granularity) (th : Bool) (s : State),
    s.Ready p → b.index.toNat ≤ 47 → s.branch? b.index.toNat = none →
    Guard.ofCode b.guardCode = some g → (p = .supervisory → g = .anyone) →
    Granularity.ofCode b.granularity = some gr → throttleOfCode b.throttle = some th →
    1 ≤ b.address.toNat → b.address.toNat ≤ 240 → b.address.toNat ∉ s.stations →
    let carried : BranchDesc := branchDescOf b g gr th
    let stored : BranchDesc := { carried with
      flowValue := min 4095 b.flow.toNat, designDt := max 100 (min 2000 b.designDt.toNat),
      dtMargin := min 1000 b.dtMargin.toNat, persist := max 1 (min 60 b.persist.toNat),
      floor := min 1000 b.floor.toNat, step := max 1 (min 200 b.step.toNat),
      dpRequired := min 10000 b.dpRequired.toNat,
      dpCeiling := max (min 10000 b.dpRequired.toNat) (min 10000 b.dpCeiling.toNat) }
    let filled : BranchPart → State := fun part =>
      (s.setBranch b.index.toNat (some
        { desc := stored, station := ⟨.awaiting, 0, false, true, none, false, none⟩,
          meter := ⟨0, 0, 0, 0, 0, 0, 0, false, false⟩, part := part })).notes [⟨.branchState, b.index.toNat, 1⟩]
    (b.typeCode = 1 → b.rest = [] →
      exec (.branchLoad p tag b) s
        = .next ((filled (.consumer ⟨0, .none, 1000⟩ none none)).hand p
            (replyFrame tag 1 (if stored = carried then .done else .doneClamped) []))) ∧
    ∀ c1 c2 h1 h2 d1 d2 : Octet, b.typeCode = 2 → b.rest = [c1, c2, h1, h2, d1, d2] → s.storage = none →
      StorageLaw s → s.branches.length = 48 →
      let t := filled (.storage ⟨max 1 (c1.toNat * 256 + c2.toNat), h1.toNat * 256 + h2.toNat,
        d1.toNat * 256 + d2.toNat⟩ none none)
      exec (.branchLoad p tag b) s
        = .next ((({ t with store := { s.store with empty := true } } : State).notes
            [⟨.storageEmpty, b.index.toNat, 0⟩]).hand p
            (replyFrame tag 1 (if stored = carried ∧ 1 ≤ c1.toNat * 256 + c2.toNat then .done else .doneClamped) []))

/-- BRANCH_LOAD over a loaded record of its own type, at its own station address or a free one, replaces the
descriptor by the clamped request and keeps the station, the meter, the low-dT count and the cause. A CONSUMER's
ceiling comes into line: 1000 when throttling is not allowed, otherwise not below the new floor; a changed ceiling
goes into the next command block unless the record is in LOCAL. A STORAGE record's charge is clamped to the new
capacity, FULL follows, and CHARGE becomes HOLD at capacity. The reply is DONE when no field was clamped, DONE_CLAMPED
otherwise. -/
def Obligations.BranchReloadKeeps : Prop :=
  ∀ (p : Port) (tag : Octet) (b : BranchLoadBody) (g : Guard) (gr : Granularity) (th : Bool) (x : Branch) (s : State),
    s.Ready p → b.index.toNat ≤ 47 → s.branch? b.index.toNat = some x →
    p = .panel ∨ (x.desc.guard = .anyone ∧ g = .anyone) →
    Guard.ofCode b.guardCode = some g → Granularity.ofCode b.granularity = some gr →
    throttleOfCode b.throttle = some th → 1 ≤ b.address.toNat → b.address.toNat ≤ 240 →
    (b.address.toNat = x.desc.address ∧ AddressesDistinct s) ∨ b.address.toNat ∉ s.stations →
    let carried : BranchDesc := branchDescOf b g gr th
    let stored : BranchDesc := { carried with
      flowValue := min 4095 b.flow.toNat, designDt := max 100 (min 2000 b.designDt.toNat),
      dtMargin := min 1000 b.dtMargin.toNat, persist := max 1 (min 60 b.persist.toNat),
      floor := min 1000 b.floor.toNat, step := max 1 (min 200 b.step.toNat),
      dpRequired := min 10000 b.dpRequired.toNat,
      dpCeiling := max (min 10000 b.dpRequired.toNat) (min 10000 b.dpCeiling.toNat) }
    (∀ throttle next cur, x.part = .consumer throttle next cur → b.typeCode = 1 → b.rest = [] →
      let c := if th then max (min 1000 b.floor.toNat) throttle.ceiling else 1000
      exec (.branchLoad p tag b) s
        = .next ((s.setBranch b.index.toNat (some { x with
            desc := stored,
            part := .consumer { throttle with ceiling := c }
              (if c = throttle.ceiling ∨ x.station.freshness = .localCtl then next else some c) cur })).hand p
            (replyFrame tag 1 (if stored = carried then .done else .doneClamped) []))) ∧
    ∀ d next cur (c1 c2 h1 h2 d1 d2 : Octet), x.part = .storage d next cur → b.typeCode = 2 →
      b.rest = [c1, c2, h1, h2, d1, d2] → StorageLaw s →
      let d' : StorageDesc := ⟨max 1 (c1.toNat * 256 + c2.toNat), h1.toNat * 256 + h2.toNat, d1.toNat * 256 + d2.toNat⟩
      ∃ t : State, exec (.branchLoad p tag b) s
          = .next (t.hand p (replyFrame tag 1
              (if stored = carried ∧ 1 ≤ c1.toNat * 256 + c2.toNat then .done else .doneClamped) [])) ∧
        t = { s.setBranch b.index.toNat (some { x with desc := stored, part := .storage d' next cur }) with
          store := t.store, events := t.events } ∧
        t.store = { s.store with
          soc := min (d'.capacity * 36000000) s.store.soc, full := t.store.full, mode := t.store.mode,
          rate := t.store.rate, lastChange := t.store.lastChange } ∧
        (t.store.full = true ↔ d'.capacity * 36000000 ≤ s.store.soc) ∧
        (t.store.full = true → s.store.mode = .charge → t.store.mode = .hold ∧ t.store.rate = 0) ∧
        (t.store.full = false ∨ s.store.mode ≠ .charge → t.store.mode = s.store.mode ∧ t.store.rate = s.store.rate)

/-- A null load, by BRANCH_RELEASE or by a BRANCH_LOAD of type NONE, empties a CONSUMER record it may touch and
appends BRANCH_STATE; on an unloaded record it changes nothing; on a PANEL-guarded record the supervisory port is
refused. The release of the STORAGE record also leaves SOC 0, both flags clear and the mode HOLD at rate 0. A null
load of any body length from 22 to 28 is accepted (the model's choice between them, log 13). -/
def Obligations.NullLoadEmpties : Prop :=
  ∀ (p : Port) (tag i : Octet) (b : BranchLoadBody) (s : State), s.Ready p → i.toNat ≤ 47 → b.index = i →
    b.typeCode = 0 → b.rest.length ≤ 6 →
    (s.branch? i.toNat = none →
      exec (.branchRelease p tag i) s = .next (s.hand p (replyFrame tag 2 .done [])) ∧
      exec (.branchLoad p tag b) s = .next (s.hand p (replyFrame tag 1 .done []))) ∧
    (∀ x, s.branch? i.toNat = some x → p = .supervisory → x.desc.guard = .panel →
      exec (.branchRelease p tag i) s = .next (s.hand p (replyFrame tag 2 .refusedRank [])) ∧
      exec (.branchLoad p tag b) s = .next (s.hand p (replyFrame tag 1 .refusedRank []))) ∧
    ∀ x, s.branch? i.toNat = some x → p = .panel ∨ x.desc.guard = .anyone →
      (x.isStorage = false →
        exec (.branchRelease p tag i) s
          = .next (((s.setBranch i.toNat none).notes [⟨.branchState, i.toNat, 0⟩]).hand p (replyFrame tag 2 .done [])) ∧
        exec (.branchLoad p tag b) s
          = .next (((s.setBranch i.toNat none).notes [⟨.branchState, i.toNat, 0⟩]).hand p
              (replyFrame tag 1 .done []))) ∧
      (x.isStorage = true → StorageLaw s →
        ∃ t : State, exec (.branchRelease p tag i) s = .next (t.hand p (replyFrame tag 2 .done [])) ∧
          exec (.branchLoad p tag b) s = .next (t.hand p (replyFrame tag 1 .done [])) ∧
          t = { s with branches := s.branches.set i.toNat none, store := t.store, events := t.events } ∧
          t.store = { s.store with
            soc := 0, full := false, empty := false, mode := .hold, rate := 0, window := t.store.window,
            lastChange := t.store.lastChange } ∧
          t.store.lastChange = (if s.store.mode = .hold then s.store.lastChange else s.fc.count))

/-- The six reads answer from the state and change nothing but the port's transmit queue: READ_PLANT, READ_STORAGE,
READ_LADDER, READ_BRANCH, READ_UNIT and READ_SNAPSHOT, each with the content its rule lists, octet by octet in the
layout of 12.2, and REFUSED_ABSENT for a record or an entry that is not there. Where 12.2 gives a part by its general
rule alone the layout is the model's reading (log 11, log 37, log 38). That the last power is sent in W is its choice
(log 41). -/
def Obligations.ReadsChangeNothing : Prop :=
  (∀ (α : Type) (f : α → List Octet), optional none f = [0] ∧ ∀ a, optional (some a) f = 1 :: f a) ∧
  ∀ (p : Port) (tag : Octet) (s : State), s.Ready p →
    let bit : Bool → Octet := fun x => if x then 1 else 0
    let timer : Timer → List Octet := fun x =>
      match x with
      | .idle => [0, 0, 0]
      | .counting r _ _ => 1 :: be 2 r
    let windows : List TariffWindow → List Octet := fun ws =>
      oct ws.length :: ws.flatMap fun w => be 2 w.start ++ [oct w.mode.code] ++ be 2 w.rate
    let port : LinkPort → List Octet := fun x =>
      be 2 x.gapDrops ++ be 2 x.lengthDrops ++ be 2 x.crcDrops ++ be 2 x.replyDrops ++ be 2 x.overruns
        ++ [oct x.owed, oct x.tx.length]
    let unitBlock : UnitCmd → List Octet := fun c => oct c.demand.code :: be 2 c.setpoint
    let address : Octet := match s.header with
      | none => 0
      | some h => oct h.address
    let header : List Octet := match s.header with
      | none => [0, 0, 0, 0]
      | some h => [address, oct (Freshness.code (some h.station.freshness)), oct h.station.miss]
          ++ optional h.station.closed fun c => oct c.status.code ::
            optional c.values fun v => be 2 v.dph ++ be 2 v.tsup ++ be 2 v.tret ++ be 2 v.qtotal
    let sign : Octet := match s.load.sign with
      | .zero => 0
      | .positive => 1
      | .negative => 2
    let clock : List Octet := match s.store.clock with
      | none => [0]
      | some c => 1 :: be 2 c.minute ++ [oct c.second]
    let tank : List Octet := match s.storage with
      | none => [0, 0, 0, 0, 0, 0]
      | some x => [1, oct x.1, bit x.2.available]
          ++ match x.2.storageDesc with
            | none => [0, 0, 0, 0]
            | some d => be 2 (s.store.soc / 36000000) ++ be 2 d.capacity
    (exec (.readPlant p tag) s = .next (s.hand p (replyFrame tag 27 .done (
      header ++ be 4 s.fc.count.toNat ++ [oct s.fc.position] ++ be 2 s.fc.pCfg ++ be 2 s.fc.pEff
      ++ [bit s.fc.stretched, bit s.fc.lineShadow, bit s.fc.shadow, oct s.fc.queue.length, bit s.fc.inFlight.isSome,
        oct s.fc.lastGood, oct s.fc.lastMisses, oct s.fc.rate.toNat]
      ++ be 4 s.load.lStage ++ be 4 s.load.lCons
      ++ [sign] ++ be 4 s.load.magnitude
      ++ [oct s.load.nMeasured, oct s.load.nHeld, oct s.load.nSubst] ++ be 4 s.load.count.toNat
      ++ be 2 s.press.setpoint ++ be 2 s.press.target ++ optional s.press.critical (fun i => [oct i])
      ++ be 2 s.press.criticalNeed ++ optional s.press.limiting (fun i => [oct i]) ++ be 2 s.press.ceiling
      ++ [oct s.press.eligible, bit s.press.conflict, bit s.press.noCritical, bit s.press.headerStale]
      ++ be 4 s.press.stamp.toNat
      ++ be 2 s.limits.dpMin ++ be 2 s.limits.dpMax ++ be 2 s.limits.dpFallback ++ be 2 s.limits.dpMargin
      ++ be 2 s.limits.dpRamp ++ be 2 s.limits.trim ++ be 2 s.limits.trimThreshold ++ be 2 s.limits.supplySet
      ++ be 2 s.limits.supplyBand ++ [oct s.limits.upPct, oct s.limits.downPct] ++ be 2 s.limits.pumpUp
      ++ be 2 s.limits.pumpDown
      ++ [oct s.limits.kStale, oct s.limits.kLost, address]
      ++ port s.supervisory ++ port s.panel)))) ∧
    (exec (.readStorage p tag) s = .next (s.hand p (replyFrame tag 28 .done (
      clock ++ windows s.store.active ++ optional s.store.staged windows ++ optional s.store.window (be 2)
      ++ [oct s.store.mode.code] ++ be 2 s.store.rate ++ be 4 s.store.lastChange.toNat
      ++ tank ++ [bit s.store.full, bit s.store.empty])))) ∧
    (∀ o l, ladderOfCode o = some l →
      let L := s.seq.ladder l
      let figures : List Octet := match l with
        | .chiller => be 4 L.figures.cRun ++ be 2 L.figures.capTop ++ [oct L.figures.running, bit L.figures.tsupUsed]
        | .pump => [oct L.figures.pumps] ++ be 2 L.figures.speed ++ [oct L.figures.running]
      exec (.readLadder p tag o) s = .next (s.hand p (replyFrame tag 26 .done (
        (L.units.flatMap fun u =>
          match u with
          | none => [0]
          | some v => [1, oct v.address, oct (UnitState.code (some v.state))])
        ++ (oct L.stack.length :: L.stack.map oct) ++ [bit L.upPending, bit L.downPending]
        ++ (if l = .chiller then [bit s.seq.waiting] else [])
        ++ [bit L.requestHold, bit s.seq.inputHold, bit L.shortCap]
        ++ optional L.lastIntent (fun x =>
          [oct (Intent.code (some x.intent)), oct x.position] ++ be 4 x.count.toNat)
        ++ timer L.up ++ timer L.down ++ be 2 L.periods.prove ++ be 2 L.periods.stop ++ be 2 L.periods.run
        ++ be 2 L.periods.rest ++ be 2 L.periods.up ++ be 2 L.periods.down
        ++ be 4 L.figures.load ++ be 4 L.figures.count.toNat
        ++ figures
        ++ [bit L.figures.up, bit L.figures.down])))) ∧
    (∀ i : Octet, i.toNat ≤ 47 →
      (s.branch? i.toNat = none →
        exec (.readBranch p tag i) s = .next (s.hand p (replyFrame tag 24 .refusedAbsent []))) ∧
      ∀ b, s.branch? i.toNat = some b →
        let part : List Octet := match b.part with
          | .consumer t n c =>
            [1, oct t.count, oct t.cause.code] ++ be 2 t.ceiling ++ optional n (be 2) ++ optional c (be 2)
          | .storage _ n c =>
            0 :: optional n (fun x => oct x.mode.code :: be 2 x.rate)
              ++ optional c (fun x => oct x.mode.code :: be 2 x.rate)
        exec (.readBranch p tag i) s = .next (s.hand p (replyFrame tag 24 .done (
          [if b.isStorage then 2 else 1, oct b.desc.address, oct b.desc.guard.code] ++ be 2 b.desc.flowValue
          ++ [oct b.desc.granularity.code] ++ be 2 b.desc.designDt ++ be 2 b.desc.dtMargin
          ++ [oct b.desc.persist, if b.desc.throttleAllowed then 0 else 1] ++ be 2 b.desc.floor ++ [oct b.desc.step]
          ++ be 2 b.desc.dpRequired ++ be 2 b.desc.dpCeiling ++ be 2 b.desc.substitute
          ++ optional b.storageDesc (fun d => be 2 d.capacity ++ be 2 d.chargeLimit ++ be 2 d.dischargeLimit)
          ++ [oct (Freshness.code (some b.station.freshness)), oct b.station.miss]
          ++ (optional b.station.closed fun c => oct c.status.code ::
            optional c.values fun v => be 2 v.ts ++ be 2 v.tr ++ be 2 v.q
              ++ match v.tail with
                | .consumer dpb valve => be 2 dpb ++ be 2 valve
                | .storage d => [oct d.code])
          ++ be 5 b.meter.measured ++ be 5 b.meter.estimated ++ be 5 b.meter.volume ++ be 4 b.meter.lastPower
          ++ [bit b.meter.rollover]
          ++ part)))) ∧
    (∀ (o q : Octet) l, ladderOfCode o = some l → 1 ≤ q.toNat → q.toNat ≤ ladderSize l →
      (s.unit? l q.toNat = none →
        exec (.readUnit p tag o q) s = .next (s.hand p (replyFrame tag 25 .refusedAbsent []))) ∧
      ∀ u, s.unit? l q.toNat = some u →
        let desc : List Octet := match l with
          | .chiller => [1, oct u.address, oct u.guard.code] ++ be 2 u.capacity
          | .pump => [2, oct u.address, oct u.guard.code]
        let carried : List Octet := match u.state with
          | .hand d => [oct d.code]
          | .tripped c late => [oct c.code, bit late]
          | _ => []
        let pass : Octet := match u.prove with
          | .idle => 0
          | .counting _ _ x => oct x
        exec (.readUnit p tag o q) s = .next (s.hand p (replyFrame tag 25 .done (
          desc ++ [oct (UnitState.code (some u.state))] ++ carried ++ (if s.fc.shadow then [oct (Intent.code u.intent)] else [])
          ++ [oct (Freshness.code (some u.station.freshness)), oct u.station.miss, bit u.commLost]
          ++ (optional u.station.closed fun c => oct c.status.code ::
            optional c.values fun v => bit v.proof :: be 2 v.value)
          ++ optional u.next unitBlock ++ optional u.current unitBlock
          ++ timer u.prove ++ [pass]
          ++ timer u.stop ++ timer u.run ++ timer u.rest)))) ∧
    ∀ i : Octet, i.toNat ≤ 47 →
      (s.snapshot = none → exec (.readSnapshot p tag i) s = .next (s.hand p (replyFrame tag 31 .refusedAbsent []))) ∧
      (∀ t, s.snapshot = some t → t.entries[i.toNat]? = some none →
        exec (.readSnapshot p tag i) s = .next (s.hand p (replyFrame tag 31 .refusedAbsent []))) ∧
      ∀ t e, s.snapshot = some t → t.entries[i.toNat]? = some (some e) →
        exec (.readSnapshot p tag i) s
          = .next (s.hand p (replyFrame tag 31 .done
              (be 5 e.measured ++ be 5 e.estimated ++ be 5 e.volume ++ [bit e.rollover]
                ++ be 4 t.count.toNat ++ [oct t.position])))

/-- METER_SNAPSHOT replaces the table by one entry for each loaded record, stamped with the cycle count and the slot
position, clears every rollover flag, and answers the stamp and the number of entries; READ_SNAPSHOT then returns each
record's figures as they stood. -/
def Obligations.SnapshotTaken : Prop :=
  ∀ (p : Port) (tag : Octet) (s : State), s.Ready p →
    ∃ t : State, exec (.meterSnapshot p tag) s
        = .next (t.hand p (replyFrame tag 23 .done
            (be 4 s.fc.count.toNat ++ [oct s.fc.position, oct (s.branches.countP (·.isSome))]))) ∧
      t = { s with snapshot := t.snapshot, branches := t.branches } ∧
      (∀ i, t.branch? i
        = (s.branch? i).map fun b => { b with meter := { b.meter with rollover := false } }) ∧
      ∃ tab, t.snapshot = some tab ∧ tab.count = s.fc.count ∧ tab.position = s.fc.position ∧
        tab.entries.length = s.branches.length ∧
        ∀ i, (tab.entries[i]?).join
          = (s.branch? i).map fun b => ⟨b.meter.measured, b.meter.estimated, b.meter.volume, b.meter.rollover⟩

/-! ## The Field Cycle (02) -/

/-- CYCLE_SET (R26): the period is clamped into 5 to 600 and held at once; the cycle in progress keeps its effective
period; the next cycle start is the first to use it. -/
def Obligations.CycleSetHeld : Prop :=
  ∀ (p : Port) (tag : Octet) (v : Half) (s : State), s.Ready p →
    exec (.cycleSet p tag v) s
      = .next (({ s with fc := { s.fc with pCfg := max 5 (min 600 v.toNat) } } : State).hand p
          (replyFrame tag 6 (if 5 ≤ v.toNat ∧ v.toNat ≤ 600 then .done else .doneClamped) [])) ∧
    ∀ t u, exec (.cycleSet p tag v) s = .next t → t.fc.position = 65 → exec .cycleStart t = .next u →
      u.fc.pEff = max (max 5 (min 600 v.toNat))
        (((u.fc.serviceList.length + 1) * Config.slotTime u.fc.rate + 99) / 100)

/-- SLOT_MAP_WRITE of valid entries that fit the map, on the panel port or with no PANEL-guarded record bound before
or after, replaces exactly those positions of the written map and leaves the running map and all else. -/
def Obligations.SlotMapWritten : Prop :=
  ∀ (p : Port) (tag first : Octet) (es : List SlotEntry) (s : State), s.Ready p → es ≠ [] →
    first.toNat + es.length ≤ 64 → (∀ e ∈ es, e.binding.Valid) →
    p = .panel ∨ (∀ e ∈ s.fc.written ++ es, s.panelBound e.binding = false) →
    exec (.slotMapWrite p tag first (oct es.length) (es.flatMap SlotEntry.octets)) s
      = .next (({ s with fc := { s.fc with
          written := s.fc.written.take first.toNat ++ es ++ s.fc.written.drop (first.toNat + es.length) } } : State).hand
            p (replyFrame tag 5 .done []))

/-- FIELD_PASS of at most 32 octets to an address of 1 to 240, in live mode with fewer than four passes waiting, joins
the tail of the queue, is owed a deferred reply and is answered ACCEPTED; otherwise it is refused, length first, and
nothing changes. -/
def Obligations.FieldPassQueued : Prop :=
  ∀ (p : Port) (tag a : Octet) (os : List Octet) (s : State), s.Ready p →
    (32 < os.length → exec (.fieldPass p tag a os) s = .next (s.hand p (replyFrame tag 22 .refusedLength []))) ∧
    (os.length ≤ 32 → a.toNat = 0 ∨ 240 < a.toNat →
      exec (.fieldPass p tag a os) s = .next (s.hand p (replyFrame tag 22 .refusedValue []))) ∧
    (os.length ≤ 32 → 1 ≤ a.toNat → a.toNat ≤ 240 → s.fc.shadow = true →
      exec (.fieldPass p tag a os) s = .next (s.hand p (replyFrame tag 22 .refusedState []))) ∧
    (os.length ≤ 32 → 1 ≤ a.toNat → a.toNat ≤ 240 → s.fc.shadow = false → 4 ≤ s.fc.queue.length →
      exec (.fieldPass p tag a os) s = .next (s.hand p (replyFrame tag 22 .refusedFull []))) ∧
    (os.length ≤ 32 → 1 ≤ a.toNat → a.toNat ≤ 240 → s.fc.shadow = false → s.fc.queue.length < 4 →
      exec (.fieldPass p tag a os) s
        = .next (((({ s with fc := { s.fc with queue := s.fc.queue ++ [⟨p, tag, a.toNat, os⟩] } } : State).setPort p
            { s.port p with owed := (s.port p).owed + 1 })).hand p (replyFrame tag 22 .accepted [])))

/-- GO_LIVE on the panel port in shadow mode: with a chiller RUNNING and no pump RUNNING it is refused REFUSED_STATE,
as it is when the part is live already. Otherwise the part is live, the SHADOW lamp out and every intent none. With
the STOP latch clear every RUNNING unit's RUN timer starts afresh, and nothing else changes; with the latch set every
unit that serves is taken to STOPPING and off its stack, and every other unit stands. -/
def Obligations.GoLiveStartsRunTimers : Prop :=
  ∀ (tag : Octet) (s : State), s.Ready .panel →
    (s.fc.shadow = false → exec (.goLive .panel tag) s = .next (s.hand .panel (replyFrame tag 20 .refusedState []))) ∧
    (s.fc.shadow = true → (∃ u, some u ∈ s.seq.chillers.units ∧ u.state = .running) →
      (∀ u, some u ∈ s.seq.pumps.units → u.state ≠ .running) →
      exec (.goLive .panel tag) s = .next (s.hand .panel (replyFrame tag 20 .refusedState []))) ∧
    (s.fc.shadow = true →
      (∀ u, some u ∈ s.seq.chillers.units → u.state ≠ .running) ∨ (∃ u, some u ∈ s.seq.pumps.units ∧ u.state = .running) →
      ∃ t : State, exec (.goLive .panel tag) s = .next (t.hand .panel (replyFrame tag 20 .done [])) ∧
        t.shadowLamp = false ∧
        (s.inputs.stopLatch = false →
          t = { s with fc := { s.fc with shadow := false }, seq := t.seq } ∧
          t.seq.waiting = s.seq.waiting ∧ t.seq.inputHold = s.seq.inputHold ∧
          ∀ l, t.seq.ladder l = { s.seq.ladder l with units := (t.seq.ladder l).units } ∧
            ∀ n, t.unit? l n = (s.unit? l n).map fun u =>
              { u with intent := none,
                       run := if u.state = .running then
                           .counting (s.seq.ladder l).periods.run (s.seq.ladder l).periods.run 1
                         else u.run }) ∧
        (s.inputs.stopLatch = true →
          t = { s with fc := { s.fc with shadow := false }, seq := t.seq, events := t.events } ∧
          ∀ l n, t.unit? l n = (s.unit? l n).map fun u =>
              let x := (s.seq.ladder l).periods
              if u.stoppable then
                { u with
                  state := .stopping, next := some ⟨.stop, s.setpointFor l⟩, intent := none, prove := .idle,
                  run := .idle, stop := .counting x.stop x.stop 1 }
              else { u with intent := none }) ∧
        (s.inputs.stopLatch = true → ∀ l n u, s.unit? l n = some u → u.stoppable = true →
          n ∉ (t.seq.ladder l).stack))

/-- CYCLE_START in the gap: the count goes up by one, the written map is latched, the service list holds in order the
positions whose record is loaded, the line mode and the effective period are fixed, the tallies clear, and every
record's next command block is latched and its joined mark cleared, as is the header's mark of a load in this cycle
(the model's field, log 32). Nothing else but the event list, whose records at a cycle start (R28, R29) the statement
leaves open, changes when channels 7 and 8 are as last taken. A level of theirs that differs is taken: captured, it
writes a record with the new count and no slot position, sets pending and, at a STOP_ALL channel that becomes active,
sets the latch, which in live mode takes every unit in STARTING, RUNNING or HAND to STOPPING and off its stack; not
captured, it moves the taken level alone. -/
def Obligations.CycleStartLatches : Prop :=
  ∀ s : State, s.rst = false → s.fc.position = 65 →
    ∃ t : State, exec .cycleStart s = .next t ∧
      t = { s with fc := t.fc, branches := t.branches, header := t.header, seq := t.seq, inputs := t.inputs,
                   events := t.events } ∧
      t.fc = { s.fc with
        count := s.fc.count + 1, runningMap := s.fc.written, serviceList := t.fc.serviceList, served := 0,
        openBegun := false, lineShadow := s.fc.shadow, position := t.fc.serviceList.headD 64,
        pEff := max s.fc.pCfg (((t.fc.serviceList.length + 1) * Config.slotTime s.fc.rate + 99) / 100),
        stretched := t.fc.stretched, window := none, lineOut := [], good := 0, misses := 0 } ∧
      (t.fc.stretched = true ↔ s.fc.pCfg < t.fc.pEff) ∧
      (∀ k, k ∈ t.fc.serviceList ↔ ∃ e, s.fc.written[k]? = some e ∧ s.loaded e.binding = true) ∧
      t.fc.serviceList.Pairwise (· < ·) ∧
      (∀ i, t.branch? i = (s.branch? i).map fun b =>
        { b with
          station := { b.station with joined := false },
          part := match b.part with
            | .consumer x n _ => .consumer x n n
            | .storage d n _ => .storage d n n }) ∧
      (t.header = s.header.map fun h => { h with recent := false, station := { h.station with joined := false } }) ∧
      ((∀ n c, n = 7 ∨ n = 8 → s.inputs.channel n = some c → c.level = s.inputs.pin n) →
        t.inputs = s.inputs ∧ t.seq.inputHold = s.seq.inputHold) ∧
      (t.inputs.stopLatch = true ↔ s.inputs.stopLatch = true ∨
        ∃ n c, (n = 7 ∨ n = 8) ∧ s.inputs.channel n = some c ∧ c.level ≠ s.inputs.pin n ∧
          c.edge.captures (s.inputs.pin n) = true ∧ c.action = .stopAll ∧
          ({ c with level := s.inputs.pin n } : Channel).active = true) ∧
      t.seq.waiting = s.seq.waiting ∧
      (∀ l,
        let stops : PlantUnit → Bool := fun u =>
          t.inputs.stopLatch && !s.inputs.stopLatch && !s.fc.shadow && u.stoppable
        t.seq.ladder l = { s.seq.ladder l with
          units := (t.seq.ladder l).units,
          stack := (s.seq.ladder l).stack.filter fun n => !(s.unit? l n).any stops } ∧
        ∀ n, t.unit? l n = (s.unit? l n).map fun u =>
          let v : PlantUnit := { u with station := { u.station with joined := false }, current := u.next }
          if stops u then v.stopped (s.seq.ladder l).periods (s.setpointFor l) else v) ∧
      t.inputs.pins = s.inputs.pins ∧
      (∀ n, n ≠ 7 → n ≠ 8 → t.inputs.channel n = s.inputs.channel n) ∧
      ∀ n c, n = 7 ∨ n = 8 → s.inputs.channel n = some c →
        (c.level = s.inputs.pin n → t.inputs.channel n = some c) ∧
        (c.level ≠ s.inputs.pin n →
          t.seq.inputHold = t.inputs.channels.any (fun y => decide (y.action = .holdStage) && y.active) ∧
          (c.edge.captures (s.inputs.pin n) = false →
            t.inputs.channel n = some { c with level := s.inputs.pin n }) ∧
          (c.edge.captures (s.inputs.pin n) = true →
            t.inputs.channel n = some { c with
              level := s.inputs.pin n, pending := true,
              record := some ⟨s.fc.count + 1, none, s.inputs.pin n, c.pending⟩ } ∧
            ((∀ m d, m = 7 ∨ m = 8 → s.inputs.channel m = some d → d.action ≠ .stopAll) →
              (⟨s.fc.count + 1, t.fc.position, ⟨.capture, 300 + n,
                (if s.inputs.pin n then 1 else -1) * (if c.pending then 2 else 1)⟩⟩ : EventRecord) ∈ t.events.records)))

/-- MAPPED_SLOT, when the next entry of the service list is due: the position becomes the entry's, a record loaded at
the cycle start is polled at its own address with POLL_CMD when the entry is READ_COMMAND, the cycle is live and a
block was latched, and with POLL otherwise; a record no longer loaded, or loaded anew since the cycle start (R25, log
32), is passed over with the line quiet. Nothing else changes. The frame on the line is a field of the model (log 22).
-/
def Obligations.MappedSlotPolls : Prop :=
  ∀ (k : Nat) (e : SlotEntry) (s : State), s.rst = false → s.fc.position ≠ 65 → s.fc.window = none →
    s.fc.serviceList[s.fc.served]? = some k → s.fc.runningMap[k]? = some e →
    let quiet : State := { s with fc := { s.fc with
      position := k, served := s.fc.served + 1, lineOut := [], window := none } }
    let polled : WindowTarget → Nat → Option (List Octet) → State := fun target a block =>
      { s with fc := { s.fc with
        position := k, served := s.fc.served + 1, window := some ⟨target, a, .waiting⟩,
        lineOut := match block with
          | some os => if e.command = true ∧ s.fc.lineShadow = false then fieldFrame a 2 os else fieldFrame a 1 []
          | none => fieldFrame a 1 [] } }
    (s.loaded e.binding = false → exec .mappedSlot s = .next quiet) ∧
    (∀ i b, e.binding = .branch i → s.branch? i = some b →
      (b.station.joined = true → exec .mappedSlot s = .next quiet) ∧
      (b.station.joined = false →
        (∀ x n c, b.part = .consumer x n c →
          exec .mappedSlot s = .next (polled (.branch i) b.desc.address (c.map (be 2)))) ∧
        ∀ d n c, b.part = .storage d n c →
          exec .mappedSlot s
            = .next (polled (.branch i) b.desc.address (c.map fun x => oct x.mode.code :: be 2 x.rate)))) ∧
    (∀ l q u, e.binding = .unit l q → s.unit? l q = some u →
      (u.station.joined = true → exec .mappedSlot s = .next quiet) ∧
      (u.station.joined = false →
        exec .mappedSlot s
          = .next (polled (.unit l q) u.address (u.current.map fun x => oct x.demand.code :: be 2 x.setpoint)))) ∧
    ∀ h, e.binding = .header → s.header = some h →
      (h.recent = true → exec .mappedSlot s = .next quiet) ∧
      (h.recent = false → exec .mappedSlot s = .next (polled .header h.address none))

/-- FIELD_REPLY_RECEIVED: only the first frame of an open window is judged. A frame from another address, of another
kind or with a wrong CRC makes the slot a miss and hands nothing on. A good reply is counted and handed to its owner:
a CONSUMER, a STORAGE record, the header, a chiller or a pump takes the values of a reply of its own form, clamped, on
status OK or LOCAL, and its fault mark on FAULT; a reply of another form makes the slot a miss. In a pass window the
good reply's payload is the verdict. One for a record no longer loaded is taken by nobody and is no miss (log 29).
That one for a record emptied and loaded anew while the window was open goes to the new record, or is a miss by its
form, is the model's reading (log 33). That a good reply is tallied as it is judged and a miss only when the window
closes is the model's choice (log 22). -/
def Obligations.ReplyJudgedAndTaken : Prop :=
  ∀ (w : Window) (s : State), s.rst = false → s.fc.window = some w →
    (w.verdict ≠ .waiting → ∀ os, exec (.fieldReplyReceived os) s = .next s) ∧
    (w.verdict = .waiting →
      (∀ (a k : Octet) (os : List Octet), os.length ≤ 32 → k ≠ 4 ∨ a.toNat ≠ w.address →
        exec (.fieldReplyReceived (fieldFrame a.toNat k os)) s
          = .next { s with fc := { s.fc with window := some { w with verdict := .miss } } }) ∧
      (∀ (a k c1 c2 : Octet) (os : List Octet), os.length ≤ 32 →
        a :: k :: oct os.length :: os ++ [c1, c2] ≠ fieldFrame a.toNat k os →
        exec (.fieldReplyReceived (a :: k :: oct os.length :: os ++ [c1, c2])) s
          = .next { s with fc := { s.fc with window := some { w with verdict := .miss } } }) ∧
      (w.address ≤ 255 →
        let received : List Octet → Instr := fun os => .fieldReplyReceived (fieldFrame w.address 4 os)
        let tallied : State → Verdict → State := fun t v =>
          { t with fc := { s.fc with good := s.fc.good + 1, window := some { w with verdict := v } } }
        let after : ∀ {α : Type}, Octet → α → Station α → Station α := fun st v x =>
          if st = 2 then { x with faultMark := true } else { x with cycle := some ⟨decide (st = 1), v⟩ }
        (∀ os, os.length ≤ 32 → w.target = .pass → exec (received os) s = .next (tallied s (.good os))) ∧
        (∀ os, os.length ≤ 32 →
          (∃ i, w.target = .branch i ∧ s.branch? i = none) ∨ (∃ l n, w.target = .unit l n ∧ s.unit? l n = none) ∨
            (w.target = .header ∧ s.header = none) →
          exec (received os) s = .next (tallied s (.good os))) ∧
        (∀ i b, w.target = .branch i → s.branch? i = some b → b.isStorage = false →
          (∀ (st : Octet) (ts tr q dpb v : Nat), ts < 65536 → tr < 65536 → q < 65536 → dpb < 65536 → v < 65536 →
            let os := st :: (be 2 ts ++ be 2 tr ++ be 2 q ++ be 2 dpb ++ be 2 v)
            let values : BranchValues := ⟨min 3000 ts, min 3000 tr, q, .consumer (min 10000 dpb) (min 1000 v)⟩
            (st.toNat ≤ 2 → exec (received os) s
              = .next (tallied (s.setBranch i (some { b with station := after st values b.station })) (.good os))) ∧
            (3 ≤ st.toNat → exec (received os) s = .next (tallied s .miss))) ∧
          ∀ os, os.length ≤ 32 → os.length ≠ 11 → exec (received os) s = .next (tallied s .miss)) ∧
        (∀ i b, w.target = .branch i → s.branch? i = some b → b.isStorage = true →
          (∀ (st dir : Octet) (ts tr q : Nat), ts < 65536 → tr < 65536 → q < 65536 →
            let os := st :: (be 2 ts ++ be 2 tr ++ be 2 q ++ [dir])
            let direction : Direction := if dir = 0 then .idle else if dir = 1 then .charging else .discharging
            let values : BranchValues := ⟨min 3000 ts, min 3000 tr, q, .storage direction⟩
            (st.toNat ≤ 2 → dir.toNat ≤ 2 → exec (received os) s
              = .next (tallied (s.setBranch i (some { b with station := after st values b.station })) (.good os))) ∧
            (3 ≤ st.toNat ∨ 3 ≤ dir.toNat → exec (received os) s = .next (tallied s .miss))) ∧
          ∀ os, os.length ≤ 32 → os.length ≠ 8 → exec (received os) s = .next (tallied s .miss)) ∧
        (∀ h, w.target = .header → s.header = some h →
          (∀ (st : Octet) (dph tsup tret q : Nat), dph < 65536 → tsup < 65536 → tret < 65536 → q < 65536 →
            let os := st :: (be 2 dph ++ be 2 tsup ++ be 2 tret ++ be 2 q)
            let values : HeaderValues := ⟨min 10000 dph, min 3000 tsup, min 3000 tret, q⟩
            (st.toNat ≤ 2 → exec (received os) s
              = .next (tallied { s with header := some { h with station := after st values h.station } } (.good os))) ∧
            (3 ≤ st.toNat → exec (received os) s = .next (tallied s .miss))) ∧
          ∀ os, os.length ≤ 32 → os.length ≠ 9 → exec (received os) s = .next (tallied s .miss)) ∧
        ∀ l n u, w.target = .unit l n → s.unit? l n = some u →
          (∀ (st proof : Octet) (v : Nat), v < 65536 →
            let os := st :: proof :: be 2 v
            let values : UnitValues := ⟨decide (proof = 1), min (if l = .chiller then 3000 else 1000) v⟩
            (st.toNat ≤ 2 → proof.toNat ≤ 1 → exec (received os) s
              = .next (tallied (s.setUnit l n (some { u with station := after st values u.station })) (.good os))) ∧
            (3 ≤ st.toNat ∨ 2 ≤ proof.toNat → exec (received os) s = .next (tallied s .miss))) ∧
          ∀ os, os.length ≤ 32 → os.length ≠ 4 → exec (received os) s = .next (tallied s .miss)))

/-- REPLY_WINDOW_CLOSE counts a mapped slot without a good reply as a miss and ends a pass with FIELD_DONE and the
station's payload, or with FIELD_TIMEOUT; OPEN_SLOT sends the head of the queue in a live cycle and leaves the queue
alone in a shadow one. A miss is tallied as its window closes (the model's choice, log 22). -/
def Obligations.OpenSlotServesOnePass : Prop :=
  ∀ s : State, s.rst = false →
    (∀ w, s.fc.window = some w → w.target ≠ .pass →
      exec .replyWindowClose s = .next { s with fc := { s.fc with
        window := none,
        misses := match w.verdict with
          | .good _ => s.fc.misses
          | _ => s.fc.misses + 1 } }) ∧
    (∀ w e, s.fc.window = some w → w.target = .pass → s.fc.inFlight = some e →
      let t : State := { s with fc := { s.fc with window := none, inFlight := none } }
      let ended : TxFrame → State := fun f => t.setPort e.port { s.port e.port with
        tx := (s.port e.port).tx ++ [f], owed := (s.port e.port).owed - 1 }
      (∀ os, w.verdict = .good os → exec .replyWindowClose s = .next (ended (passReply e .fieldDone os))) ∧
      ((∀ os, w.verdict ≠ .good os) → exec .replyWindowClose s = .next (ended (passReply e .fieldTimeout [])))) ∧
    (s.fc.position ≠ 65 → s.fc.window = none → s.fc.openBegun = false → s.fc.serviceList.length ≤ s.fc.served →
      (∀ e rest, s.fc.lineShadow = false → s.fc.queue = e :: rest →
        exec .openSlot s = .next { s with fc := { s.fc with
          position := 64, openBegun := true, queue := rest, inFlight := some e,
          lineOut := fieldFrame e.address 3 e.payload, window := some ⟨.pass, e.address, .waiting⟩ } }) ∧
      (s.fc.lineShadow = true ∨ s.fc.queue = [] →
        exec .openSlot s = .next { s with fc := { s.fc with position := 64, openBegun := true, lineOut := [] } }))

/-! ## Plant limits (05, R89, R90; 01, R5) -/

/-- PLANT_LIMITS_SET: DP_min above DP_max after the range clamps is refused, then a header address out of range, then
one in use. Otherwise every limit is replaced by its clamped value at once, the header record follows the address, the
setpoint is clamped into the new limits and, when that moves it, written to the pumps in service; the reply is DONE
when no limit was clamped, DONE_CLAMPED otherwise. A header that was EMPTY is marked as loaded in this cycle (log 32).
-/
def Obligations.PlantLimitsReplaced : Prop :=
  ∀ (p : Port) (tag : Octet) (b : LimitsBody) (s : State), s.Ready p →
    let used : Prop := (∃ i x, s.branch? i = some x ∧ x.desc.address = b.headerAddress.toNat) ∨
      ∃ l n u, s.unit? l n = some u ∧ u.address = b.headerAddress.toNat
    let limits : Limits :=
      { dpMin := min 10000 b.dpMin.toNat,
        dpMax := min 10000 b.dpMax.toNat,
        dpFallback := max (min 10000 b.dpMin.toNat) (min (min 10000 b.dpMax.toNat) b.dpFallback.toNat),
        dpMargin := min 2000 b.dpMargin.toNat,
        dpRamp := max 1 (min 1000 b.dpRamp.toNat),
        trim := min 1000 b.trim.toNat,
        trimThreshold := max 500 (min 1000 b.trimThreshold.toNat),
        supplySet := max 300 (min 1500 b.supplySet.toNat),
        supplyBand := max 10 (min 500 b.supplyBand.toNat),
        upPct := max 50 (min 100 b.upPct.toNat),
        downPct := max 30 (min 95 b.downPct.toNat),
        pumpUp := max 500 (min 1000 b.pumpUp.toNat),
        pumpDown := min (max 500 (min 1000 b.pumpUp.toNat) - 1) (max 100 (min 900 b.pumpDown.toNat)),
        kStale := max 1 (min 50 b.kStale.toNat),
        kLost := max (max 1 (min 50 b.kStale.toNat) + 1) (max 2 (min 51 b.kLost.toNat)) }
    (limits.dpMax < limits.dpMin →
      exec (.plantLimitsSet p tag b) s = .next (s.hand p (replyFrame tag 7 .refusedValue []))) ∧
    (limits.dpMin ≤ limits.dpMax → 240 < b.headerAddress.toNat →
      exec (.plantLimitsSet p tag b) s = .next (s.hand p (replyFrame tag 7 .refusedValue []))) ∧
    (limits.dpMin ≤ limits.dpMax → b.headerAddress ≠ 0 → b.headerAddress.toNat ≤ 240 → used →
      exec (.plantLimitsSet p tag b) s = .next (s.hand p (replyFrame tag 7 .refusedInUse []))) ∧
    (limits.dpMin ≤ limits.dpMax → b.headerAddress = 0 ∨ (b.headerAddress.toNat ≤ 240 ∧ ¬ used) →
      ∃ (t : State) (ns : List Note),
        exec (.plantLimitsSet p tag b) s
          = .next (t.hand p (replyFrame tag 7
              (if limits = ⟨b.dpMin.toNat, b.dpMax.toNat, b.dpFallback.toNat, b.dpMargin.toNat, b.dpRamp.toNat,
                b.trim.toNat, b.trimThreshold.toNat, b.supplySet.toNat, b.supplyBand.toNat, b.upPct.toNat,
                b.downPct.toNat, b.pumpUp.toNat, b.pumpDown.toNat, b.kStale.toNat, b.kLost.toNat⟩
              then .done else .doneClamped) [])) ∧
        t = { s with limits := limits, header := t.header, press := t.press, seq := t.seq,
                     events := (s.notes ns).events } ∧
        t.press = { s.press with setpoint := max limits.dpMin (min limits.dpMax s.press.setpoint) } ∧
        (t.press.setpoint = s.press.setpoint → t.seq = s.seq) ∧
        (t.press.setpoint ≠ s.press.setpoint →
          t.seq = { s.seq with pumps := { s.seq.pumps with units := t.seq.pumps.units } } ∧
          ∀ n, t.unit? .pump n = (s.unit? .pump n).map fun u =>
            if u.state = .starting ∨ u.state = .running ∨ u.state = .hand .run then
              { u with next := u.next.map fun c => { c with setpoint := t.press.setpoint } }
            else u) ∧
        (b.headerAddress = 0 → t.header = none ∧
          ns = if s.header.isSome then [⟨.branchState, 48, 0⟩] else []) ∧
        (b.headerAddress ≠ 0 → s.header = none →
          t.header = some ⟨b.headerAddress.toNat, ⟨.awaiting, 0, false, true, none, false, none⟩, true⟩ ∧
          ns = [⟨.branchState, 48, 1⟩]) ∧
        (∀ h, b.headerAddress ≠ 0 → s.header = some h → h.address ≠ b.headerAddress.toNat →
          t.header = some ⟨b.headerAddress.toNat, ⟨.awaiting, 0, false, true, none, false, none⟩, h.recent⟩ ∧
          ns = if h.station.freshness = .awaiting then [] else [⟨.branchState, 48, 1⟩]) ∧
        ∀ h, s.header = some h → h.address = b.headerAddress.toNat → b.headerAddress ≠ 0 →
          t.header = some h ∧ ns = [])

/-! ## Units and Stage Ladders (06) -/

/-- UNIT_LOAD, its checks passed: on an empty position it fills it, OFF, AWAITING and joined, with no block and idle
timers, and appends UNIT_STATE; over a unit at rest, at its own address or a free one, it replaces the descriptor and
keeps all else; of kind NONE it empties a position at rest and appends UNIT_STATE, at any length its body may have
(the model's choice, log 13). A chiller's capacity is clamped into 1 to 20000. -/
def Obligations.UnitLoadFillsReloadsEmpties : Prop :=
  ∀ (p : Port) (tag : Octet) (b : UnitLoadBody) (l : LadderId) (g : Guard) (s : State),
    s.Ready p → placeOf b.ladder b.position = some (l, b.position.toNat) →
    (∀ u, s.unit? l b.position.toNat = some u → p = .panel ∨ u.guard = .anyone) →
    (∀ u, s.unit? l b.position.toNat = some u → u.state = .off ∨ u.state = .resting ∨ u.state = .out ∨
      ∃ c late, u.state = .tripped c late) →
    (b.kindCode = 0 → b.rest.length ≤ 2 →
      (s.unit? l b.position.toNat = none →
        exec (.unitLoad p tag b) s = .next (s.hand p (replyFrame tag 3 .done []))) ∧
      (s.unit? l b.position.toNat ≠ none →
        exec (.unitLoad p tag b) s = .next (((s.setUnit l b.position.toNat none).notes
          [⟨.unitState, ladderSubject l + b.position.toNat, 0⟩]).hand p (replyFrame tag 3 .done [])))) ∧
    (b.kindCode = kindCode l → b.rest.length = (if l = .chiller then 2 else 0) →
      Guard.ofCode b.guardCode = some g → p = .panel ∨ g = .anyone →
      1 ≤ b.address.toNat → b.address.toNat ≤ 240 →
      let capacity := if l = .chiller then max 1 (min 20000 (ofBe b.rest)) else 0
      let st := if capacity = ofBe b.rest then Status.done else Status.doneClamped
      (s.unit? l b.position.toNat = none → b.address.toNat ∉ s.stations →
        exec (.unitLoad p tag b) s = .next (((s.setUnit l b.position.toNat (some
          { address := b.address.toNat, guard := g, capacity := capacity, state := .off,
            station := ⟨.awaiting, 0, false, true, none, false, none⟩, commLost := false, intent := none,
            next := none, current := none, prove := .idle, stop := .idle, run := .idle, rest := .idle })).notes
          [⟨.unitState, ladderSubject l + b.position.toNat, 2⟩]).hand p (replyFrame tag 3 st []))) ∧
      ∀ u, s.unit? l b.position.toNat = some u →
        (b.address.toNat = u.address ∧ AddressesDistinct s) ∨ b.address.toNat ∉ s.stations →
        exec (.unitLoad p tag b) s = .next ((s.setUnit l b.position.toNat (some
          { u with address := b.address.toNat, guard := g, capacity := capacity })).hand p (replyFrame tag 3 st [])))

/-- LADDER_ROTATE, its checks passed: of k occupied positions the first unit moves to the last, every later one to the
place before it, each with its whole record; empty positions stay empty; the stack, which the model holds as positions
(log 10), names the same units in the same order; a window open on a unit follows it; the reply lists the addresses in
the new order; nothing else changes. -/
def Obligations.RotationMovesUnits : Prop :=
  ∀ (p : Port) (tag o : Octet) (l : LadderId) (s : State), s.Ready p → ladderOfCode o = some l →
    p = .panel ∨ (∀ u, some u ∈ (s.seq.ladder l).units → u.guard = .anyone) →
    (∀ u, some u ∈ (s.seq.ladder l).units → u.state ≠ .starting) →
    let ps := (s.seq.ladder l).occupied
    ∃ t : State, exec (.ladderRotate p tag o) s
        = .next (t.hand p (replyFrame tag 4 .done
            ((t.seq.ladder l).units.map fun u => oct ((u.map (·.address)).getD 0)))) ∧
      t = { s with seq := t.seq, fc := { s.fc with window := t.fc.window } } ∧
      (∀ l', l' ≠ l → t.seq.ladder l' = s.seq.ladder l') ∧
      t.seq.waiting = s.seq.waiting ∧ t.seq.inputHold = s.seq.inputHold ∧
      t.seq.ladder l = { s.seq.ladder l with units := (t.seq.ladder l).units, stack := (t.seq.ladder l).stack } ∧
      (t.seq.ladder l).occupied = ps ∧
      (∀ j, (h : j < ps.length) →
        t.unit? l (ps[(j + ps.length - 1) % ps.length]'(Nat.mod_lt _ (Nat.lt_of_le_of_lt (Nat.zero_le j) h)))
          = s.unit? l ps[j]) ∧
      (t.seq.ladder l).stack.map (t.unit? l ·) = (s.seq.ladder l).stack.map (s.unit? l ·) ∧
      (∀ w, s.fc.window = some w → (∀ n, w.target ≠ .unit l n) → t.fc.window = some w) ∧
      ∀ w n, s.fc.window = some w → w.target = .unit l n → ∃ m, t.fc.window = some { w with target := .unit l m } ∧
        t.unit? l m = s.unit? l n

/-- STAGE_HOLD sets and STAGE_FREE clears the request hold of each ladder selected, answers DONE whatever stood there,
and changes nothing else; an undefined selection is refused. -/
def Obligations.StageHoldAndFree : Prop :=
  ∀ (p : Port) (tag o : Octet) (s : State), s.Ready p →
    (∀ v : Bool, o.toNat = 1 ∨ o.toNat = 2 ∨ o.toNat = 3 →
      exec (if v then .stageHold p tag o else .stageFree p tag o) s
        = .next (({ s with seq := { s.seq with
            chillers := { s.seq.chillers with
              requestHold := if o.toNat = 2 then s.seq.chillers.requestHold else v },
            pumps := { s.seq.pumps with
              requestHold := if o.toNat = 1 then s.seq.pumps.requestHold else v } } } : State).hand p
          (replyFrame tag (if v then 17 else 18) .done []))) ∧
    (o.toNat = 0 ∨ 3 < o.toNat →
      exec (.stageHold p tag o) s = .next (s.hand p (replyFrame tag 17 .refusedIndex [])) ∧
      exec (.stageFree p tag o) s = .next (s.hand p (replyFrame tag 18 .refusedIndex [])))

/-! ## Stage Sequencing (07) -/

/-- UNIT_HAND from the panel in live mode, its state tests passed: the unit is in HAND with the demand, the demand and
the setpoint are written to its next block, it leaves the stack, its RUN timer is cancelled, and PROVE and REST stand
as R119 says; the reply is DONE. Taking a chiller in hand touches no other unit. The last pump in service, taken in
hand with demand STOP, brings the flow-loss stop of the chillers (R128), another pump none; a pump in HAND-run ends a
chiller start's wait (R126). -/
def Obligations.UnitHandTaken : Prop :=
  ∀ (tag o q dc : Octet) (l : LadderId) (u : PlantUnit) (d : Demand) (s : State),
    s.Ready .panel → placeOf o q = some (l, q.toNat) → s.unit? l q.toNat = some u → s.fc.shadow = false →
    Demand.ofCode dc = some d →
    u.state = .off ∨ u.state = .running ∨ u.state = .out ∨ (∃ x, u.state = .hand x) ∨
      (u.state = .resting ∧ d = .stop) →
    (d = .run → u.rest = .idle ∧ s.inputs.stopLatch = false ∧ (l = .chiller → s.seq.pumps.serves = true)) →
    (d = .stop → handStopBars ⟨l, q.toNat, u⟩ s = false) →
    let proved := u.state = .running ∨ (u.state = .hand .run ∧ u.prove = .idle)
    let x := (s.seq.ladder l).periods
    ∃ t : State, exec (.unitHand .panel tag o q dc) s = .next (t.hand .panel (replyFrame tag 14 .done [])) ∧
      t = { s with seq := t.seq, events := t.events } ∧
      t.unit? l q.toNat = some { u with
        state := .hand d, next := some ⟨d, s.setpointFor l⟩, run := .idle,
        prove := (if d = .run then (if proved then .idle else .counting x.prove x.prove 1)
                  else if u.inService then .idle else u.prove),
        rest := (if d = .stop ∧ u.inService = true ∧ u.rest = .idle then .counting x.rest x.rest 1 else u.rest) } ∧
      q.toNat ∉ (t.seq.ladder l).stack ∧
      (l = .chiller → t.seq.pumps = s.seq.pumps ∧ ∀ n, n ≠ q.toNat → t.unit? .chiller n = s.unit? .chiller n) ∧
      (l = .pump → d = .stop → s.PumpLeaves q.toNat u t) ∧ (l = .pump → d = .run → s.PumpEnters t)

/-- UNIT_AUTO on a HAND unit: with proof, the latch clear and, for a chiller, a pump in service, it enters RUNNING on
top of the stack with its RUN timer started; with proof otherwise it enters STOPPING; without proof it enters RESTING,
its REST timer started if idle and left to run if counting. PROVE is cancelled and the reply is DONE in each case. A
chiller's return touches no other unit. The last pump in service, leaving it, brings the flow-loss stop of the
chillers (R128); a pump entering RUNNING ends a chiller start's wait (R126). Proof is that of the closed reading,
whatever its status (the model's choice, log 24). -/
def Obligations.UnitAutoEndsHand : Prop :=
  ∀ (tag o q : Octet) (l : LadderId) (u : PlantUnit) (d : Demand) (s : State),
    s.Ready .panel → placeOf o q = some (l, q.toNat) → s.unit? l q.toNat = some u → s.fc.shadow = false →
    u.state = .hand d →
    let x := (s.seq.ladder l).periods
    let serves := l = .pump ∨ s.seq.pumps.serves = true
    ∃ t : State, exec (.unitAuto .panel tag o q) s = .next (t.hand .panel (replyFrame tag 15 .done [])) ∧
      t = { s with seq := t.seq, events := t.events } ∧
      (u.proof = true → s.inputs.stopLatch = false → serves →
        t.unit? l q.toNat = some { u with
          state := .running, next := some ⟨.run, s.setpointFor l⟩, prove := .idle,
          run := .counting x.run x.run 1 } ∧
        (t.seq.ladder l).stack = (s.seq.ladder l).stack ++ [q.toNat] ∧ (l = .pump → s.PumpEnters t)) ∧
      (u.proof = true → s.inputs.stopLatch = true ∨ ¬ serves →
        t.unit? l q.toNat = some { u with
          state := .stopping, next := some ⟨.stop, s.setpointFor l⟩, prove := .idle, run := .idle,
          stop := .counting x.stop x.stop 1 } ∧
        q.toNat ∉ (t.seq.ladder l).stack) ∧
      (u.proof = false →
        t.unit? l q.toNat = some { u with
          state := .resting, next := some ⟨.stop, s.setpointFor l⟩, prove := .idle,
          rest := if u.rest = .idle then .counting x.rest x.rest 1 else u.rest }) ∧
      (l = .pump → u.proof = false ∨ s.inputs.stopLatch = true → s.PumpLeaves q.toNat u t) ∧
      (l = .chiller → t.seq.pumps = s.seq.pumps ∧ ∀ n, n ≠ q.toNat → t.unit? .chiller n = s.unit? .chiller n)

/-- UNIT_CLEAR, UNIT_DISABLE and UNIT_ENABLE in live mode on a unit the port may touch: CLEAR takes a TRIPPED unit
whose station does not report FAULT to RESTING with REST started; DISABLE takes OFF, RESTING or TRIPPED to OUT; ENABLE
takes OUT to RESTING while REST counts and to OFF otherwise. Each appends UNIT_STATE and changes nothing else. -/
def Obligations.ClearDisableEnable : Prop :=
  ∀ (p : Port) (tag o q : Octet) (l : LadderId) (u : PlantUnit) (s : State),
    s.Ready p → placeOf o q = some (l, q.toNat) → s.unit? l q.toNat = some u → p = .panel ∨ u.guard = .anyone →
    s.fc.shadow = false →
    let x := (s.seq.ladder l).periods
    let moved : PlantUnit → Nat → State := fun v code =>
      (s.setUnit l q.toNat (some v)).notes [⟨.unitState, ladderSubject l + q.toNat, code⟩]
    (∀ c late, u.state = .tripped c late →
      ((∀ cl, u.station.closed = some cl → cl.status ≠ .fault) →
        exec (.unitClear p tag o q) s = .next ((moved { u with
          state := .resting, next := some ⟨.stop, s.setpointFor l⟩,
          rest := .counting x.rest x.rest 1 } 3).hand p (replyFrame tag 16 .done []))) ∧
      (∀ cl, u.station.closed = some cl → cl.status = .fault →
        exec (.unitClear p tag o q) s = .next (s.hand p (replyFrame tag 16 .refusedState [])))) ∧
    (u.state = .off ∨ u.state = .resting ∨ (∃ c late, u.state = .tripped c late) →
      exec (.unitDisable p tag o q) s
        = .next ((moved { u with state := .out } 1).hand p (replyFrame tag 32 .done []))) ∧
    (u.state = .out → u.rest ≠ .idle →
      exec (.unitEnable p tag o q) s = .next ((moved { u with
        state := .resting, next := some ⟨.stop, s.setpointFor l⟩ } 3).hand p
          (replyFrame tag 33 .done []))) ∧
    (u.state = .out → u.rest = .idle →
      exec (.unitEnable p tag o q) s
        = .next ((moved { u with state := .off } 2).hand p (replyFrame tag 33 .done [])))

/-! ## Unit Timer Bank (08) -/

/-- TIMER_PERIOD_SET replaces one setting of one ladder, a period of 0 by 1, and touches no timer; TIMER_RELOAD
restarts the count of a timer that is COUNTING from the setting in force, keeping its pass, and refuses one that is
IDLE. -/
def Obligations.TimerSettings : Prop :=
  ∀ (p : Port) (tag o kc : Octet) (l : LadderId) (k : TimerKind) (s : State), s.Ready p → ladderOfCode o = some l →
    TimerKind.ofCode kc = some k →
    let n := (s.seq.ladder l).periods.get k
    (∀ v : Half, ∃ x : Periods,
      exec (.timerPeriodSet p tag o kc v) s
        = .next ((s.onLadder l fun L => { L with periods := x }).hand p
            (replyFrame tag 8 (if v = 0 then .doneClamped else .done) (be 2 (max 1 v.toNat)))) ∧
      x.get k = max 1 v.toNat ∧ ∀ j, j ≠ k → x.get j = (s.seq.ladder l).periods.get j) ∧
    (∀ q : Octet, k = .up → (∀ r m a, (s.seq.ladder l).up = .counting r m a →
        exec (.timerReload p tag o q kc) s = .next ((s.onLadder l fun L => { L with up := .counting n n a }).hand p
          (replyFrame tag 9 .done (be 2 n)))) ∧
      ((s.seq.ladder l).up = .idle →
        exec (.timerReload p tag o q kc) s = .next (s.hand p (replyFrame tag 9 .refusedState [])))) ∧
    (∀ q : Octet, k = .down → (∀ r m a, (s.seq.ladder l).down = .counting r m a →
        exec (.timerReload p tag o q kc) s = .next ((s.onLadder l fun L => { L with down := .counting n n a }).hand p
          (replyFrame tag 9 .done (be 2 n)))) ∧
      ((s.seq.ladder l).down = .idle →
        exec (.timerReload p tag o q kc) s = .next (s.hand p (replyFrame tag 9 .refusedState [])))) ∧
    ∀ (q : Octet) (u : PlantUnit), k ≠ .up → k ≠ .down → 1 ≤ q.toNat → q.toNat ≤ ladderSize l →
      s.unit? l q.toNat = some u → p = .panel ∨ u.guard = .anyone →
      (∀ r m a, u.timer k = .counting r m a →
        exec (.timerReload p tag o q kc) s
          = .next ((s.setUnit l q.toNat (some (u.setTimer k (.counting n n a)))).hand p
              (replyFrame tag 9 .done (be 2 n)))) ∧
      (u.timer k = .idle →
        exec (.timerReload p tag o q kc) s = .next (s.hand p (replyFrame tag 9 .refusedState [])))

/-- SECOND_MARK: every COUNTING timer has one second less, every IDLE one stays, the day clock goes on by one second,
and nothing else changes. A count at 0 waits for its expiry row (log 8) and a boundary reached for its own (log 9):
the model's choices. -/
def Obligations.SecondMarkCounts : Prop :=
  ∀ s : State, s.rst = false →
    ∃ t : State, exec .secondMark s = .next t ∧ t = { s with seq := t.seq, store := t.store } ∧
      t.seq.waiting = s.seq.waiting ∧ t.seq.inputHold = s.seq.inputHold ∧
      (∀ l, t.seq.ladder l = { s.seq.ladder l with
          units := (t.seq.ladder l).units, up := (s.seq.ladder l).up.tick, down := (s.seq.ladder l).down.tick } ∧
        ∀ n, t.unit? l n = (s.unit? l n).map fun u =>
          { u with prove := u.prove.tick, stop := u.stop.tick, run := u.run.tick, rest := u.rest.tick }) ∧
      (∀ r m a, Timer.tick (.counting r m a) = .counting (r - 1) m a) ∧ Timer.tick .idle = .idle ∧
      (s.store.clock = none → t.store = s.store) ∧
      ∀ c, s.store.clock = some c → ∃ c' : Clock, t.store = { s.store with
          clock := some c', boundaryDue := t.store.boundaryDue } ∧
        (c.minute ≤ 1439 → c.second ≤ 59 →
          c'.minute * 60 + c'.second = (c.minute * 60 + c.second + 1) % 86400 ∧ c'.second ≤ 59) ∧
        (t.store.boundaryDue = true ↔ s.store.boundaryDue = true ∨
          (59 ≤ c.second ∧ ∃ w ∈ s.store.active, w.start = c'.minute))

/-- PROVE_EXPIRY, the count having run out (log 8), for a unit in STARTING or HAND-run: at pass 1 PROVE_SLOW is
appended, the second pass starts with the latched period and nothing else changes; at pass 2 the unit is TRIPPED with
NO_PROOF, its demand STOP and its timers cancelled; a pump that so leaves HAND-run, the last in service, brings the
flow-loss stop of the chillers (R128). -/
def Obligations.ProveExpiryTrips : Prop :=
  ∀ (l : LadderId) (n m : Nat) (u : PlantUnit) (s : State), s.rst = false → 1 ≤ n → n ≤ ladderSize l →
    s.unit? l n = some u → u.state = .starting ∨ u.state = .hand .run →
    (u.prove = .counting 0 m 1 →
      exec (.proveExpiry l n) s = .next ((s.setUnit l n (some { u with prove := .counting m m 2 })).notes
        [⟨.proveSlow, ladderSubject l + n, 1⟩])) ∧
    (u.prove = .counting 0 m 2 →
      ∃ t : State, exec (.proveExpiry l n) s = .next t ∧ t = { s with seq := t.seq, events := t.events } ∧
        t.unit? l n = some { u with
          state := .tripped .noProof false, next := some ⟨.stop, s.setpointFor l⟩, prove := .idle,
          stop := .idle, run := .idle } ∧
        n ∉ (t.seq.ladder l).stack ∧ (l = .pump → s.fc.shadow = false → s.PumpLeaves n u t))

/-- STOP_EXPIRY, RUN_EXPIRY and REST_EXPIRY, the count having run out: a STOPPING unit trips with NO_STOP; a RUN timer
turns idle and, at the top of a stack whose stage-down waits, lets it stop the top, unless the ladder is held; a
RESTING unit enters OFF and a unit in HAND or OUT stays where it is. A timer that has not run out makes the expiry
void (log 3, log 8). And what readings do, at CYCLE_END, with both ladders held so that no staging follows: in live
mode a unit is judged by R113's table, a chiller so while some pump goes on running, a pump that proves carries out a
waiting chiller start, and when the last pump in service leaves it (by its top's stage-down too) every chiller in
STARTING, RUNNING or HAND is first taken to STOPPING by the flow-loss stop (R128), as is one that comes out of LOCAL
with no pump in service (R118); in shadow mode it is tracked by its closed reading (R130). A HAND unit's judgement is
log 30's reading, PROOF_LATE's log 17's. That a demand written here carries the setpoint as the calculator leaves it,
its work coming before the judgement, is the model's order (log 6). -/
def Obligations.StopRunRestExpiries : Prop :=
  (∀ (l : LadderId) (n m a : Nat) (u : PlantUnit) (s : State), s.rst = false → 1 ≤ n → n ≤ ladderSize l →
    s.unit? l n = some u →
    (u.stop = .counting 0 m a → u.state = .stopping →
      ∃ t : State, exec (.stopExpiry l n) s = .next t ∧
        t = { s with seq := t.seq, events := (s.notes [⟨.unitState, ladderSubject l + n, 7⟩,
          ⟨.unitTrip, ladderSubject l + n, 3⟩]).events } ∧
        t.unit? l n = some { u with
          state := .tripped .noStop false, next := some ⟨.stop, s.setpointFor l⟩, prove := .idle,
          stop := .idle, run := .idle } ∧
        ∀ l' k, (l', k) ≠ (l, n) → t.unit? l' k = s.unit? l' k) ∧
    (u.run = .counting 0 m a →
      ((s.seq.ladder l).downPending = false ∨ u.state ≠ .running ∨ (s.seq.ladder l).stack.getLast? ≠ some n ∨
          (s.seq.ladder l).requestHold = true ∨ s.seq.inputHold = true →
        exec (.runExpiry l n) s = .next (s.setUnit l n (some { u with run := .idle }))) ∧
      ((s.seq.ladder l).downPending = true → u.state = .running → (s.seq.ladder l).stack.getLast? = some n →
        (s.seq.ladder l).requestHold = false → s.seq.inputHold = false → s.fc.shadow = false →
        ∃ t : State, exec (.runExpiry l n) s = .next t ∧ t = { s with seq := t.seq, events := t.events } ∧
          t.unit? l n = some { u with
            state := .stopping, next := some ⟨.stop, s.setpointFor l⟩, prove := .idle, run := .idle,
            stop := .counting (s.seq.ladder l).periods.stop (s.seq.ladder l).periods.stop 1 } ∧
          n ∉ (t.seq.ladder l).stack ∧ (t.seq.ladder l).downPending = false ∧ (t.seq.ladder l).down = .idle ∧
          (l = .pump → s.PumpLeaves n u t))) ∧
    (u.rest = .counting 0 m a → u.state = .resting →
      exec (.restExpiry l n) s = .next ((s.setUnit l n (some { u with rest := .idle, state := .off })).notes
        [⟨.unitState, ladderSubject l + n, 2⟩])) ∧
    (u.rest = .counting 0 m a → u.state ≠ .resting →
      exec (.restExpiry l n) s = .next (s.setUnit l n (some { u with rest := .idle }))) ∧
    (u.stop.ranOut = false → exec (.stopExpiry l n) s = .next s) ∧
    (u.run.ranOut = false → exec (.runExpiry l n) s = .next s) ∧
    (u.rest.ranOut = false → exec (.restExpiry l n) s = .next s)) ∧
  ∀ s : State, s.CycleEndDue → (∀ l, (s.seq.ladder l).requestHold = true ∨ s.seq.inputHold = true) →
    let judged : LadderId → Bool → PlantUnit → Moves := fun l latch u =>
      if u.station.joined then u.unmoved else u.judged (s.seq.ladder l).periods latch
    let flowLost := s.fc.shadow = false ∧ (s.seq.pumps.serves = true ∨ s.stoppableChillers = 0) ∧
      ∀ n u, s.unit? .pump n = some u → n ≤ 6 ∧
        (judged .pump s.inputs.stopLatch u).state ≠ .running ∧ (judged .pump s.inputs.stopLatch u).state ≠ .hand .run
    ∃ t : State, exec .cycleEnd s = .next t ∧
      (flowLost → s.seq.pumps.serves = true →
        s.Appends t ⟨s.fc.count, 65, ⟨.flowLossStop, 200, s.stoppableChillers⟩⟩) ∧
      (flowLost → ∀ n u, n ≤ 8 → s.unit? .chiller n = some u → ∃ v, t.unit? .chiller n = some v ∧
        let w := if u.stoppable then u.stopped s.seq.chillers.periods s.limits.supplySet else u
        let m := judged .chiller true w
        v.Shows m ∧
        v.next.map (·.demand) = (match m.demand with
          | some d => some d
          | none => w.next.map (·.demand)) ∧
        (u.stacked = true → n ∉ t.seq.chillers.stack)) ∧
      ∀ l n u, n ≤ ladderSize l → s.unit? l n = some u → ∃ v, t.unit? l n = some v ∧
        (s.fc.shadow = false → l = .pump ∨ s.PumpStays →
          let m := judged l s.inputs.stopLatch u
          v.Shows m ∧
          (∀ d, m.demand = some d → v.next = some ⟨d, t.setpointFor l⟩) ∧
          (m.demand = none → v.next.map (·.demand) = u.next.map (·.demand)) ∧
          (u.stacked = true → v.stacked = false → n ∉ (t.seq.ladder l).stack) ∧
          (u.state = .localCtl → v.state = .running → n ∈ (t.seq.ladder l).stack) ∧
          (l = .pump → u.state = .starting → v.state = .running → s.seq.waiting = true →
            t.seq.waiting = false ∧ t.seq.chillers.upPending = true)) ∧
        (s.fc.shadow = true →
          v.prove = u.prove ∧ v.stop = u.stop ∧ v.run = u.run ∧ v.rest = u.rest ∧
          v.state = (match u.station.joined, v.station.values, u.state with
            | false, some x, .off => if x.proof then .running else .off
            | false, some x, .running => if x.proof then .running else .off
            | _, _, st => st) ∧
          (v.state = u.state → v.intent = u.intent) ∧
          (v.state ≠ u.state → v.intent = none ∧
            v.next = some ⟨if v.state = .running then .run else .stop, t.setpointFor l⟩ ∧
            (n ∈ (t.seq.ladder l).stack ↔ v.state = .running)))

/-- UP_EXPIRY and DOWN_EXPIRY, the count having run out (log 8), and the evaluation at CYCLE_END that starts both
timers. UP sets up pending and acts by R125: held or latched, or with a unit starting, nothing starts; with no OFF
unit SHORT_CAPACITY is set; a chiller with no pump in service waits for a pump start, tried at once (R126); otherwise
the first OFF unit enters STARTING on top of the stack with PROVE at pass 1. DOWN stops the top of the stack when its
minimum run is over, with the flow-loss stop when it is the last pump (R128), and holds back for a young one or a
hold; an empty stack clears it (held too, log 16). In shadow mode either records an intent instead. The evaluation of
one ladder, the other held and no unit heard, in live mode: R122's or R123's figures and conditions, then R124's
table; a pump without values counts speed 0 (the model's choice, log 28). -/
def Obligations.UpStartsDownStops : Prop :=
  (∀ (l : LadderId) (m a : Nat) (s : State), s.rst = false →
    let L := s.seq.ladder l
    let free := L.requestHold = false ∧ s.seq.inputHold = false
    let first := fun (k : LadderId) (n : Nat) (u : PlantUnit) => s.unit? k n = some u ∧ u.state = .off ∧
      ∀ j v, j < n → s.unit? k j = some v → v.state ≠ .off
    let started := fun (k : LadderId) (n : Nat) (u : PlantUnit) (t : State) =>
      ((t.setUnit k n (some { u with
        state := .starting, next := some ⟨.run, s.setpointFor k⟩,
        prove := .counting (s.seq.ladder k).periods.prove (s.seq.ladder k).periods.prove 1 })).onLadder k
          fun M => { M with up := .idle, upPending := false, stack := M.stack ++ [n] }).notes
        [⟨.unitState, ladderSubject k + n, 4⟩]
    (L.up = .counting 0 m a →
      (L.requestHold = true ∨ s.seq.inputHold = true ∨ s.inputs.stopLatch = true ∨ L.hasStarting = true →
        exec (.upExpiry l) s = .next (s.onLadder l fun M => { M with up := .idle, upPending := true })) ∧
      (free → s.inputs.stopLatch = false → L.hasStarting = false →
        ((∀ k u, s.unit? l k = some u → u.state ≠ .off) →
          exec (.upExpiry l) s
            = .next ((s.onLadder l fun M => { M with up := .idle, upPending := true, shortCap := true }).notes
                (if L.shortCap then [] else [⟨.shortCapacityOn, ladderSubject l, L.stack.length⟩]))) ∧
        ∀ n u, first l n u → L.shortCap = false →
          (s.fc.shadow = true →
            exec (.upExpiry l) s = .next (((s.setUnit l n (some { u with intent := some .start })).onLadder l
              fun M => { M with up := .idle, upPending := false, lastIntent := some ⟨.start, n, s.fc.count⟩ }).notes
              [⟨.intent, ladderSubject l, n⟩])) ∧
          (s.fc.shadow = false → l = .pump ∨ s.seq.pumps.serves = true →
            exec (.upExpiry l) s = .next (started l n u s)) ∧
          (s.fc.shadow = false → l = .chiller → s.seq.pumps.serves = false →
            let waits : State := { s with seq := { s.seq with
              chillers := { s.seq.chillers with up := .idle, upPending := false }, waiting := true,
              pumps := { s.seq.pumps with upPending := true } } }
            (s.seq.pumps.requestHold = true ∨ s.seq.pumps.hasStarting = true →
              exec (.upExpiry l) s = .next waits) ∧
            (s.seq.pumps.requestHold = false → s.seq.pumps.hasStarting = false →
              ((∀ k v, s.unit? .pump k = some v → v.state ≠ .off) →
                exec (.upExpiry l) s
                  = .next ((waits.onLadder .pump fun M => { M with shortCap := true }).notes
                      (if s.seq.pumps.shortCap then [] else [⟨.shortCapacityOn, 200, s.seq.pumps.stack.length⟩]))) ∧
              ∀ k v, first .pump k v → s.seq.pumps.shortCap = false →
                exec (.upExpiry l) s = .next (started .pump k v waits))))) ∧
    (L.down = .counting 0 m a → L.stack = [] →
      exec (.downExpiry l) s = .next (s.onLadder l fun M => { M with down := .idle, downPending := false })) ∧
    (L.down = .counting 0 m a → L.stack ≠ [] → L.requestHold = true ∨ s.seq.inputHold = true →
      exec (.downExpiry l) s = .next (s.onLadder l fun M => { M with down := .idle, downPending := true })) ∧
    (L.down = .counting 0 m a → free → ∀ n u, L.stack.getLast? = some n → s.unit? l n = some u →
      (s.fc.shadow = true → u.state = .running →
        exec (.downExpiry l) s = .next (((s.setUnit l n (some { u with intent := some .stop })).onLadder l
          fun M => { M with down := .idle, downPending := false, lastIntent := some ⟨.stop, n, s.fc.count⟩ }).notes
          [⟨.intent, ladderSubject l, -(n : Int)⟩])) ∧
      (s.fc.shadow = false →
        (u.state = .starting ∨ (u.state = .running ∧ u.run ≠ .idle) →
          exec (.downExpiry l) s = .next (s.onLadder l fun M => { M with down := .idle, downPending := true })) ∧
        (u.state = .running → u.run = .idle →
          ∃ t : State, exec (.downExpiry l) s = .next t ∧ t = { s with seq := t.seq, events := t.events } ∧
            t.unit? l n = some { u with
              state := .stopping, next := some ⟨.stop, s.setpointFor l⟩, prove := .idle, run := .idle,
              stop := .counting L.periods.stop L.periods.stop 1 } ∧
            n ∉ (t.seq.ladder l).stack ∧ (t.seq.ladder l).downPending = false ∧
            (t.seq.ladder l).down = .idle ∧ (l = .pump → s.PumpLeaves n u t))))) ∧
  ∀ (l : LadderId) (s : State), s.CycleEndDue → s.fc.shadow = false → s.seq.inputHold = false →
    (s.seq.ladder l).requestHold = false → (∀ k, k ≠ l → (s.seq.ladder k).requestHold = true) →
    (∀ k n u, s.unit? k n = some u → u.station.joined = true ∨ (u.station.cycle = none ∧ u.station.faultMark = false)) →
    let L := s.seq.ladder l
    ∃ t : State, exec .cycleEnd s = .next t ∧
      let M := t.seq.ladder l
      M.figures.load = t.load.lStage ∧ M.figures.count = s.fc.count ∧ M.figures.running = L.stack.length ∧
      (l = .chiller →
        M.figures.cRun = (L.units.map fun u => match u with
          | some v => if v.state = .running ∨ (v.state = .hand .run ∧ v.prove = .idle) then v.capacity else 0
          | none => 0).sum ∧
        M.figures.capTop = ((L.stack.getLast?.bind (s.unit? .chiller)).map (·.capacity)).getD 0 ∧
        M.figures.tsupUsed = !t.press.headerStale ∧
        (M.figures.up = true ↔ M.figures.cRun * s.limits.upPct < t.load.lStage * 100 ∨
          (t.press.headerStale = false ∧ s.limits.supplySet + s.limits.supplyBand
            < ((t.header.bind fun h => h.station.values).map (·.tsup)).getD 0)) ∧
        (M.figures.down = true ↔ M.figures.up = false ∧
          ((2 ≤ L.stack.length ∧ t.load.lStage * 100 < (M.figures.cRun - M.figures.capTop) * s.limits.downPct) ∨
            (t.load.lStage = 0 ∧ L.stack ≠ [])))) ∧
      (l = .pump →
        let us := L.units.filterMap fun u => u.filter fun v => decide (v.state = .running)
        M.figures.pumps = us.length ∧
        M.figures.speed = (us.map fun u => (u.station.values.map (·.value)).getD 0).sum / us.length ∧
        (M.figures.up = true ↔ (us ≠ [] ∧ s.limits.pumpUp ≤ M.figures.speed) ∨
          (s.seq.waiting = true ∧ L.serves = false)) ∧
        (M.figures.down = true ↔ M.figures.up = false ∧ 2 ≤ L.stack.length ∧ us ≠ [] ∧
          M.figures.speed ≤ s.limits.pumpDown)) ∧
      (M.figures.up = false → M.up = .idle ∧ M.upPending = false ∧ M.shortCap = false ∧
        (l = .chiller → t.seq.waiting = false)) ∧
      (M.figures.up = true → L.upPending = false → M.upPending = false ∧
        M.up = (if L.up = .idle then .counting L.periods.up L.periods.up 1 else L.up)) ∧
      (M.figures.up = true → L.upPending = true →
        (s.inputs.stopLatch = true ∨ L.hasStarting = true → M.upPending = true ∧ M.up = L.up) ∧
        (s.inputs.stopLatch = false → L.hasStarting = false →
          ((∀ k u, s.unit? l k = some u → u.state ≠ .off) → M.upPending = true ∧ M.shortCap = true) ∧
          ∀ n u, s.unit? l n = some u → u.state = .off → (∀ j v, j < n → s.unit? l j = some v → v.state ≠ .off) →
            l = .pump ∨ s.seq.pumps.serves = true →
            M.upPending = false ∧ M.up = .idle ∧ M.shortCap = false ∧ M.stack = L.stack ++ [n] ∧
            ∃ v, t.unit? l n = some v ∧ v.state = .starting ∧ v.next = some ⟨.run, t.setpointFor l⟩ ∧
              v.prove = .counting L.periods.prove L.periods.prove 1)) ∧
      (M.figures.down = false → M.down = .idle ∧ M.downPending = false) ∧
      (M.figures.down = true → L.downPending = false → M.downPending = false ∧
        M.down = (if L.down = .idle then .counting L.periods.down L.periods.down 1 else L.down)) ∧
      (M.figures.down = true → L.downPending = true → ∀ n u, L.stack.getLast? = some n → s.unit? l n = some u →
        (u.state = .starting ∨ (u.state = .running ∧ u.run ≠ .idle) → M.downPending = true ∧ M.down = L.down) ∧
        (u.state = .running → u.run = .idle →
          M.downPending = false ∧ M.down = .idle ∧ n ∉ M.stack ∧
          ∃ v, t.unit? l n = some v ∧ v.state = .stopping ∧ v.next = some ⟨.stop, t.setpointFor l⟩ ∧
            v.stop = .counting L.periods.stop L.periods.stop 1))

/-! ## Thermal Storage Scheduling (09) -/

/-- TIME_SET: the clock takes the clamped time at once, both schedules stand and no boundary is reached; one that a
mark has reached already waits for its own row (the model's flag, log 9). The mode is then evaluated: HOLD at rate 0
without an available storage branch or a current window, or when FULL bars a CHARGE window or EMPTY a DISCHARGE one,
and otherwise the window's mode at the smaller of its rate and the descriptor's limit. The current window is the
latest that has started, or, before the first start of the day, the last of the schedule, which runs across midnight.
Mode and rate are written into the STORAGE record's next command block unless the record is AWAITING, and nothing else
changes. -/
def Obligations.TimeSetEvaluates : Prop :=
  ∀ (p : Port) (tag : Octet) (minute : Half) (second : Octet) (s : State), s.Ready p →
    ∃ t : State, exec (.timeSet p tag minute second) s
        = .next (t.hand p (replyFrame tag 12
            (if minute.toNat ≤ 1439 ∧ second.toNat ≤ 59 then .done else .doneClamped) [])) ∧
      ModeEvaluated { s.store with clock := some ⟨min 1439 minute.toNat, min 59 second.toNat⟩ } s t

/-- WINDOW_SET, WINDOW_RELOAD and WINDOW_BOUNDARY: an accepted WINDOW_SET sorts its windows by start minute and makes
them active at once when the clock is UNSET or no schedule is active, staged otherwise; WINDOW_RELOAD makes a staged
schedule active and is refused without one; a boundary a second mark has reached (the model's flag, log 9) adopts a
staged schedule. A schedule made active, or a boundary, evaluates the mode as TIME_SET does, with its write. With no
boundary reached WINDOW_BOUNDARY changes nothing (the model's choice, log 3). -/
def Obligations.SchedulesPlaced : Prop :=
  (∀ (p : Port) (tag : Octet) (ws : List TariffWindow) (s : State), s.Ready p → ws.length ≤ 8 →
    (∀ w ∈ ws, w.Valid) → (ws.map (·.start)).Nodup →
    p = .panel ∨ (∀ i b, s.storage = some (i, b) → b.desc.guard = .anyone) →
    ∃ (t : State) (sorted : List TariffWindow), sorted.Perm ws ∧ (sorted.map (·.start)).Pairwise (· < ·) ∧
      exec (.windowSet p tag (oct ws.length) (ws.flatMap TariffWindow.octets)) s
        = .next (t.hand p (replyFrame tag 10 .done
            [if s.store.clock = none ∨ s.store.active = [] then 0 else 1])) ∧
      (s.store.clock = none ∨ s.store.active = [] →
        ModeEvaluated { s.store with active := sorted, staged := none } s t) ∧
      (s.store.clock ≠ none → s.store.active ≠ [] →
        t = { s with store := { s.store with staged := some sorted } })) ∧
  (∀ (p : Port) (tag : Octet) (s : State), s.Ready p →
    p = .panel ∨ (∀ i b, s.storage = some (i, b) → b.desc.guard = .anyone) →
    (s.store.staged = none →
      exec (.windowReload p tag) s = .next (s.hand p (replyFrame tag 11 .refusedState []))) ∧
    ∀ ws, s.store.staged = some ws →
      ∃ t : State, exec (.windowReload p tag) s = .next (t.hand p (replyFrame tag 11 .done [])) ∧
        ModeEvaluated { s.store with active := ws, staged := none, boundaryDue := t.store.boundaryDue } s t) ∧
  ∀ s : State, s.rst = false →
    (s.store.boundaryDue = false → exec .windowBoundary s = .next s) ∧
    (s.store.boundaryDue = true →
      ∃ t : State, exec .windowBoundary s = .next t ∧
        ModeEvaluated { s.store with
          active := s.store.staged.getD s.store.active, staged := none, boundaryDue := false } s t)

/-! ## Discrete Inputs and the Event List (10) -/

/-- CHANNEL_SET: the edge selection and the action are replaced, the record, the pending flag and the taken level are
kept, the input hold is brought up to date, and the STOP latch is left alone unless the channel is now a STOP_ALL one
with its input active; the supervisory port is refused a STOP_ALL channel or action. -/
def Obligations.ChannelSetKeepsRecord : Prop :=
  ∀ (p : Port) (tag n ec ac : Octet) (c : Channel) (e : Edge) (a : Action) (s : State), s.Ready p →
    s.inputs.channel n.toNat = some c → Edge.ofCode ec = some e → Action.ofCode ac = some a →
    (p = .supervisory → c.action = .stopAll ∨ a = .stopAll →
      exec (.channelSet p tag n ec ac) s = .next (s.hand p (replyFrame tag 13 .refusedRank []))) ∧
    (p = .panel ∨ (c.action ≠ .stopAll ∧ a ≠ .stopAll) →
      a ≠ .stopAll ∨ ({ c with edge := e } : Channel).active = false ∨ s.inputs.stopLatch = true →
      let x := s.inputs.setChannel n.toNat { c with edge := e, action := a }
      exec (.channelSet p tag n ec ac) s
        = .next (({ s with
            inputs := x,
            seq := { s.seq with
              inputHold := x.channels.any fun y => decide (y.action = .holdStage) && y.active } } : State).hand p
              (replyFrame tag 13 .done [])))

/-- READ_CAPTURE (R162): the record and the pending flag as they stood are answered, then the pending flag and
OVERWRITTEN are cleared and the record is kept; a channel without a record is refused, and so is one outside 1 to 8.
-/
def Obligations.CaptureReadOnce : Prop :=
  ∀ (p : Port) (tag n : Octet) (s : State), s.Ready p → s.inputs.channels.length = 8 →
    (n.toNat = 0 ∨ 8 < n.toNat →
      exec (.readCapture p tag n) s = .next (s.hand p (replyFrame tag 30 .refusedIndex []))) ∧
    ∀ c, s.inputs.channel n.toNat = some c →
      (c.record = none → exec (.readCapture p tag n) s = .next (s.hand p (replyFrame tag 30 .refusedAbsent []))) ∧
      ∀ r, c.record = some r →
        exec (.readCapture p tag n) s
          = .next (({ s with
              inputs := s.inputs.setChannel n.toNat
                { c with record := some { r with overwritten := false }, pending := false } } : State).hand p
            (replyFrame tag 30 .done (be 4 r.count.toNat ++
              [oct (r.position.getD 255), if r.rising then 1 else 2, if r.overwritten then 1 else 0,
                if c.pending then 1 else 0])))

/-- RELEASE_STOP (R165): refused on the supervisory port; on the panel port refused while a STOP_ALL channel has its
input active; otherwise a set latch is cleared with STOP_LATCH_OFF, subject 300, detail 0, a clear one is left, no
unit changes, and the reply is DONE. -/
def Obligations.StopReleased : Prop :=
  ∀ (tag : Octet) (s : State),
    (s.Ready .supervisory →
      exec (.releaseStop .supervisory tag) s = .next (s.hand .supervisory (replyFrame tag 19 .refusedRank []))) ∧
    (s.Ready .panel →
      ((∃ c ∈ s.inputs.channels, c.action = .stopAll ∧ c.active = true) →
        exec (.releaseStop .panel tag) s = .next (s.hand .panel (replyFrame tag 19 .refusedState []))) ∧
      ((∀ c ∈ s.inputs.channels, c.action = .stopAll → c.active = false) →
        (s.inputs.stopLatch = true →
          exec (.releaseStop .panel tag) s
            = .next ((({ s with inputs := { s.inputs with stopLatch := false } } : State).notes
                [⟨.stopLatchOff, 300, 0⟩]).hand .panel (replyFrame tag 19 .done []))) ∧
        (s.inputs.stopLatch = false →
          exec (.releaseStop .panel tag) s = .next (s.hand .panel (replyFrame tag 19 .done [])))))

/-- READ_EVENTS (R167): the oldest records, up to eight, leave the list and are answered in order, with DISCARDED and
the discarded count as they stood and the number of records left; then both are cleared. ATTN (R168) is asserted
exactly while the list holds a record or a channel is pending, so a read that empties the list releases it unless a
capture is pending. -/
def Obligations.EventsDrained : Prop :=
  (∀ s : State, s.attn = true ↔ s.events.records ≠ [] ∨ ∃ c ∈ s.inputs.channels, c.pending = true) ∧
  ∀ (p : Port) (tag : Octet) (s : State), s.Ready p → s.events.records.length ≤ 64 →
    ∃ taken left, s.events.records = taken ++ left ∧ taken.length = min 8 s.events.records.length ∧
      let t : State := { s with events := { records := left, discarded := false, discardedCount := 0 } }
      exec (.readEvents p tag) s
        = .next (t.hand p
            (replyFrame tag 29 .done ([if s.events.discarded then 1 else 0] ++ be 2 s.events.discardedCount
              ++ [oct left.length, oct taken.length] ++ taken.flatMap EventRecord.octets))) ∧
      (s.events.records.length ≤ 8 → (∀ c ∈ s.inputs.channels, c.pending = false) → t.attn = false)

/-- INPUT_EDGE on IN1 to IN6: a change the channel captures writes the record, stamped with the count and the
position, sets pending, marks an overwrite and appends CAPTURE; a change it does not capture moves only the taken
level. The pins are a field of the model, and that any level on IN7 or IN8 moves only the pin is its choice (log 21);
so is that an edge without a change of level is void but for the pin (log 3). -/
def Obligations.EdgeCaptured : Prop :=
  ∀ (n : Nat) (high : Bool) (s : State), s.rst = false → 1 ≤ n → n ≤ 8 →
    let pinned : Inputs := { s.inputs with pins := s.inputs.pins.set (n - 1) high }
    (7 ≤ n → exec (.inputEdge n high) s = .next { s with inputs := pinned }) ∧
    ∀ c, n ≤ 6 → s.inputs.channel n = some c →
      let held : Inputs → Bool := fun x => x.channels.any fun y => decide (y.action = .holdStage) && y.active
      let after : Channel → State := fun c' =>
        { s with inputs := pinned.setChannel n c', seq := { s.seq with inputHold := held (pinned.setChannel n c') } };
      (c.level = high → exec (.inputEdge n high) s = .next { s with inputs := pinned }) ∧
      (c.level ≠ high → c.edge.captures high = false →
        exec (.inputEdge n high) s = .next (after { c with level := high })) ∧
      (c.level ≠ high → c.edge.captures high = true →
        c.action ≠ .stopAll ∨ ({ c with level := high } : Channel).active = false ∨ s.inputs.stopLatch = true →
        exec (.inputEdge n high) s
          = .next ((after { c with
              level := high, pending := true, record := some ⟨s.fc.count, some s.fc.position, high, c.pending⟩ }).notes
              [⟨.capture, 300 + n, (if high then 1 else -1) * (if c.pending then 2 else 1)⟩]))

/-- The STOP latch set by an edge of a STOP_ALL channel, with STOP_LATCH_ON after CAPTURE, or by a CHANNEL_SET that
makes a channel STOP_ALL with its input active: the STOP lamp is lit; in live mode no unit of either ladder is left in
STARTING, RUNNING or HAND; every unit that was is in STOPPING with demand STOP; both stacks are empty of them; the
last pump in service brings FLOW_LOSS_STOP with the number of chillers in those states (R128); every other unit keeps
its state. In shadow mode no unit changes. -/
def Obligations.StopLatchStopsAll : Prop :=
  ∀ s : State, s.rst = false → s.inputs.stopLatch = false →
    let stopped : State → Prop := fun t =>
      (s.fc.shadow = true → ∀ l, t.seq.ladder l = s.seq.ladder l) ∧
      (s.fc.shadow = false → s.seq.pumps.serves = true →
        s.Appends t ⟨s.fc.count, s.fc.position, ⟨.flowLossStop, 200, s.stoppableChillers⟩⟩) ∧
      (s.fc.shadow = false → ∀ l m,
        (∀ u, s.unit? l m = some u → u.stoppable = true →
          ∃ u', t.unit? l m = some u' ∧ u'.state = .stopping ∧
            u'.next = some ⟨.stop, s.setpointFor l⟩ ∧ u'.prove = .idle ∧ u'.run = .idle ∧
            u'.stop = .counting (s.seq.ladder l).periods.stop (s.seq.ladder l).periods.stop 1 ∧
            m ∉ (t.seq.ladder l).stack) ∧
        (∀ u, s.unit? l m = some u → u.stoppable = false → t.unit? l m = some u) ∧
        (s.unit? l m = none → t.unit? l m = none))
    (∀ (n : Nat) (high : Bool) (c : Channel), 1 ≤ n → n ≤ 6 → s.inputs.channel n = some c → c.level ≠ high →
      c.edge.captures high = true → c.action = .stopAll → ({ c with level := high } : Channel).active = true →
      ∃ (t : State) (rs : List EventRecord), exec (.inputEdge n high) s = .next t ∧
        t.inputs.stopLatch = true ∧ t.stopLamp = true ∧
        t = { s with inputs := t.inputs, seq := t.seq, events := t.events } ∧
        t.events = rs.foldl EventList.append (s.notes
          [⟨.capture, 300 + n, (if high then 1 else -1) * (if c.pending then 2 else 1)⟩,
            ⟨.stopLatchOn, 300 + n, 1⟩]).events ∧
        stopped t) ∧
    ∀ (tag n ec ac : Octet) (c : Channel) (e : Edge), s.Ready .panel → s.inputs.channel n.toNat = some c →
      Edge.ofCode ec = some e → Action.ofCode ac = some .stopAll → ({ c with edge := e } : Channel).active = true →
      ∃ (t : State) (rs : List EventRecord),
        exec (.channelSet .panel tag n ec ac) s = .next (t.hand .panel (replyFrame tag 13 .done [])) ∧
        t.inputs = { s.inputs.setChannel n.toNat { c with edge := e, action := .stopAll } with stopLatch := true } ∧
        t.stopLamp = true ∧ t = { s with inputs := t.inputs, seq := t.seq, events := t.events } ∧
        t.events = rs.foldl EventList.append (s.notes [⟨.stopLatchOn, 300 + n.toNat, 2⟩]).events ∧ stopped t

/-! ## Cycle end and readings-closed (02, R38, R39; 01, 03, 04, 05) -/

/-- CYCLE_END: the position becomes 65, the tallies are kept as the last cycle's, and the FIELD lamp changes state
when anything answered and goes off when nothing did; the rest of the controller, the ports, the inputs, the limits
and the snapshot stand. The load is published: L_cons from every CONSUMER metered, the storage term by the mode that
stood, L_stage their sum held above 0, in kW. The STORAGE record's charge moves by the power of a fresh cycle times Tc
in the direction reported, between 0 and capacity, and stands otherwise. FULL and EMPTY follow the charge with their
events, CHARGE at FULL and DISCHARGE at EMPTY turn to HOLD at rate 0 (R155), stamped and noted (log 27), and the mode
is evaluated exactly when the record's availability changed (R154). Its next command block takes the mode and the rate
unless it is AWAITING or joined in the cycle (R153). That an evaluation's STORAGE_MODE record is the last of the cycle
end, the scheduler working after the sequencer, is the model's order (log 6). -/
def Obligations.CycleEndTallies : Prop :=
  ∀ s : State, s.CycleEndDue → ∃ t : State, exec .cycleEnd s = .next t ∧
    t = { s with fc := t.fc, branches := t.branches, header := t.header, load := t.load, press := t.press,
                 seq := t.seq, store := t.store, events := t.events } ∧
    t.fc = { s.fc with
      position := 65, lineOut := [], lastGood := s.fc.good, lastMisses := s.fc.misses,
      lamp := (if s.fc.good = 0 then false else !s.fc.lamp) } ∧
    t.seq.inputHold = s.seq.inputHold ∧ t.store.clock = s.store.clock ∧ t.store.active = s.store.active ∧
    t.store.staged = s.store.staged ∧
    (∀ l, (t.seq.ladder l).periods = (s.seq.ladder l).periods ∧
      (t.seq.ladder l).requestHold = (s.seq.ladder l).requestHold) ∧
    t.load.count = s.fc.count ∧
    (let metered : List Freshness → Option Branch → Bool := fun fs b =>
      b.any fun x => !x.isStorage && !x.station.joined && fs.contains x.station.freshness
     let used : Option Branch → Nat := fun b =>
      match b with
      | some x =>
        if metered [.online, .localCtl, .held, .stale] b then x.meter.lastPower
        else if metered [.lost] b then x.desc.substitute * 1000 else 0
      | none => 0
     let fresh : Option Branch → Nat := fun b =>
      match b with
      | some x =>
        if x.isStorage = true ∧ x.station.joined = false ∧
          (x.station.freshness = .online ∨ x.station.freshness = .localCtl) then x.meter.lastPower else 0
      | none => 0
     let cons := (t.branches.map used).sum
     let power := (t.branches.map fresh).sum
     t.load.lCons = cons / 1000 ∧ t.load.nMeasured = t.branches.countP (metered [.online, .localCtl]) ∧
     t.load.nHeld = t.branches.countP (metered [.held, .stale]) ∧ t.load.nSubst = t.branches.countP (metered [.lost]) ∧
     (storageCount s.branches ≤ 1 →
      (s.store.mode = .hold → t.load.lStage = cons / 1000 ∧ t.load.sign = .zero ∧ t.load.magnitude = 0) ∧
      (s.store.mode = .charge → t.load.lStage = (cons + power) / 1000 ∧ t.load.magnitude = power / 1000 ∧
        t.load.sign = if power = 0 then .zero else .positive) ∧
      (s.store.mode = .discharge → t.load.lStage = (cons - power) / 1000 ∧ t.load.magnitude = power / 1000 ∧
        t.load.sign = if power = 0 then .zero else .negative))) ∧
    (s.storage = none → t.store = s.store) ∧
    ∀ i b d, s.storage = some (i, b) → b.storageDesc = some d →
      (b.station.joined = true → t.store = s.store) ∧
      (b.station.joined = false →
        (b.station.cycle = none → t.store.soc = s.store.soc) ∧
        ∀ r dir, b.station.cycle = some r → r.values.tail = .storage dir →
          let inc := r.values.q * (r.values.tr - r.values.ts) * 4186 / 10000 * s.fc.pEff
          t.store.soc = match dir with
            | .charging => min (d.capacity * 36000000) (s.store.soc + inc)
            | .discharging => s.store.soc - inc
            | .idle => s.store.soc) ∧
      ∀ n c, b.part = .storage d n c → ∃ b', t.branch? i = some b' ∧ b'.part = .storage d
        (if b.station.joined = true ∨ b'.station.freshness = .awaiting then n else some ⟨t.store.mode, t.store.rate⟩) c ∧
        (b.station.joined = false →
          let forced := (t.store.full = true ∧ s.store.mode = .charge) ∨ (t.store.empty = true ∧ s.store.mode = .discharge)
          let q : Scheduler := { s.store with
            soc := t.store.soc, full := t.store.full, empty := t.store.empty,
            mode := if forced then .hold else s.store.mode, rate := if forced then 0 else s.store.rate,
            lastChange := if forced then s.fc.count else s.store.lastChange }
          let notes : EventKind → Int → Prop := fun x v => s.Appends t ⟨s.fc.count, 65, ⟨x, i, v⟩⟩
          (t.store.full = true ↔ t.store.soc = d.capacity * 36000000) ∧ (t.store.empty = true ↔ t.store.soc = 0) ∧
          (s.store.full = false → t.store.full = true → notes .storageFull d.capacity) ∧
          (s.store.empty = false → t.store.empty = true → notes .storageEmpty 0) ∧
          (forced → notes .storageMode StorageMode.hold.code) ∧
          (b'.available = b.available → t.store = q) ∧
          (b'.available ≠ b.available → ∃ ev : EventList, ModeEvaluated q
            { t with branches := t.branches.set i (some { b' with part := .storage d n c }), events := ev } t))

/-- The freshness table (R15), at every CYCLE_END: every branch record, the header and every unit that the closing
rule takes moves its freshness state and miss count by the table, from the closed reading R14 gives; one that joined
during the cycle is passed over. A unit's COMM_LOST follows (R103): set in STALE and LOST, clear in ONLINE, LOCAL and
AWAITING, kept in HELD. -/
def Obligations.StationsClosed : Prop :=
  ∀ s : State, s.CycleEndDue → ∃ t : State, exec .cycleEnd s = .next t ∧
    (∀ i b, s.branch? i = some b → ∃ b', t.branch? i = some b' ∧ b'.desc = b.desc ∧
      b.station.After s.limits.kStale s.limits.kLost b'.station) ∧
    (∀ h, s.header = some h → ∃ h', t.header = some h' ∧ h'.address = h.address ∧ h'.recent = h.recent ∧
      h.station.After s.limits.kStale s.limits.kLost h'.station) ∧
    ∀ l n u, s.unit? l n = some u → ∃ u', t.unit? l n = some u' ∧ u'.address = u.address ∧
      u.station.After s.limits.kStale s.limits.kLost u'.station ∧
      (u.station.joined = false → u'.commLost = match u'.station.freshness with
        | .stale => true
        | .lost => true
        | .held => u.commLost
        | _ => false)

/-- Metering at CYCLE_END (03, sections 3.2 to 3.4): a fresh record's power, floor(Q x dT x 4186 / 10000) with dT not
below 0, times Tc goes exactly into its measured energy and its flow into its volume, and the estimate stands; a
record missed in HELD or STALE puts its last power, one LOST its substitute power, into its estimated energy alone;
one in AWAITING meters nothing. -/
def Obligations.EnergyMetered : Prop :=
  ∀ (i : Nat) (b : Branch) (s : State), s.CycleEndDue → s.branch? i = some b → b.station.joined = false →
    let m := b.meter
    let accrues : Nat → Nat → Nat → Nat → Nat → Nat → Prop := fun unit v r inc v' r' =>
      r' = (r + inc) % unit ∧
      v' + (if 1000000000000 ≤ v + (r + inc) / unit then 1000000000000 else 0) = v + (r + inc) / unit
    ∃ (t : State) (b' : Branch), exec .cycleEnd s = .next t ∧ t.branch? i = some b' ∧
      (∀ r, b.station.cycle = some r →
        let power := r.values.q * (r.values.tr - r.values.ts) * 4186 / 10000
        accrues 36000 m.measured m.measuredRes (power * s.fc.pEff) b'.meter.measured b'.meter.measuredRes ∧
        accrues 1000 m.volume m.volumeRes (r.values.q * s.fc.pEff) b'.meter.volume b'.meter.volumeRes ∧
        b'.meter.lastPower = power ∧ b'.meter.estimated = m.estimated ∧ b'.meter.estimatedRes = m.estimatedRes ∧
        (b'.meter.reversedRun = true ↔ r.values.tr < r.values.ts)) ∧
      (b.station.cycle = none →
        b'.meter.measured = m.measured ∧ b'.meter.measuredRes = m.measuredRes ∧ b'.meter.volume = m.volume ∧
        b'.meter.volumeRes = m.volumeRes ∧ b'.meter.lastPower = m.lastPower ∧
        (b'.station.freshness = .held ∨ b'.station.freshness = .stale →
          accrues 36000 m.estimated m.estimatedRes (m.lastPower * s.fc.pEff) b'.meter.estimated b'.meter.estimatedRes) ∧
        (b'.station.freshness = .lost →
          accrues 36000 m.estimated m.estimatedRes (b.desc.substitute * 1000 * s.fc.pEff) b'.meter.estimated
            b'.meter.estimatedRes) ∧
        (b'.station.freshness = .awaiting → b'.meter = m))

/-- The Delta-T Monitor at CYCLE_END (04, sections 4.3 to 4.8): for a fresh CONSUMER record the low-dT count, the
cause by the first line that holds, the ceiling stepped toward its floor or toward 1000 and held at 1000 when
throttling is not allowed, and the ceiling command written in ONLINE and not in LOCAL; for a missed one everything is
held. -/
def Obligations.CeilingStepped : Prop :=
  ∀ (i : Nat) (b : Branch) (t : Throttle) (next cur : Option Nat) (s : State), s.CycleEndDue →
    s.branch? i = some b → b.part = .consumer t next cur → b.station.joined = false →
    let d := b.desc
    let contract := if d.granularity = .coarse then d.flowValue * 16 + 15 else d.flowValue
    ∃ (u : State) (b' : Branch), exec .cycleEnd s = .next u ∧ u.branch? i = some b' ∧
      (b.station.cycle = none → b'.part = b.part) ∧
      ∀ r, b.station.cycle = some r → ∃ t' : Throttle,
        b'.part = .consumer t' (if r.isLocal then next else some t'.ceiling) cur ∧
        (r.values.q < contract / 4 → t'.count = t.count) ∧
        (contract / 4 ≤ r.values.q → r.values.tr - r.values.ts + d.dtMargin < d.designDt →
          t'.count = min 255 (t.count + 1)) ∧
        (contract / 4 ≤ r.values.q → d.designDt ≤ r.values.tr - r.values.ts + d.dtMargin →
          t'.count = t.count - 1) ∧
        t'.cause = (if contract < r.values.q then .overContract else if d.persist ≤ t'.count then .lowDt
          else if t'.count = 0 then .none else t.cause) ∧
        t'.ceiling = (if d.throttleAllowed = false then 1000 else if t'.cause = .none then min 1000 (t.ceiling + d.step)
          else max d.floor (t.ceiling - d.step))

/-- The header DP setpoint at CYCLE_END (05, sections 5.3 to 5.7): a header in ONLINE, LOCAL or HELD that did not join
in the cycle is usable (R80), one without values, which no run leaves there, is not (log 28). With no usable header it
and every figure of the last evaluation stand and HEADER_STALE is set; otherwise it moves toward the target, a
pressure within the limits, by at most DP_ramp and never past it, and HEADER_STALE is clear. The critical branch has
the greatest need and the limiting branch the smallest allowance of the eligible ones, the lowest index winning a tie:
DP required and DP ceiling, each plus the loss, the need with the trim of a nearly open valve that is not throttled.
Whatever the header, the setpoint is written into the next block of every pump in STARTING, RUNNING or HAND-run (R88),
and not into that of another pump that keeps its state, and the supply setpoint into every chiller's block that is not
NONE (R112), the demand of a unit that keeps its state as it stands. That a pump moved by the same cycle end shows the
new setpoint too, the calculator working before the judgement, is the model's order (log 6). -/
def Obligations.SetpointRamps : Prop :=
  ∀ s : State, s.CycleEndDue → SetpointWithin s →
    s.limits.dpMin ≤ s.limits.dpFallback ∧ s.limits.dpFallback ≤ s.limits.dpMax →
    ∃ t : State, exec .cycleEnd s = .next t ∧
      (∀ n u, s.unit? .pump n = some u → ∃ v, t.unit? .pump n = some v ∧
        let takes := u.state = .starting ∨ u.state = .running ∨ u.state = .hand .run
        (takes → ∀ c, v.next = some c → c.setpoint = t.press.setpoint) ∧ (u.next ≠ none → v.next ≠ none) ∧
        (v.state = u.state → v.next = u.next.map fun c => if takes then { c with setpoint := t.press.setpoint } else c)) ∧
      (∀ n u, s.unit? .chiller n = some u → ∃ v, t.unit? .chiller n = some v ∧
        (∀ c, v.next = some c → c.setpoint = s.limits.supplySet) ∧ (u.next ≠ none → v.next ≠ none) ∧
        (v.state = u.state → v.next = u.next.map fun c => { c with setpoint := s.limits.supplySet })) ∧
      (t.header = none ∨ (∃ h, t.header = some h ∧ (h.station.joined = true ∨ h.station.freshness = .awaiting ∨
          h.station.freshness = .stale ∨ h.station.freshness = .lost ∨
          ∀ st v, h.station.closed ≠ some ⟨st, some v⟩)) →
        t.press = { s.press with headerStale := true }) ∧
      ∀ h st v, t.header = some h → h.station.joined = false →
        h.station.freshness = .online ∨ h.station.freshness = .localCtl ∨ h.station.freshness = .held →
        h.station.closed = some ⟨st, some v⟩ →
        (t.press.headerStale = false ∧ t.press.stamp = s.fc.count ∧
          s.limits.dpMin ≤ t.press.target ∧ t.press.target ≤ s.limits.dpMax ∧
          (t.press.critical = none → t.press.noCritical = true ∧ t.press.target = s.limits.dpFallback) ∧
          (t.press.critical ≠ none → t.press.noCritical = false ∧ 1 ≤ t.press.eligible ∧
            t.press.target = max s.limits.dpMin (min s.limits.dpMax
              (min (t.press.criticalNeed + s.limits.dpMargin) t.press.ceiling)) ∧
            (t.press.conflict = true ↔
              t.press.ceiling < max (t.press.criticalNeed + s.limits.dpMargin) t.press.target)) ∧
          (s.press.setpoint ≤ t.press.target →
            t.press.setpoint = min (s.press.setpoint + s.limits.dpRamp) t.press.target) ∧
          (t.press.target ≤ s.press.setpoint →
            t.press.setpoint = max (s.press.setpoint - s.limits.dpRamp) t.press.target)) ∧
        let dph := v.dph
        let judged : Option Branch → Option (Nat × Nat) := fun x =>
          x.bind fun b =>
            if b.station.joined then none
            else if b.station.freshness ≠ .online ∧ b.station.freshness ≠ .localCtl ∧ b.station.freshness ≠ .held then none
            else
              match b.part, b.station.values with
              | .consumer th _ _, some v =>
                match v.tail with
                | .consumer dpb valve =>
                  some (b.desc.dpRequired + (dph - dpb)
                      + (if s.limits.trimThreshold ≤ valve ∧ 1000 ≤ th.ceiling then s.limits.trim else 0),
                    b.desc.dpCeiling + (dph - dpb))
                | .storage _ => none
              | _, _ => none
        t.press.eligible = t.branches.countP (fun b => (judged b).isSome) ∧
        (t.press.eligible = 0 → t.press.critical = none ∧ t.press.limiting = none) ∧
        (t.press.eligible ≠ 0 → ∃ i j ni ai nj aj,
          t.press.critical = some i ∧ t.press.criticalNeed = ni ∧ judged (t.branch? i) = some (ni, ai) ∧
          t.press.limiting = some j ∧ t.press.ceiling = aj ∧ judged (t.branch? j) = some (nj, aj) ∧
          ∀ k nk ak, judged (t.branch? k) = some (nk, ak) →
            (nk < ni ∨ (nk = ni ∧ i ≤ k)) ∧ (aj < ak ∨ (aj = ak ∧ j ≤ k)))

/-! ## Laws every step keeps, from every state that meets them -/

/-- The event list holds at most 64 records in non-decreasing order of cycle count, none later than the count. -/
def Obligations.EventsStayInOrder : Prop :=
  ∀ s t : State, EventsInOrder s → step s = .next t → EventsInOrder t

/-- The limits stay lawful with the setpoint between DP_min and DP_max, and every timer and setting stays in its
range. -/
def Obligations.RangesKept : Prop :=
  ∀ s t : State, step s = .next t →
    (s.limits.Lawful ∧ SetpointWithin s → t.limits.Lawful ∧ SetpointWithin t) ∧
    (TimersInRange s → TimersInRange t)

/-- Each port is owed exactly its passes queued or in flight, five at most in all, a pass in flight has its window
open, and each transmit queue holds at most one immediate reply. -/
def Obligations.LinksKept : Prop :=
  ∀ s t : State, step s = .next t →
    (PassesOwed s → PassesOwed t ∧ t.supervisory.owed + t.panel.owed ≤ 5) ∧
    (s.supervisory.OneReply ∧ s.panel.OneReply → t.supervisory.OneReply ∧ t.panel.OneReply)

/-- At most one STORAGE record; SOC between 0 and its capacity; FULL and EMPTY as SOC gives them; the mode never
CHARGE at capacity nor DISCHARGE at 0. -/
def Obligations.StorageKept : Prop :=
  ∀ s t : State, StorageLaw s → step s = .next t → StorageLaw t

/-- While the part is live, a chiller in STARTING, RUNNING or HAND-run has a pump in RUNNING or HAND-run; in shadow
mode units stand in OFF or RUNNING; while RST is asserted both ladders are empty. -/
def Obligations.FlowKeptByEveryStep : Prop :=
  ∀ s t : State, FlowKept s → step s = .next t → FlowKept t

/-- Each ladder's start stack holds exactly its units in STARTING or RUNNING, each once, and at most one is STARTING.
-/
def Obligations.StacksExact : Prop :=
  ∀ s t : State, s.seq.chillers.StackExact ∧ s.seq.pumps.StackExact → step s = .next t →
    t.seq.chillers.StackExact ∧ t.seq.pumps.StackExact

/-- No two loaded records among the branches, the header and the units come to carry one station address. -/
def Obligations.AddressesStayDistinct : Prop :=
  ∀ s t : State, AddressesDistinct s → step s = .next t → AddressesDistinct t

/-- The part right after reset meets every law the steps keep. -/
def Obligations.ResetMeetsTheLaws : Prop :=
  EventsInOrder State.reset ∧ State.reset.limits.Lawful ∧ SetpointWithin State.reset ∧ TimersInRange State.reset ∧
  PassesOwed State.reset ∧ State.reset.supervisory.OneReply ∧ State.reset.panel.OneReply ∧ StorageLaw State.reset ∧
  FlowKept State.reset ∧ State.reset.seq.chillers.StackExact ∧ State.reset.seq.pumps.StackExact ∧
  AddressesDistinct State.reset
end

