-- ==== Sys2Proof/Laws/State.lean ====
section
/-! SUPPORT. The simp set of the state: what each named update leaves of each field, true by rfl. -/

namespace Sys2Proof.Machine


/-! ## Events -/

@[simp] theorem notes_pending (s : State) (ns : List Note) : (s.notes ns).pending = s.pending := rfl
@[simp] theorem notes_rst (s : State) (ns : List Note) : (s.notes ns).rst = s.rst := rfl
@[simp] theorem notes_branches (s : State) (ns : List Note) : (s.notes ns).branches = s.branches := rfl
@[simp] theorem notes_header (s : State) (ns : List Note) : (s.notes ns).header = s.header := rfl
@[simp] theorem notes_fc (s : State) (ns : List Note) : (s.notes ns).fc = s.fc := rfl
@[simp] theorem notes_load (s : State) (ns : List Note) : (s.notes ns).load = s.load := rfl
@[simp] theorem notes_snapshot (s : State) (ns : List Note) : (s.notes ns).snapshot = s.snapshot := rfl
@[simp] theorem notes_press (s : State) (ns : List Note) : (s.notes ns).press = s.press := rfl
@[simp] theorem notes_limits (s : State) (ns : List Note) : (s.notes ns).limits = s.limits := rfl
@[simp] theorem notes_seq (s : State) (ns : List Note) : (s.notes ns).seq = s.seq := rfl
@[simp] theorem notes_store (s : State) (ns : List Note) : (s.notes ns).store = s.store := rfl
@[simp] theorem notes_inputs (s : State) (ns : List Note) : (s.notes ns).inputs = s.inputs := rfl
@[simp] theorem notes_supervisory (s : State) (ns : List Note) : (s.notes ns).supervisory = s.supervisory := rfl
@[simp] theorem notes_panel (s : State) (ns : List Note) : (s.notes ns).panel = s.panel := rfl
@[simp] theorem notes_nil (s : State) : s.notes [] = s := rfl

/-! ## Ports -/

@[simp] theorem port_setPort (s : State) (p : Port) (x : LinkPort) : (s.setPort p x).port p = x := by cases p <;> rfl
theorem port_setPort_of_ne (s : State) {p q : Port} (x : LinkPort) (h : q ≠ p) : (s.setPort p x).port q = s.port q := by
  cases p <;> cases q <;> first | rfl | exact absurd rfl h
@[simp] theorem setPort_self (s : State) (p : Port) : s.setPort p (s.port p) = s := by cases p <;> rfl
@[simp] theorem port_notes (s : State) (ns : List Note) (p : Port) : (s.notes ns).port p = s.port p := by cases p <;> rfl
@[simp] theorem setPort_pending (s : State) (p : Port) (x : LinkPort) : (s.setPort p x).pending = s.pending := by cases p <;> rfl
@[simp] theorem setPort_rst (s : State) (p : Port) (x : LinkPort) : (s.setPort p x).rst = s.rst := by cases p <;> rfl
@[simp] theorem setPort_branches (s : State) (p : Port) (x : LinkPort) : (s.setPort p x).branches = s.branches := by cases p <;> rfl
@[simp] theorem setPort_header (s : State) (p : Port) (x : LinkPort) : (s.setPort p x).header = s.header := by cases p <;> rfl
@[simp] theorem setPort_fc (s : State) (p : Port) (x : LinkPort) : (s.setPort p x).fc = s.fc := by cases p <;> rfl
@[simp] theorem setPort_load (s : State) (p : Port) (x : LinkPort) : (s.setPort p x).load = s.load := by cases p <;> rfl
@[simp] theorem setPort_snapshot (s : State) (p : Port) (x : LinkPort) : (s.setPort p x).snapshot = s.snapshot := by cases p <;> rfl
@[simp] theorem setPort_press (s : State) (p : Port) (x : LinkPort) : (s.setPort p x).press = s.press := by cases p <;> rfl
@[simp] theorem setPort_limits (s : State) (p : Port) (x : LinkPort) : (s.setPort p x).limits = s.limits := by cases p <;> rfl
@[simp] theorem setPort_seq (s : State) (p : Port) (x : LinkPort) : (s.setPort p x).seq = s.seq := by cases p <;> rfl
@[simp] theorem setPort_store (s : State) (p : Port) (x : LinkPort) : (s.setPort p x).store = s.store := by cases p <;> rfl
@[simp] theorem setPort_inputs (s : State) (p : Port) (x : LinkPort) : (s.setPort p x).inputs = s.inputs := by cases p <;> rfl
@[simp] theorem setPort_events (s : State) (p : Port) (x : LinkPort) : (s.setPort p x).events = s.events := by cases p <;> rfl
@[simp] theorem hand_pending (s : State) (p : Port) (f : TxFrame) : (s.hand p f).pending = s.pending := by cases p <;> rfl
@[simp] theorem hand_rst (s : State) (p : Port) (f : TxFrame) : (s.hand p f).rst = s.rst := by cases p <;> rfl
@[simp] theorem hand_branches (s : State) (p : Port) (f : TxFrame) : (s.hand p f).branches = s.branches := by cases p <;> rfl
@[simp] theorem hand_header (s : State) (p : Port) (f : TxFrame) : (s.hand p f).header = s.header := by cases p <;> rfl
@[simp] theorem hand_fc (s : State) (p : Port) (f : TxFrame) : (s.hand p f).fc = s.fc := by cases p <;> rfl
@[simp] theorem hand_load (s : State) (p : Port) (f : TxFrame) : (s.hand p f).load = s.load := by cases p <;> rfl
@[simp] theorem hand_snapshot (s : State) (p : Port) (f : TxFrame) : (s.hand p f).snapshot = s.snapshot := by cases p <;> rfl
@[simp] theorem hand_press (s : State) (p : Port) (f : TxFrame) : (s.hand p f).press = s.press := by cases p <;> rfl
@[simp] theorem hand_limits (s : State) (p : Port) (f : TxFrame) : (s.hand p f).limits = s.limits := by cases p <;> rfl
@[simp] theorem hand_seq (s : State) (p : Port) (f : TxFrame) : (s.hand p f).seq = s.seq := by cases p <;> rfl
@[simp] theorem hand_store (s : State) (p : Port) (f : TxFrame) : (s.hand p f).store = s.store := by cases p <;> rfl
@[simp] theorem hand_inputs (s : State) (p : Port) (f : TxFrame) : (s.hand p f).inputs = s.inputs := by cases p <;> rfl
@[simp] theorem hand_events (s : State) (p : Port) (f : TxFrame) : (s.hand p f).events = s.events := by cases p <;> rfl
@[simp] theorem deferred_pending (s : State) (e : PassEntry) (st : Status) (os : List Octet) : (s.deferred e st os).pending = s.pending := setPort_pending _ _ _
@[simp] theorem deferred_rst (s : State) (e : PassEntry) (st : Status) (os : List Octet) : (s.deferred e st os).rst = s.rst := setPort_rst _ _ _
@[simp] theorem deferred_branches (s : State) (e : PassEntry) (st : Status) (os : List Octet) : (s.deferred e st os).branches = s.branches := setPort_branches _ _ _
@[simp] theorem deferred_header (s : State) (e : PassEntry) (st : Status) (os : List Octet) : (s.deferred e st os).header = s.header := setPort_header _ _ _
@[simp] theorem deferred_fc (s : State) (e : PassEntry) (st : Status) (os : List Octet) : (s.deferred e st os).fc = s.fc := setPort_fc _ _ _
@[simp] theorem deferred_load (s : State) (e : PassEntry) (st : Status) (os : List Octet) : (s.deferred e st os).load = s.load := setPort_load _ _ _
@[simp] theorem deferred_snapshot (s : State) (e : PassEntry) (st : Status) (os : List Octet) : (s.deferred e st os).snapshot = s.snapshot := setPort_snapshot _ _ _
@[simp] theorem deferred_press (s : State) (e : PassEntry) (st : Status) (os : List Octet) : (s.deferred e st os).press = s.press := setPort_press _ _ _
@[simp] theorem deferred_limits (s : State) (e : PassEntry) (st : Status) (os : List Octet) : (s.deferred e st os).limits = s.limits := setPort_limits _ _ _
@[simp] theorem deferred_seq (s : State) (e : PassEntry) (st : Status) (os : List Octet) : (s.deferred e st os).seq = s.seq := setPort_seq _ _ _
@[simp] theorem deferred_store (s : State) (e : PassEntry) (st : Status) (os : List Octet) : (s.deferred e st os).store = s.store := setPort_store _ _ _
@[simp] theorem deferred_inputs (s : State) (e : PassEntry) (st : Status) (os : List Octet) : (s.deferred e st os).inputs = s.inputs := setPort_inputs _ _ _
@[simp] theorem deferred_events (s : State) (e : PassEntry) (st : Status) (os : List Octet) : (s.deferred e st os).events = s.events := setPort_events _ _ _
@[simp] theorem port_hand (s : State) (p : Port) (f : TxFrame) :
    (s.hand p f).port p = { s.port p with tx := (s.port p).tx ++ [f] } := port_setPort _ _ _

/-! ## Records -/

@[simp] theorem setBranch_pending (s : State) (i : Nat) (b : Option Branch) : (s.setBranch i b).pending = s.pending := rfl
@[simp] theorem setBranch_rst (s : State) (i : Nat) (b : Option Branch) : (s.setBranch i b).rst = s.rst := rfl
@[simp] theorem setBranch_header (s : State) (i : Nat) (b : Option Branch) : (s.setBranch i b).header = s.header := rfl
@[simp] theorem setBranch_fc (s : State) (i : Nat) (b : Option Branch) : (s.setBranch i b).fc = s.fc := rfl
@[simp] theorem setBranch_load (s : State) (i : Nat) (b : Option Branch) : (s.setBranch i b).load = s.load := rfl
@[simp] theorem setBranch_snapshot (s : State) (i : Nat) (b : Option Branch) : (s.setBranch i b).snapshot = s.snapshot := rfl
@[simp] theorem setBranch_press (s : State) (i : Nat) (b : Option Branch) : (s.setBranch i b).press = s.press := rfl
@[simp] theorem setBranch_limits (s : State) (i : Nat) (b : Option Branch) : (s.setBranch i b).limits = s.limits := rfl
@[simp] theorem setBranch_seq (s : State) (i : Nat) (b : Option Branch) : (s.setBranch i b).seq = s.seq := rfl
@[simp] theorem setBranch_store (s : State) (i : Nat) (b : Option Branch) : (s.setBranch i b).store = s.store := rfl
@[simp] theorem setBranch_inputs (s : State) (i : Nat) (b : Option Branch) : (s.setBranch i b).inputs = s.inputs := rfl
@[simp] theorem setBranch_events (s : State) (i : Nat) (b : Option Branch) : (s.setBranch i b).events = s.events := rfl
@[simp] theorem setBranch_supervisory (s : State) (i : Nat) (b : Option Branch) : (s.setBranch i b).supervisory = s.supervisory := rfl
@[simp] theorem setBranch_panel (s : State) (i : Nat) (b : Option Branch) : (s.setBranch i b).panel = s.panel := rfl
@[simp] theorem setUnit_pending (s : State) (l : LadderId) (p : Nat) (u : Option PlantUnit) : (s.setUnit l p u).pending = s.pending := rfl
@[simp] theorem setUnit_rst (s : State) (l : LadderId) (p : Nat) (u : Option PlantUnit) : (s.setUnit l p u).rst = s.rst := rfl
@[simp] theorem setUnit_branches (s : State) (l : LadderId) (p : Nat) (u : Option PlantUnit) : (s.setUnit l p u).branches = s.branches := rfl
@[simp] theorem setUnit_header (s : State) (l : LadderId) (p : Nat) (u : Option PlantUnit) : (s.setUnit l p u).header = s.header := rfl
@[simp] theorem setUnit_fc (s : State) (l : LadderId) (p : Nat) (u : Option PlantUnit) : (s.setUnit l p u).fc = s.fc := rfl
@[simp] theorem setUnit_load (s : State) (l : LadderId) (p : Nat) (u : Option PlantUnit) : (s.setUnit l p u).load = s.load := rfl
@[simp] theorem setUnit_snapshot (s : State) (l : LadderId) (p : Nat) (u : Option PlantUnit) : (s.setUnit l p u).snapshot = s.snapshot := rfl
@[simp] theorem setUnit_press (s : State) (l : LadderId) (p : Nat) (u : Option PlantUnit) : (s.setUnit l p u).press = s.press := rfl
@[simp] theorem setUnit_limits (s : State) (l : LadderId) (p : Nat) (u : Option PlantUnit) : (s.setUnit l p u).limits = s.limits := rfl
@[simp] theorem setUnit_store (s : State) (l : LadderId) (p : Nat) (u : Option PlantUnit) : (s.setUnit l p u).store = s.store := rfl
@[simp] theorem setUnit_inputs (s : State) (l : LadderId) (p : Nat) (u : Option PlantUnit) : (s.setUnit l p u).inputs = s.inputs := rfl
@[simp] theorem setUnit_events (s : State) (l : LadderId) (p : Nat) (u : Option PlantUnit) : (s.setUnit l p u).events = s.events := rfl
@[simp] theorem setUnit_supervisory (s : State) (l : LadderId) (p : Nat) (u : Option PlantUnit) : (s.setUnit l p u).supervisory = s.supervisory := rfl
@[simp] theorem setUnit_panel (s : State) (l : LadderId) (p : Nat) (u : Option PlantUnit) : (s.setUnit l p u).panel = s.panel := rfl
@[simp] theorem ladder_setLadder (q : Sequencer) (l : LadderId) (L : Ladder) : (q.setLadder l L).ladder l = L := by cases l <;> rfl
theorem ladder_setLadder_of_ne (q : Sequencer) {l m : LadderId} (L : Ladder) (h : m ≠ l) : (q.setLadder l L).ladder m = q.ladder m := by
  cases l <;> cases m <;> first | rfl | exact absurd rfl h
@[simp] theorem setLadder_waiting (q : Sequencer) (l : LadderId) (L : Ladder) : (q.setLadder l L).waiting = q.waiting := by cases l <;> rfl
@[simp] theorem setLadder_inputHold (q : Sequencer) (l : LadderId) (L : Ladder) : (q.setLadder l L).inputHold = q.inputHold := by cases l <;> rfl

/-! ## Block work -/

@[simp] theorem sequence_pending (s : State) (f : SeqEnv → Work → Work) : (s.sequence f).pending = s.pending := rfl
@[simp] theorem sequence_rst (s : State) (f : SeqEnv → Work → Work) : (s.sequence f).rst = s.rst := rfl
@[simp] theorem sequence_branches (s : State) (f : SeqEnv → Work → Work) : (s.sequence f).branches = s.branches := rfl
@[simp] theorem sequence_header (s : State) (f : SeqEnv → Work → Work) : (s.sequence f).header = s.header := rfl
@[simp] theorem sequence_fc (s : State) (f : SeqEnv → Work → Work) : (s.sequence f).fc = s.fc := rfl
@[simp] theorem sequence_load (s : State) (f : SeqEnv → Work → Work) : (s.sequence f).load = s.load := rfl
@[simp] theorem sequence_snapshot (s : State) (f : SeqEnv → Work → Work) : (s.sequence f).snapshot = s.snapshot := rfl
@[simp] theorem sequence_press (s : State) (f : SeqEnv → Work → Work) : (s.sequence f).press = s.press := rfl
@[simp] theorem sequence_limits (s : State) (f : SeqEnv → Work → Work) : (s.sequence f).limits = s.limits := rfl
@[simp] theorem sequence_store (s : State) (f : SeqEnv → Work → Work) : (s.sequence f).store = s.store := rfl
@[simp] theorem sequence_inputs (s : State) (f : SeqEnv → Work → Work) : (s.sequence f).inputs = s.inputs := rfl
@[simp] theorem sequence_supervisory (s : State) (f : SeqEnv → Work → Work) : (s.sequence f).supervisory = s.supervisory := rfl
@[simp] theorem sequence_panel (s : State) (f : SeqEnv → Work → Work) : (s.sequence f).panel = s.panel := rfl
@[simp] theorem schedule_pending (s : State) (f : CycleCount → Option (Nat × Branch) → Scheduler → Scheduler × List Note) : (s.schedule f).pending = s.pending := rfl
@[simp] theorem schedule_rst (s : State) (f : CycleCount → Option (Nat × Branch) → Scheduler → Scheduler × List Note) : (s.schedule f).rst = s.rst := rfl
@[simp] theorem schedule_branches (s : State) (f : CycleCount → Option (Nat × Branch) → Scheduler → Scheduler × List Note) : (s.schedule f).branches = s.branches := rfl
@[simp] theorem schedule_header (s : State) (f : CycleCount → Option (Nat × Branch) → Scheduler → Scheduler × List Note) : (s.schedule f).header = s.header := rfl
@[simp] theorem schedule_fc (s : State) (f : CycleCount → Option (Nat × Branch) → Scheduler → Scheduler × List Note) : (s.schedule f).fc = s.fc := rfl
@[simp] theorem schedule_load (s : State) (f : CycleCount → Option (Nat × Branch) → Scheduler → Scheduler × List Note) : (s.schedule f).load = s.load := rfl
@[simp] theorem schedule_snapshot (s : State) (f : CycleCount → Option (Nat × Branch) → Scheduler → Scheduler × List Note) : (s.schedule f).snapshot = s.snapshot := rfl
@[simp] theorem schedule_press (s : State) (f : CycleCount → Option (Nat × Branch) → Scheduler → Scheduler × List Note) : (s.schedule f).press = s.press := rfl
@[simp] theorem schedule_limits (s : State) (f : CycleCount → Option (Nat × Branch) → Scheduler → Scheduler × List Note) : (s.schedule f).limits = s.limits := rfl
@[simp] theorem schedule_seq (s : State) (f : CycleCount → Option (Nat × Branch) → Scheduler → Scheduler × List Note) : (s.schedule f).seq = s.seq := rfl
@[simp] theorem schedule_inputs (s : State) (f : CycleCount → Option (Nat × Branch) → Scheduler → Scheduler × List Note) : (s.schedule f).inputs = s.inputs := rfl
@[simp] theorem schedule_supervisory (s : State) (f : CycleCount → Option (Nat × Branch) → Scheduler → Scheduler × List Note) : (s.schedule f).supervisory = s.supervisory := rfl
@[simp] theorem schedule_panel (s : State) (f : CycleCount → Option (Nat × Branch) → Scheduler → Scheduler × List Note) : (s.schedule f).panel = s.panel := rfl
@[simp] theorem updateHold_pending (s : State) : (s.updateHold).pending = s.pending := rfl
@[simp] theorem updateHold_rst (s : State) : (s.updateHold).rst = s.rst := rfl
@[simp] theorem updateHold_branches (s : State) : (s.updateHold).branches = s.branches := rfl
@[simp] theorem updateHold_header (s : State) : (s.updateHold).header = s.header := rfl
@[simp] theorem updateHold_fc (s : State) : (s.updateHold).fc = s.fc := rfl
@[simp] theorem updateHold_load (s : State) : (s.updateHold).load = s.load := rfl
@[simp] theorem updateHold_snapshot (s : State) : (s.updateHold).snapshot = s.snapshot := rfl
@[simp] theorem updateHold_press (s : State) : (s.updateHold).press = s.press := rfl
@[simp] theorem updateHold_limits (s : State) : (s.updateHold).limits = s.limits := rfl
@[simp] theorem updateHold_store (s : State) : (s.updateHold).store = s.store := rfl
@[simp] theorem updateHold_inputs (s : State) : (s.updateHold).inputs = s.inputs := rfl
@[simp] theorem updateHold_events (s : State) : (s.updateHold).events = s.events := rfl
@[simp] theorem updateHold_supervisory (s : State) : (s.updateHold).supervisory = s.supervisory := rfl
@[simp] theorem updateHold_panel (s : State) : (s.updateHold).panel = s.panel := rfl
@[simp] theorem writePumps_pending (s : State) : (s.writePumps).pending = s.pending := rfl
@[simp] theorem writePumps_rst (s : State) : (s.writePumps).rst = s.rst := rfl
@[simp] theorem writePumps_branches (s : State) : (s.writePumps).branches = s.branches := rfl
@[simp] theorem writePumps_header (s : State) : (s.writePumps).header = s.header := rfl
@[simp] theorem writePumps_fc (s : State) : (s.writePumps).fc = s.fc := rfl
@[simp] theorem writePumps_load (s : State) : (s.writePumps).load = s.load := rfl
@[simp] theorem writePumps_snapshot (s : State) : (s.writePumps).snapshot = s.snapshot := rfl
@[simp] theorem writePumps_press (s : State) : (s.writePumps).press = s.press := rfl
@[simp] theorem writePumps_limits (s : State) : (s.writePumps).limits = s.limits := rfl
@[simp] theorem writePumps_store (s : State) : (s.writePumps).store = s.store := rfl
@[simp] theorem writePumps_inputs (s : State) : (s.writePumps).inputs = s.inputs := rfl
@[simp] theorem writePumps_events (s : State) : (s.writePumps).events = s.events := rfl
@[simp] theorem writePumps_supervisory (s : State) : (s.writePumps).supervisory = s.supervisory := rfl
@[simp] theorem writePumps_panel (s : State) : (s.writePumps).panel = s.panel := rfl
@[simp] theorem restartTable_pending (s : State) : (restartTable s).pending = s.pending := rfl
@[simp] theorem restartTable_rst (s : State) : (restartTable s).rst = s.rst := rfl
@[simp] theorem restartTable_fc (s : State) : (restartTable s).fc = s.fc := rfl
@[simp] theorem restartTable_load (s : State) : (restartTable s).load = s.load := rfl
@[simp] theorem restartTable_snapshot (s : State) : (restartTable s).snapshot = s.snapshot := rfl
@[simp] theorem restartTable_press (s : State) : (restartTable s).press = s.press := rfl
@[simp] theorem restartTable_limits (s : State) : (restartTable s).limits = s.limits := rfl
@[simp] theorem restartTable_seq (s : State) : (restartTable s).seq = s.seq := rfl
@[simp] theorem restartTable_store (s : State) : (restartTable s).store = s.store := rfl
@[simp] theorem restartTable_inputs (s : State) : (restartTable s).inputs = s.inputs := rfl
@[simp] theorem restartTable_events (s : State) : (restartTable s).events = s.events := rfl
@[simp] theorem restartTable_supervisory (s : State) : (restartTable s).supervisory = s.supervisory := rfl
@[simp] theorem restartTable_panel (s : State) : (restartTable s).panel = s.panel := rfl
@[simp] theorem restartSequencer_pending (s : State) : (restartSequencer s).pending = s.pending := rfl
@[simp] theorem restartSequencer_rst (s : State) : (restartSequencer s).rst = s.rst := rfl
@[simp] theorem restartSequencer_branches (s : State) : (restartSequencer s).branches = s.branches := rfl
@[simp] theorem restartSequencer_header (s : State) : (restartSequencer s).header = s.header := rfl
@[simp] theorem restartSequencer_fc (s : State) : (restartSequencer s).fc = s.fc := rfl
@[simp] theorem restartSequencer_load (s : State) : (restartSequencer s).load = s.load := rfl
@[simp] theorem restartSequencer_snapshot (s : State) : (restartSequencer s).snapshot = s.snapshot := rfl
@[simp] theorem restartSequencer_press (s : State) : (restartSequencer s).press = s.press := rfl
@[simp] theorem restartSequencer_limits (s : State) : (restartSequencer s).limits = s.limits := rfl
@[simp] theorem restartSequencer_store (s : State) : (restartSequencer s).store = s.store := rfl
@[simp] theorem restartSequencer_inputs (s : State) : (restartSequencer s).inputs = s.inputs := rfl
@[simp] theorem restartSequencer_events (s : State) : (restartSequencer s).events = s.events := rfl
@[simp] theorem restartSequencer_supervisory (s : State) : (restartSequencer s).supervisory = s.supervisory := rfl
@[simp] theorem restartSequencer_panel (s : State) : (restartSequencer s).panel = s.panel := rfl

end Sys2Proof.Machine
end

