-- ==== Sys2Proof/Laws/Ops.lean ====
section
/-! SUPPORT. One lemma per shared operation: what it can do, said once. -/

namespace Sys2Proof.Machine

/-! ## Numbers -/

theorem le_clamp (lo hi n : Nat) : lo ≤ clamp lo hi n := Nat.le_max_left _ _

theorem clamp_le {lo hi : Nat} (n : Nat) (h : lo ≤ hi) : clamp lo hi n ≤ hi :=
  Nat.max_le.mpr ⟨h, Nat.min_le_left _ _⟩

theorem clamp_eq_self {lo hi n : Nat} (h : lo ≤ n) (h' : n ≤ hi) : clamp lo hi n = n := by
  simp only [clamp]; omega

theorem clamp_eq_self_iff {lo hi n : Nat} (h : lo ≤ hi) : clamp lo hi n = n ↔ lo ≤ n ∧ n ≤ hi := by
  simp only [clamp]; omega

theorem bump_le (cap n : Nat) : bump cap n ≤ cap := Nat.min_le_left _ _

/-! ## Octets -/

theorem half_hi_lo (v : Half) : half (hi v) (lo v) = v := by
  apply BitVec.eq_of_toNat_eq
  have h := v.isLt
  simp only [half, hi, lo, oct, BitVec.toNat_ofNat]
  omega

theorem branchLoadOf_octets (b : BranchLoadBody) : branchLoadOf (branchLoadOctets b) = some b := by
  simp [branchLoadOf, branchLoadOctets, half_hi_lo]

theorem unitLoadOf_octets (b : UnitLoadBody) : unitLoadOf (unitLoadOctets b) = some b := by
  simp [unitLoadOf, unitLoadOctets]

theorem limitsBodyOf_octets (b : LimitsBody) : limitsBodyOf (limitsBodyOctets b) = some b := by
  simp [limitsBodyOf, limitsBodyOctets, half_hi_lo]

theorem withCrc_length (os : List Octet) : (withCrc os).length = os.length + 2 := by simp [withCrc]

theorem crcMatches_withCrc (os : List Octet) : crcMatches (withCrc os) = true := by
  simp [crcMatches, withCrc]

/-! ## Requests -/

/-- What a request row does: nothing under RST, an overrun, a held frame, or the taking (11, R172). -/
theorem request_cases (p : Port) (tag kind : Octet) (body : List Octet) (serve : State → State × Reply) (s : State) :
    (s.rst = true ∧ request p tag kind body serve s = .next s) ∨
    (s.rst = false ∧ (s.port p).heldFrame ≠ none ∧
      request p tag kind body serve s =
        .next (s.setPort p { s.port p with overruns := bump Config.countMax (s.port p).overruns })) ∨
    (s.rst = false ∧ (s.port p).heldFrame = none ∧ (s.port p).busy = true ∧
      request p tag kind body serve s = .next (s.setPort p { s.port p with heldFrame := some ⟨tag, kind, body⟩ })) ∨
    (s.Ready p ∧ request p tag kind body serve s = .next (answer p tag kind (serve s))) := by
  unfold request arrive State.Ready
  cases hr : s.rst
  · cases hh : (s.port p).heldFrame
    · cases hb : (s.port p).busy <;> simp
    · simp
  · simp

/-- A ready port takes the request and answers it (11, R172, R173). -/
theorem request_of_ready {p : Port} {s : State} (h : s.Ready p) (tag kind : Octet) (body : List Octet)
    (serve : State → State × Reply) :
    request p tag kind body serve s =
      .next ((serve s).1.hand p (replyFrame tag kind (serve s).2.status (serve s).2.content)) := by
  obtain ⟨hr, hh, hb⟩ := h
  simp [request, arrive, hr, hh, hb, answer, replyFrame]

/-! ## The event list -/

theorem append_length_le {e : EventList} (h : e.records.length ≤ Config.eventCapacity) (r : EventRecord) :
    (e.append r).records.length ≤ Config.eventCapacity := by
  unfold EventList.append
  split <;> simp_all [Config.eventCapacity]
  omega

theorem clear_records (e : EventList) : e.clear.records = [] := rfl

theorem drained_length_le (e : EventList) : e.drained.records.length ≤ e.records.length := by
  simp [EventList.drained]

/-- The events of one block's work keep the list within its size (10, R166). -/
theorem notes_length_le {s : State} (h : s.events.records.length ≤ Config.eventCapacity) (ns : List Note) :
    (s.notes ns).events.records.length ≤ Config.eventCapacity := by
  have step : ∀ (l : List Note) (e : EventList), e.records.length ≤ Config.eventCapacity →
      (l.foldl (fun e n => e.append ⟨s.fc.count, s.fc.position, n⟩) e).records.length ≤ Config.eventCapacity := by
    intro l
    induction l with
    | nil => exact fun e he => he
    | cons n l ih => exact fun e he => ih _ (append_length_le he _)
  exact step ns _ h

/-! ## Timers -/

theorem timer_start_counting (n : Nat) : (Timer.start n).isCounting = true := rfl

theorem timer_start_inRange {n : Nat} (h : 1 ≤ n) (h' : n ≤ 65535) : (Timer.start n).InRange :=
  ⟨Nat.le_refl n, h, h', .inl rfl⟩

theorem timer_tick_inRange {t : Timer} (h : t.InRange) : t.tick.InRange := by
  cases t with
  | idle => trivial
  | counting r l p => exact ⟨Nat.le_trans (Nat.sub_le r 1) h.1, h.2⟩

theorem timer_reload_inRange {t : Timer} (h : t.InRange) {n : Nat} (h1 : 1 ≤ n) (h2 : n ≤ 65535) :
    (t.reload n).InRange := by
  cases t with
  | idle => trivial
  | counting r l p => exact ⟨Nat.le_refl n, h1, h2, h.2.2.2⟩

/-! ## Freshness (01, R15) -/

/-- A fresh cycle takes any record to ONLINE or LOCAL with miss count 0. -/
theorem freshnessTable_fresh (ks kl : Nat) (f : Freshness) (m : Nat) (l : Bool) :
    freshnessTable ks kl f m (.fresh l) = (if l then .localCtl else .online, 0) := by
  cases l <;> rfl

/-- A missed cycle never leaves a record ONLINE or LOCAL, and its count is 1 or more, at most 255. -/
theorem freshnessTable_missed (ks kl : Nat) (f : Freshness) (m : Nat) {c : CycleClass} (h : ∀ l, c ≠ .fresh l) :
    (freshnessTable ks kl f m c).1 ≠ .online ∧ (freshnessTable ks kl f m c).1 ≠ .localCtl ∧
      1 ≤ (freshnessTable ks kl f m c).2 ∧ (freshnessTable ks kl f m c).2 ≤ Config.missMax := by
  have hb : 1 ≤ bump Config.missMax m ∧ bump Config.missMax m ≤ Config.missMax := by
    simp only [bump, Config.missMax]; omega
  cases c with
  | fresh l => exact absurd rfl (h l)
  | fault => cases f <;> simp [freshnessTable] <;> (try split) <;> simp_all [Config.missMax]
  | silent => cases f <;> simp [freshnessTable] <;> (try split) <;> simp_all [Config.missMax]

/-! ## Accumulators (03, R51, R52) -/

/-- An accumulator loses nothing: value and residue together grow by the increment, less 10^12 at a wrap. -/
theorem accumulate_exact (unit value residue inc : Nat) :
    let a := accumulate unit value residue inc
    a.value * unit + a.residue + (if a.wrapped then Config.accumulatorWrap * unit else 0)
      = value * unit + residue + inc := by
  have hd := Nat.div_add_mod (residue + inc) unit
  simp only [accumulate]
  by_cases hw : Config.accumulatorWrap ≤ value + (residue + inc) / unit
  · simp only [hw, if_true, decide_true]
    rw [Nat.sub_mul, Nat.add_mul]
    have : Config.accumulatorWrap * unit ≤ value * unit + (residue + inc) / unit * unit := by
      rw [← Nat.add_mul]; exact Nat.mul_le_mul_right _ hw
    rw [Nat.mul_comm ((residue + inc) / unit)] at *
    omega
  · simp only [hw, if_false, decide_false, Bool.false_eq_true]
    rw [Nat.add_mul, Nat.mul_comm ((residue + inc) / unit)]
    omega

/-! ## The record a slot polls (02, R25, R31) -/

/-- A slot polls only a record that is loaded, and none that was loaded since the cycle start. -/
theorem slotTarget_loaded {s : State} {b : Binding} {x : WindowTarget × Nat × Option (List Octet)}
    (h : s.slotTarget b = some x) :
    s.loaded b = true ∧
    match b with
    | .unbound => False
    | .branch i => ∃ r, s.branch? i = some r ∧ r.station.joined = false
    | .unit l p => ∃ u, s.unit? l p = some u ∧ u.station.joined = false
    | .header => ∃ r, s.header = some r ∧ r.recent = false := by
  cases b with
  | unbound => cases h
  | branch i =>
    obtain ⟨r, hr, -⟩ := Option.map_eq_some_iff.mp h
    obtain ⟨hr, hj⟩ := Option.filter_eq_some_iff.mp hr
    exact ⟨by simp [State.loaded, hr], r, hr, by simpa using hj⟩
  | unit l p =>
    obtain ⟨u, hu, -⟩ := Option.map_eq_some_iff.mp h
    obtain ⟨hu, hj⟩ := Option.filter_eq_some_iff.mp hu
    exact ⟨by simp [State.loaded, hu], u, hu, by simpa using hj⟩
  | header =>
    obtain ⟨r, hr, -⟩ := Option.map_eq_some_iff.mp h
    obtain ⟨hr, hj⟩ := Option.filter_eq_some_iff.mp hr
    exact ⟨by simp [State.loaded, hr], r, hr, by simpa using hj⟩

/-! ## Records appended (10, R166) -/

/-- Every event of a block's work is appended, stamped with the count and the position of the moment. -/
theorem notes_appends {s : State} {ns : List Note} {n : Note} (h : n ∈ ns) :
    s.Appends (s.notes ns) ⟨s.fc.count, s.fc.position, n⟩ :=
  ⟨ns.map fun n => ⟨s.fc.count, s.fc.position, n⟩, by simp only [State.notes, List.foldl_map],
    List.mem_map.mpr ⟨n, h, rfl⟩⟩

/-- What one stretch of work appended stays among what it and a later one append. -/
theorem Appends_then {s t u : State} {r : EventRecord} (h : s.Appends t r) (rs : List EventRecord)
    (k : u.events = rs.foldl EventList.append t.events) : s.Appends u r := by
  obtain ⟨qs, hq, hr⟩ := h
  exact ⟨qs ++ rs, by rw [k, hq, List.foldl_append], List.mem_append.mpr (Or.inl hr)⟩

/-- What is appended after other records is among them all. -/
theorem Appends_after {s t u : State} {r : EventRecord} (rs : List EventRecord)
    (k : t.events = rs.foldl EventList.append s.events) (h : t.Appends u r) : s.Appends u r := by
  obtain ⟨qs, hq, hr⟩ := h
  exact ⟨rs ++ qs, by rw [hq, k, List.foldl_append], List.mem_append.mpr (Or.inr hr)⟩

/-! ## Stops (07, R115) -/

/-- A stop leaves the unit `stopped`, off its ladder's stack. -/
theorem stopOne_seq (e : SeqEnv) (l : LadderId) (p : Nat) (w : Work) :
    (w.stopOne e l p).seq = w.seq.setLadder l
      (((w.seq.ladder l).modUnit p fun u => u.stopped (w.seq.ladder l).periods (e.setpoint l)).remove p) := by
  cases l <;> rfl

/-! ## An evaluation of the storage mode (09, R152, R153) -/

/-- The scheduler's work touches its own state and the event list alone. -/
theorem schedule_frame (f : CycleCount → Option (Nat × Branch) → Scheduler → Scheduler × List Note) (s : State) :
    s.schedule f = { s with store := (f s.fc.count s.storage s.store).1, events := (s.schedule f).events } := rfl

/-- The write of the mode touches the branch records alone. -/
theorem writeStorageCmd_frame (s : State) :
    s.writeStorageCmd = { s with branches := s.writeStorageCmd.branches } := by
  unfold State.writeStorageCmd State.setBranch
  repeat' split
  all_goals rfl

/-- An evaluation touches the records, the scheduler and the event list alone. -/
theorem evaluateMode_frame (s : State) :
    s.evaluateMode = { s with
      branches := s.evaluateMode.branches, store := (Scheduler.evaluate s.fc.count s.storage s.store).1,
      events := s.evaluateMode.events } := by
  unfold State.evaluateMode
  rw [writeStorageCmd_frame, schedule_frame]

/-! ## The setpoint (05, R87) -/

/-- The ramp moves the setpoint by at most one step, and never past the target. -/
theorem ramp_bounds (step sp target : Nat) :
    (sp ≤ target → sp ≤ ramp step sp target ∧ ramp step sp target ≤ min (sp + step) target) ∧
    (target ≤ sp → target ≤ ramp step sp target ∧ ramp step sp target ≤ sp ∧ sp ≤ ramp step sp target + step) := by
  simp only [ramp]
  constructor <;> intro h <;> split <;> omega

theorem nextSetpoint_within {lim : Limits} (h : lim.dpMin ≤ lim.dpMax) (sp target : Nat) :
    lim.dpMin ≤ nextSetpoint lim sp target ∧ nextSetpoint lim sp target ≤ lim.dpMax :=
  ⟨le_clamp _ _ _, clamp_le _ h⟩

end Sys2Proof.Machine
end

