-- ==== Sys2Proof/Laws/PerInstr.lean ====
section
/-! SUPPORT. The per-command family `RequestFrames`: the link frame of a well-formed request has a request kind of 12.3
(1 to 33, the reply flag clear) and a body that fits a frame; one lemma for each command. -/

namespace Sys2Proof.Laws.RequestFrames

/-- The frame of a well-formed request has a kind of 12.3 and a body of at most 240 octets (12, R182). -/
def Statement (i : Instr) : Prop :=
  ∀ p f, requestFrame i = some (p, f) → i.wf = true →
    1 ≤ f.kind.toNat ∧ f.kind.toNat ≤ 33 ∧ f.body.length ≤ Machine.maxBody

/-- An event has no frame. -/
theorem noFrame {i : Instr} (h : requestFrame i = none) : Statement i := by
  intro p f e
  rw [h] at e
  cases e

/-- A request of a kind of 12.3 whose body fits. -/
theorem frame {i : Instr} {p : Port} {tag kind : Octet} {body : List Octet}
    (h : requestFrame i = some (p, ⟨tag, kind, body⟩)) (k : 1 ≤ kind.toNat ∧ kind.toNat ≤ 33)
    (short : i.wf = true → body.length.ble Machine.maxBody = true) : Statement i := by
  intro q g e w
  rw [h] at e
  cases e
  exact ⟨k.1, k.2, Nat.le_of_ble_eq_true (short w)⟩

/-- What `wfBody` decides. -/
theorem ble_of_wfBody {n m : Nat} (w : wfBody m = true) (h : n = m) : n.ble Machine.maxBody = true := by
  subst h
  exact Nat.ble_eq_true_of_le (of_decide_eq_true w)

theorem branchLoad (p : Port) (tag : Octet) (b : BranchLoadBody) : Statement (.branchLoad p tag b) :=
  frame rfl (by decide) fun w => ble_of_wfBody w (by
    simp [Machine.branchLoadOctets]; omega)

theorem branchRelease (p : Port) (tag : Octet) (index : Octet) : Statement (.branchRelease p tag index) :=
  frame rfl (by decide) fun _ => rfl

theorem readBranch (p : Port) (tag : Octet) (index : Octet) : Statement (.readBranch p tag index) :=
  frame rfl (by decide) fun _ => rfl

theorem slotMapWrite (p : Port) (tag : Octet) (first count : Octet) (entries : List Octet) : Statement (.slotMapWrite p tag first count entries) :=
  frame rfl (by decide) fun w => ble_of_wfBody w (by
    simp; omega)

theorem cycleSet (p : Port) (tag : Octet) (period : Half) : Statement (.cycleSet p tag period) :=
  frame rfl (by decide) fun _ => rfl

theorem fieldPass (p : Port) (tag : Octet) (address : Octet) (payload : List Octet) : Statement (.fieldPass p tag address payload) :=
  frame rfl (by decide) fun w => ble_of_wfBody w (Nat.add_comm _ _)

theorem goLive (p : Port) (tag : Octet) : Statement (.goLive p tag) :=
  frame rfl (by decide) fun _ => rfl

theorem meterSnapshot (p : Port) (tag : Octet) : Statement (.meterSnapshot p tag) :=
  frame rfl (by decide) fun _ => rfl

theorem readSnapshot (p : Port) (tag : Octet) (index : Octet) : Statement (.readSnapshot p tag index) :=
  frame rfl (by decide) fun _ => rfl

theorem plantLimitsSet (p : Port) (tag : Octet) (b : LimitsBody) : Statement (.plantLimitsSet p tag b) :=
  frame rfl (by decide) fun _ => rfl

theorem readPlant (p : Port) (tag : Octet) : Statement (.readPlant p tag) :=
  frame rfl (by decide) fun _ => rfl

theorem unitLoad (p : Port) (tag : Octet) (b : UnitLoadBody) : Statement (.unitLoad p tag b) :=
  frame rfl (by decide) fun w => ble_of_wfBody w (by
    simp [Machine.unitLoadOctets]; omega)

theorem ladderRotate (p : Port) (tag : Octet) (ladder : Octet) : Statement (.ladderRotate p tag ladder) :=
  frame rfl (by decide) fun _ => rfl

theorem stageHold (p : Port) (tag : Octet) (selection : Octet) : Statement (.stageHold p tag selection) :=
  frame rfl (by decide) fun _ => rfl

theorem stageFree (p : Port) (tag : Octet) (selection : Octet) : Statement (.stageFree p tag selection) :=
  frame rfl (by decide) fun _ => rfl

theorem readUnit (p : Port) (tag : Octet) (ladder position : Octet) : Statement (.readUnit p tag ladder position) :=
  frame rfl (by decide) fun _ => rfl

theorem readLadder (p : Port) (tag : Octet) (ladder : Octet) : Statement (.readLadder p tag ladder) :=
  frame rfl (by decide) fun _ => rfl

theorem unitHand (p : Port) (tag : Octet) (ladder position demand : Octet) : Statement (.unitHand p tag ladder position demand) :=
  frame rfl (by decide) fun _ => rfl

theorem unitAuto (p : Port) (tag : Octet) (ladder position : Octet) : Statement (.unitAuto p tag ladder position) :=
  frame rfl (by decide) fun _ => rfl

theorem unitClear (p : Port) (tag : Octet) (ladder position : Octet) : Statement (.unitClear p tag ladder position) :=
  frame rfl (by decide) fun _ => rfl

theorem unitDisable (p : Port) (tag : Octet) (ladder position : Octet) : Statement (.unitDisable p tag ladder position) :=
  frame rfl (by decide) fun _ => rfl

theorem unitEnable (p : Port) (tag : Octet) (ladder position : Octet) : Statement (.unitEnable p tag ladder position) :=
  frame rfl (by decide) fun _ => rfl

theorem timerPeriodSet (p : Port) (tag : Octet) (ladder kind : Octet) (period : Half) : Statement (.timerPeriodSet p tag ladder kind period) :=
  frame rfl (by decide) fun _ => rfl

theorem timerReload (p : Port) (tag : Octet) (ladder position kind : Octet) : Statement (.timerReload p tag ladder position kind) :=
  frame rfl (by decide) fun _ => rfl

theorem timeSet (p : Port) (tag : Octet) (minute : Half) (second : Octet) : Statement (.timeSet p tag minute second) :=
  frame rfl (by decide) fun _ => rfl

theorem windowSet (p : Port) (tag : Octet) (count : Octet) (windows : List Octet) : Statement (.windowSet p tag count windows) :=
  frame rfl (by decide) fun w => ble_of_wfBody w (Nat.add_comm _ _)

theorem windowReload (p : Port) (tag : Octet) : Statement (.windowReload p tag) :=
  frame rfl (by decide) fun _ => rfl

theorem readStorage (p : Port) (tag : Octet) : Statement (.readStorage p tag) :=
  frame rfl (by decide) fun _ => rfl

theorem channelSet (p : Port) (tag : Octet) (channel edge action : Octet) : Statement (.channelSet p tag channel edge action) :=
  frame rfl (by decide) fun _ => rfl

theorem readCapture (p : Port) (tag : Octet) (channel : Octet) : Statement (.readCapture p tag channel) :=
  frame rfl (by decide) fun _ => rfl

theorem releaseStop (p : Port) (tag : Octet) : Statement (.releaseStop p tag) :=
  frame rfl (by decide) fun _ => rfl

theorem readEvents (p : Port) (tag : Octet) : Statement (.readEvents p tag) :=
  frame rfl (by decide) fun _ => rfl

theorem restart (p : Port) (tag : Octet) : Statement (.restart p tag) :=
  frame rfl (by decide) fun _ => rfl

theorem linkFrameComplete (p : Port) (octets : List Octet) : Statement (.linkFrameComplete p octets) :=
  noFrame rfl

theorem heldFrameTaken (p : Port) : Statement (.heldFrameTaken p) :=
  noFrame rfl

theorem receiverGap (p : Port) : Statement (.receiverGap p) :=
  noFrame rfl

theorem transmitFrameSent (p : Port) : Statement (.transmitFrameSent p) :=
  noFrame rfl

theorem cycleStart : Statement (.cycleStart) :=
  noFrame rfl

theorem mappedSlot : Statement (.mappedSlot) :=
  noFrame rfl

theorem fieldReplyReceived (octets : List Octet) : Statement (.fieldReplyReceived octets) :=
  noFrame rfl

theorem replyWindowClose : Statement (.replyWindowClose) :=
  noFrame rfl

theorem openSlot : Statement (.openSlot) :=
  noFrame rfl

theorem cycleEnd : Statement (.cycleEnd) :=
  noFrame rfl

theorem secondMark : Statement (.secondMark) :=
  noFrame rfl

theorem proveExpiry (l : LadderId) (position : Nat) : Statement (.proveExpiry l position) :=
  noFrame rfl

theorem stopExpiry (l : LadderId) (position : Nat) : Statement (.stopExpiry l position) :=
  noFrame rfl

theorem runExpiry (l : LadderId) (position : Nat) : Statement (.runExpiry l position) :=
  noFrame rfl

theorem restExpiry (l : LadderId) (position : Nat) : Statement (.restExpiry l position) :=
  noFrame rfl

theorem upExpiry (l : LadderId) : Statement (.upExpiry l) :=
  noFrame rfl

theorem downExpiry (l : LadderId) : Statement (.downExpiry l) :=
  noFrame rfl

theorem windowBoundary : Statement (.windowBoundary) :=
  noFrame rfl

theorem inputEdge (input : Nat) (high : Bool) : Statement (.inputEdge input high) :=
  noFrame rfl

theorem coldReset : Statement (.coldReset) :=
  noFrame rfl

theorem rstRelease (shadow : Bool) (rate : BitVec 2) : Statement (.rstRelease shadow rate) :=
  noFrame rfl

theorem linkOctetReceived (p : Port) (octet : Octet) : Statement (.linkOctetReceived p octet) :=
  noFrame rfl

end Sys2Proof.Laws.RequestFrames
end

