-- ==== Sys2Proof/Tests/Slice0.lean ====
section
/-! SUPPORT. The model's own tests: an ill-formed term for each check of `Instr.wf`, the CRC and the frames of 12, the
worked examples of the manual, and for each statement with premises a state and operands that meet them. -/

namespace Sys2Proof.Tests

open Sys2Proof.Machine

/-! ## Well-formedness -/

/-- A descriptor body with `rest` after it. -/
def loadBody (index address guardCode typeCode : Octet) (rest : List Octet) : BranchLoadBody :=
  ⟨index, typeCode, address, guardCode, 300, 1, 700, 150, 3, 0, 400, 100, 800, 2000, 600, rest⟩

theorem test_wf_branchLoad : (Instr.branchLoad .panel 0 (loadBody 0 1 0 1 (List.replicate 219 0))).wf = false := by
  decide +kernel
theorem test_wf_slotMapWrite : (Instr.slotMapWrite .panel 0 0 64 (List.replicate 239 0)).wf = false := by decide +kernel
theorem test_wf_fieldPass : (Instr.fieldPass .panel 0 1 (List.replicate 240 0)).wf = false := by decide +kernel
theorem test_wf_unitLoad : (Instr.unitLoad .panel 0 ⟨1, 1, 1, 1, 0, List.replicate 236 0⟩).wf = false := by decide +kernel
theorem test_wf_windowSet : (Instr.windowSet .panel 0 8 (List.replicate 240 0)).wf = false := by decide +kernel
theorem test_wf_linkFrame :
    (Instr.linkFrameComplete .panel []).wf = false ∧
    (Instr.linkFrameComplete .panel [0, 1, 24, 0]).wf = false ∧
    (Instr.linkFrameComplete .panel (List.replicate 246 241)).wf = false := by decide +kernel
theorem test_wf_fieldReply : (Instr.fieldReplyReceived []).wf = false := by decide +kernel
theorem test_wf_expiries :
    (Instr.proveExpiry .chiller 9).wf = false ∧ (Instr.stopExpiry .pump 7).wf = false ∧
    (Instr.runExpiry .pump 0).wf = false ∧ (Instr.restExpiry .chiller 0).wf = false := by decide +kernel
theorem test_wf_inputEdge : (Instr.inputEdge 0 true).wf = false ∧ (Instr.inputEdge 9 true).wf = false := by decide +kernel

/-! ## Frames and the CRC (12, R182) -/

/-- The check value of the CRC: the digits 1 to 9 give 29B1. -/
theorem test_crc : crc16 [0x31, 0x32, 0x33, 0x34, 0x35, 0x36, 0x37, 0x38, 0x39] = 0x29B1#16 := by decide +kernel

/-- The example of 12: branch 3 at address 31 is sent its ceiling 850 in seven octets. -/
theorem test_pollFrame :
    (pollFrame false true 31 (some (be 2 850))).take 5 = [31, 2, 2, 0x03, 0x52] ∧
    (pollFrame false true 31 (some (be 2 850))).length = 7 ∧
    (pollFrame true true 31 (some (be 2 850))).length = 5 := by decide +kernel

/-- The reply of the same example is judged good and read; with a status of 3 it is not of the form. -/
theorem test_consumerReply :
    judgeField 31 (fieldFrame 31 4 (0 :: (be 2 550 ++ be 2 1320 ++ be 2 4230 ++ be 2 1100 ++ be 2 720)))
      = .good (0 :: (be 2 550 ++ be 2 1320 ++ be 2 4230 ++ be 2 1100 ++ be 2 720)) ∧
    consumerReply (0 :: (be 2 550 ++ be 2 1320 ++ be 2 4230 ++ be 2 1100 ++ be 2 720))
      = some (.alive false ⟨550, 1320, 4230, .consumer 1100 720⟩) ∧
    consumerReply (3 :: (be 2 550 ++ be 2 1320 ++ be 2 4230 ++ be 2 1100 ++ be 2 720)) = none := by decide +kernel

/-! ## Worked examples -/

/-- 01, a consumer branch through a run of misses: cycles 2 to 8 with K_stale 3 and K_lost 10. -/
theorem test_freshnessRun :
    freshnessTable 3 10 .online 0 .silent = (.held, 1) ∧ freshnessTable 3 10 .held 1 .silent = (.held, 2) ∧
    freshnessTable 3 10 .held 2 .silent = (.stale, 3) ∧ freshnessTable 3 10 .stale 3 .fault = (.stale, 4) ∧
    freshnessTable 3 10 .stale 9 .silent = (.lost, 10) ∧
    freshnessTable 3 10 .stale 6 (.fresh false) = (.online, 0) := by decide +kernel

/-- 02, a cycle with a stale branch: six mapped slots at rate 1 fit the period of 10; 64 of them at rate 0 do not. -/
theorem test_effectivePeriod : effectivePeriod 10 1 6 = 10 ∧ effectivePeriod 10 0 64 = 26 := by decide +kernel

/-- 03, cycle A of the four cycles of branch 7. -/
theorem test_meterFresh :
    meterFresh 20 7 ⟨5000000, 30000, 12000, 0, 2000000, 0, 1300000, false, false⟩
        ⟨550, 1320, 4230, .consumer 1100 720⟩
      = (⟨5000758, 10440, 12000, 0, 2000084, 600, 1363422, false, false⟩, []) := by decide +kernel

/-- 03, cycle B: silent, the last power goes to the estimated energy. -/
theorem test_meterEstimated :
    meterEstimated 20 7 1363422 ⟨5000758, 10440, 12000, 0, 2000084, 600, 1363422, false, false⟩
      = (⟨5000758, 10440, 12757, 16440, 2000084, 600, 1363422, false, false⟩, []) := by decide +kernel

/-- 03, cycle D: reversed sensors, dT 0, the event with detail -10. -/
theorem test_meterReversed :
    meterFresh 20 7 ⟨5001479, 4287, 12757, 16440, 2000170, 700, 1235707, false, false⟩
        ⟨600, 590, 3900, .consumer 1100 720⟩
      = (⟨5001479, 4287, 12757, 16440, 2000248, 700, 0, false, true⟩, [⟨.reversedDt, 7, -10⟩]) := by decide +kernel

/-- The descriptor of branch 14 in 04, section 4.12, at a station address and with a guard. -/
def desc14 (address : Nat) (g : Guard) : BranchDesc :=
  ⟨address, g, 300, .coarse, 700, 150, 3, true, 400, 100, 800, 2000, 600⟩

/-- 04, section 4.12, cycles 3, 4 and 8: the first step, a flow below the qualifying flow, over contract. -/
theorem test_throttle :
    (desc14 14 .anyone).contract = 4815 ∧
    evaluateThrottle (desc14 14 .anyone) ⟨500, 1010, 4100, .consumer 0 0⟩ ⟨2, .none, 1000⟩ = ⟨3, .lowDt, 900⟩ ∧
    evaluateThrottle (desc14 14 .anyone) ⟨500, 800, 900, .consumer 0 0⟩ ⟨3, .lowDt, 900⟩ = ⟨3, .lowDt, 800⟩ ∧
    evaluateThrottle (desc14 14 .anyone) ⟨500, 1100, 5000, .consumer 0 0⟩ ⟨1, .lowDt, 600⟩
      = ⟨0, .overContract, 500⟩ := by decide +kernel

/-- 05, section 5.12: the setpoints of cycles 1, 2 and 4, and the target held down to the ceiling. -/
theorem test_setpoint :
    nextSetpoint .reset 2380 (targetOf .reset 2350 3200) = 2430 ∧
    nextSetpoint .reset 2430 (targetOf .reset 2340 3190) = 2440 ∧
    targetOf .reset 3200 3160 = 3160 ∧ nextSetpoint .reset 2400 3160 = 2450 := by decide +kernel

/-- 09, section 9.10: the increment that would pass the capacity is cut, and a discharge takes it down. -/
theorem test_charge :
    chargeAfter 1440000000000 1439840000000 (8100000 * 20) .charging = 1440000000000 ∧
    chargeAfter 1440000000000 1440000000000 (7000000 * 20) .discharging = 1439860000000 := by decide +kernel

/-- 09, section 9.10: between midnight and the first window the last one is current; at 13:00 the window of 780. -/
theorem test_currentWindow :
    let schedule : List TariffWindow :=
      [⟨420, .hold, 0⟩, ⟨780, .discharge, 6000⟩, ⟨1080, .hold, 0⟩, ⟨1320, .charge, 9000⟩]
    ({ Scheduler.reset with clock := some ⟨60, 0⟩, active := schedule }).findWindow = some ⟨1320, .charge, 9000⟩ ∧
    ({ Scheduler.reset with clock := some ⟨780, 0⟩, active := schedule }).findWindow
      = some ⟨780, .discharge, 6000⟩ := by decide +kernel

/-! ## Small states -/

/-- RST released over an empty part. -/
def bare : State := { State.reset with rst := false }

/-- Empty, in shadow mode. -/
def bareShadow : State := { bare with fc := { bare.fc with shadow := true } }

/-- A station ONLINE with nothing in the cycle in progress. -/
def calm (α : Type) : Station α := ⟨.online, 0, false, false, none, false, none⟩

/-- A CONSUMER record. -/
def consumerAt (address : Nat) (g : Guard) (st : Station BranchValues) : Branch :=
  ⟨desc14 address g, st, ⟨0, 0, 0, 0, 0, 0, 0, false, false⟩, .consumer ⟨0, .none, 1000⟩ none none⟩

/-- A STORAGE record. -/
def tankAt (address : Nat) (g : Guard) : Branch :=
  ⟨desc14 address g, calm _, ⟨0, 0, 0, 0, 0, 0, 0, false, false⟩, .storage ⟨40000, 8000, 10000⟩ none none⟩

/-- A unit with idle timers. -/
def unitAt (address : Nat) (st : UnitState) : PlantUnit :=
  { address := address, guard := .anyone, capacity := 0, state := st, station := calm _, commLost := false,
    intent := none, next := none, current := none, prove := .idle, stop := .idle, run := .idle, rest := .idle }

/-- One chiller and one pump at their ladders' first positions. -/
def plant (chiller pump : PlantUnit) : State :=
  (bare.setUnit .chiller 1 (some chiller)).setUnit .pump 1 (some pump)

/-- The start stacks of a state set. -/
def stacked (chillers pumps : List Nat) (s : State) : State :=
  { s with seq := { s.seq with
      chillers := { s.seq.chillers with stack := chillers }, pumps := { s.seq.pumps with stack := pumps } } }

/-- A branch table with one record. -/
def withBranch (i : Nat) (b : Branch) : State := bare.setBranch i (some b)

/-- The controller of an empty part in the middle of a cycle. -/
def inCycle (f : FieldCycle → FieldCycle) (s : State) : State := { s with fc := f { s.fc with position := 0 } }

/-- The window of a slot that polls address 31. -/
def slotWindow (target : WindowTarget) (v : Verdict) (fc : FieldCycle) : FieldCycle :=
  { fc with window := some ⟨target, 31, v⟩ }

/-- A due cycle end. -/
def closing (s : State) : State := inCycle (fun fc => { fc with openBegun := true }) s

/-- A pass of the supervisory port. -/
def onePass : PassEntry := ⟨.supervisory, 44, 200, [1]⟩

/-- The channel n of an empty part changed. -/
def withChannel (n : Nat) (f : Channel → Channel) : State :=
  { bare with inputs := { bare.inputs with channels := bare.inputs.channels.modify (n - 1) f } }

/-- A port of an empty part changed. -/
def withPort (p : Port) (f : LinkPort → LinkPort) : State := bare.setPort p (f (bare.port p))

/-- What a test on each loaded branch says of every index. -/
theorem everyBranch {s : State} {P : Branch → Prop} [DecidablePred P]
    (h : (s.branches.all fun b => b.all fun x => decide (P x)) = true) : ∀ i b, s.branch? i = some b → P b := by
  intro i b hb
  have hm : some b ∈ s.branches := by
    unfold State.branch? at hb
    cases hg : s.branches[i]? with
    | none => simp [hg] at hb
    | some o =>
      rw [hg, Option.join_some] at hb
      subst hb
      exact List.mem_of_getElem? hg
  simpa using List.all_eq_true.mp h _ hm

/-- What a test on each unit of a ladder says of its units. -/
theorem everyUnit {us : List (Option PlantUnit)} {P : PlantUnit → Prop} [DecidablePred P]
    (h : (us.all fun u => u.all fun x => decide (P x)) = true) : ∀ u, some u ∈ us → P u := by
  intro u hu
  simpa using List.all_eq_true.mp h _ hu

/-- What a test on each unit of a ladder says of every position. -/
theorem everyPosition {s : State} {l : LadderId} {P : PlantUnit → Prop} [DecidablePred P]
    (h : ((s.seq.ladder l).units.all fun u => u.all fun x => decide (P x)) = true) :
    ∀ n u, s.unit? l n = some u → P u := by
  intro n u hu
  refine everyUnit h u ?_
  unfold State.unit? Ladder.unitAt at hu
  cases n with
  | zero => cases hu
  | succ n =>
    cases hg : (s.seq.ladder l).units[n]? with
    | none => simp [hg] at hu
    | some o =>
      simp only [hg, Option.join_some] at hu
      subst hu
      exact List.mem_of_getElem? hg

/-- A unit stands within its ladder. -/
theorem position_le {s : State} {l : LadderId} {k : Nat} (h : (s.seq.ladder l).units.length ≤ k) :
    ∀ n u, s.unit? l n = some u → n ≤ k := by
  intro n u hu
  by_contra hn
  match n with
  | 0 => exact hn (Nat.zero_le k)
  | n + 1 =>
    have hl : (s.seq.ladder l).units[n]? = none := List.getElem?_eq_none (by omega)
    have hj : ((s.seq.ladder l).units[n]?).join = some u := hu
    rw [hl] at hj
    cases hj

/-- What a command leaves, tested. -/
def leaves (c : Instr) (s : State) (f : State → Bool) : Bool :=
  match exec c s with
  | .next t => f t
  | _ => false

/-- Channels 7 and 8 of an empty part are as last taken. -/
theorem bare_taken : ∀ n c, n = 7 ∨ n = 8 → bare.inputs.channel n = some c → c.level = bare.inputs.pin n := by
  rintro n c (rfl | rfl) h <;> (cases h; rfl)

/-! ## What meets the premises of each statement -/

theorem test_StepRunsFrontCommand_premise : State.reset.pending = [] := rfl

theorem test_CommandsLeaveTheQueue_premises :
    exec .secondMark bare = .next bare ∧
    step { bare with pending := [.secondMark, .coldReset] } = .next { bare with pending := [.coldReset] } :=
  ⟨rfl, rfl⟩

theorem test_OnlyImpossibleCommandsStop_premises :
    (Instr.proveExpiry .chiller 8).wf = true ∧ (Instr.inputEdge 1 true).wf = true ∧ (Instr.inputEdge 8 true).wf = true ∧
    (ladderSize .chiller < 9 ∧ ladderSize .pump < 7 ∧ 8 < 9) := by decide +kernel

theorem test_RstReleaseStarts_premises : State.reset.rst = true ∧ bare.rst = false := ⟨rfl, rfl⟩

theorem test_AssertedResetTakesNothing_premises :
    State.reset.rst = true ∧ Instr.cycleStart.wf = true ∧ Instr.cycleStart ≠ .coldReset ∧
    (∀ a b, Instr.cycleStart ≠ .rstRelease a b) ∧ (∀ p, Instr.cycleStart ≠ .transmitFrameSent p) ∧
    ∀ n h, Instr.cycleStart ≠ .inputEdge n h :=
  ⟨rfl, rfl, by decide, (fun _ _ h => nomatch h), (fun _ h => nomatch h), (fun _ _ h => nomatch h)⟩

/-- A port whose immediate reply waits. -/
def answering (x : LinkPort) : LinkPort := { x with tx := [replyFrame 1 24 .done []] }

/-- A port that holds a READ PLANT. -/
def holding (x : LinkPort) : LinkPort := { x with heldFrame := some ⟨7, 27, []⟩ }

theorem test_BusyPortHoldsOneFrame_premises :
    requestFrame (.readPlant .panel 7) = some (.panel, ⟨7, 27, []⟩) ∧
    ((withPort .panel holding).rst = false ∧ ((withPort .panel holding).port .panel).heldFrame ≠ none) ∧
    ((withPort .panel answering).rst = false ∧ ((withPort .panel answering).port .panel).heldFrame = none ∧
      ∃ r ∈ ((withPort .panel answering).port .panel).tx, r.immediate = true) :=
  ⟨rfl, ⟨rfl, by decide +kernel⟩, rfl, rfl, replyFrame 1 24 .done [], List.mem_singleton.mpr rfl, rfl⟩

theorem test_FrameIsItsRequest_premises :
    requestFrame (.readPlant .panel 7) = some (.panel, ⟨7, 27, []⟩) ∧ (Instr.readPlant .panel 7).wf = true ∧
    requestFrame (.fieldPass .panel 7 1 (List.replicate 239 0)) = some (.panel, ⟨7, 22, 1 :: List.replicate 239 0⟩) ∧
    (Instr.fieldPass .panel 7 1 (List.replicate 239 0)).wf = true ∧
    bare.rst = false ∧ (bare.port .panel).receiver = .hunt := by decide +kernel

theorem test_OctetsMakeTheFrame_premises :
    ([] : List Octet).length ≤ 240 ∧ (List.replicate 240 (0 : Octet)).length ≤ 240 ∧ bare.rst = false ∧
    (bare.port .supervisory).receiver = .hunt := by decide +kernel

theorem test_HeldFrameIsItsRequest_premises :
    ((withPort .panel holding).rst = false ∧
      requestFrame (.readPlant .panel 7) = some (.panel, ⟨7, 27, []⟩) ∧
      ((withPort .panel holding).port .panel).heldFrame = some ⟨7, 27, []⟩ ∧
      ((withPort .panel holding).port .panel).busy = false) ∧
    (bare.port .panel).heldFrame = none ∧ ((withPort .panel answering).port .panel).busy = true := by decide +kernel

theorem test_FramesThatAreNoRequest_premises :
    (bare.rst = false ∧ (bare.port .panel).receiver = .hunt ∧ bare.Ready .panel) ∧
    (linkComplete [0, 1, 27, 0, 0] = true ∧ crcMatches [0, 1, 27, 0, 0] = false) ∧
    (128 ≤ (128 : Octet).toNat ∧ 128 ≤ (255 : Octet).toNat) ∧
    (34 ≤ (34 : Octet).toNat ∧ (127 : Octet).toNat < 128) ∧
    ([] : List Octet).length < 22 ∧ 28 < (List.replicate 29 (0 : Octet)).length ∧ 0 < [(0 : Octet)].length := by
  unfold State.Ready
  decide +kernel

theorem test_ReceiverTable_premises :
    (bare.rst = false ∧ (bare.port .panel).receiver = .hunt) ∧
    (((withPort .panel fun x => { x with receiver := .receiving [] }).port .panel).receiver = .receiving [] ∧
      (240 : Octet).toNat ≤ 240 ∧ 241 ≤ (241 : Octet).toNat) ∧
    (((withPort .panel fun x => { x with receiver := .receiving [0, 1, 27] }).port .panel).receiver
        = .receiving (0 :: [1, 27]) ∧ [(1 : Octet), 27].length + 2 < (0 : Octet).toNat + 5) ∧
    ((withPort .panel fun x => { x with receiver := .discarding }).port .panel).receiver = .discarding ∧
    ((withPort .panel answering).port .panel).tx = [replyFrame 1 24 .done []] := by decide +kernel

theorem test_PanelRequestsRefused_premises :
    bare.Ready .supervisory ∧ (placeOf 1 9 = none ∧ placeOf 3 1 = none) ∧
    (placeOf 1 8 = some (.chiller, 8) ∧ bare.unit? .chiller 8 = none) ∧
    (plant (unitAt 101 .off) (unitAt 201 .off)).Ready .supervisory ∧ placeOf 2 1 = some (.pump, 1) ∧
    (plant (unitAt 101 .off) (unitAt 201 .off)).unit? .pump 1 = some (unitAt 201 .off) := by
  unfold State.Ready
  decide +kernel

theorem test_RestartAborts_premises :
    let handled := plant { unitAt 101 (.hand .run) with guard := .panel } (unitAt 201 .running)
    (bare.Ready .panel ∧ bare.Ready .supervisory ∧ bare.fc.count + 1 ≠ 0) ∧
    (handled.Ready .supervisory ∧ some { unitAt 101 (.hand .run) with guard := .panel } ∈ (handled.seq.ladder .chiller).units) ∧
    (∀ l u d, some u ∈ ((plant (unitAt 101 (.hand .run)) (unitAt 201 .running)).seq.ladder l).units → u.guard = .panel →
      u.state ≠ .hand d) ∧
    ∀ n c, n = 7 ∨ n = 8 → bare.inputs.channel n = some c → c.level = bare.inputs.pin n := by
  refine ⟨⟨⟨rfl, rfl, rfl⟩, ⟨rfl, rfl, rfl⟩, by decide⟩, ⟨⟨rfl, rfl, rfl⟩, by decide +kernel⟩, ?_, bare_taken⟩
  intro l u d hu hg
  have ha : u.guard = .anyone := by
    cases l <;> exact everyUnit (P := fun u => u.guard = .anyone) (by decide +kernel) u hu
  rw [ha] at hg
  cases hg

theorem test_StorageLaw_bare : StorageLaw bare where
  single := by decide +kernel
  bound := by
    intro d h
    cases h
  full := by decide +kernel
  empty := by decide +kernel
  absent := fun _ => ⟨rfl, rfl⟩
  charge := fun h => nomatch h
  discharge := fun h => nomatch h

/-- The premises of a BRANCH LOAD, at index 47 from the panel and at index 0 from the host, CONSUMER and STORAGE. -/
theorem test_BranchLoadFills_premises :
    (bare.Ready .panel ∧ bare.Ready .supervisory) ∧
    ((loadBody 47 240 1 1 []).index.toNat ≤ 47 ∧ bare.branch? 47 = none ∧ bare.branch? 0 = none ∧
      (loadBody 47 240 1 1 []).typeCode = 1 ∧ (loadBody 47 240 1 1 []).rest = []) ∧
    (Guard.ofCode (loadBody 47 240 1 1 []).guardCode = some .panel ∧
      Guard.ofCode (loadBody 0 1 0 1 []).guardCode = some .anyone ∧
      Granularity.ofCode (loadBody 0 1 0 1 []).granularity = some .coarse ∧
      throttleOfCode (loadBody 0 1 0 1 []).throttle = some true) ∧
    (1 ≤ (loadBody 0 1 0 1 []).address.toNat ∧ (loadBody 47 240 1 1 []).address.toNat ≤ 240 ∧
      (loadBody 47 240 1 1 []).address.toNat ∉ bare.stations) ∧
    (loadBody 0 1 0 2 [0, 0, 1, 2, 3, 4]).typeCode = 2 ∧ (loadBody 0 1 0 2 [0, 0, 1, 2, 3, 4]).rest = [0, 0, 1, 2, 3, 4] ∧
    bare.storage = none ∧ bare.branches.length = 48 := by
  unfold State.Ready
  decide +kernel

/-- A CONSUMER record at index 47, address 31. -/
def consumer47 : State := withBranch 47 (consumerAt 31 .anyone (calm _))

/-- A STORAGE record at index 0, empty. -/
def tank0 : State :=
  { withBranch 0 (tankAt 32 .anyone) with store := { Scheduler.reset with empty := true } }

theorem test_StorageLaw : StorageLaw tank0 where
  single := by decide +kernel
  bound := by
    intro d h
    cases h
    decide
  full := by decide +kernel
  empty := by decide +kernel
  absent := fun h => nomatch h
  charge := fun h => nomatch h
  discharge := fun h => nomatch h

theorem test_BranchReloadKeeps_premises :
    (consumer47.Ready .panel ∧ consumer47.Ready .supervisory ∧ (loadBody 47 31 0 1 []).index.toNat ≤ 47 ∧
      consumer47.branch? (loadBody 47 31 0 1 []).index.toNat = some (consumerAt 31 .anyone (calm _)) ∧
      (consumerAt 31 .anyone (calm _)).desc.guard = .anyone ∧
      (consumerAt 31 .anyone (calm _)).part = .consumer ⟨0, .none, 1000⟩ none none) ∧
    ((loadBody 47 31 0 1 []).typeCode = 1 ∧ (loadBody 47 31 0 1 []).rest = [] ∧
      Guard.ofCode (loadBody 47 31 0 1 []).guardCode = some .anyone ∧
      Granularity.ofCode (loadBody 47 31 0 1 []).granularity = some .coarse ∧
      throttleOfCode (loadBody 47 31 0 1 []).throttle = some true) ∧
    ((loadBody 47 31 0 1 []).address.toNat = (consumerAt 31 .anyone (calm _)).desc.address ∧
      AddressesDistinct consumer47 ∧ (loadBody 47 240 0 1 []).address.toNat ≤ 240 ∧
      (loadBody 47 240 0 1 []).address.toNat ∉ consumer47.stations) ∧
    tank0.Ready .panel ∧ tank0.branch? (loadBody 0 32 0 2 [0, 1, 0, 0, 0, 0]).index.toNat = some (tankAt 32 .anyone) ∧
    (tankAt 32 .anyone).part = .storage ⟨40000, 8000, 10000⟩ none none ∧
    (loadBody 0 32 0 2 [0, 1, 0, 0, 0, 0]).typeCode = 2 ∧ AddressesDistinct tank0 ∧
    (loadBody 0 32 0 2 [0, 1, 0, 0, 0, 0]).address.toNat = (tankAt 32 .anyone).desc.address := by
  unfold State.Ready AddressesDistinct
  decide +kernel

theorem test_NullLoadEmpties_premises :
    (47#8).toNat ≤ 47 ∧ ((loadBody 47 0 0 0 []).index = 47 ∧ (loadBody 47 0 0 0 []).typeCode = 0) ∧
    (bare.Ready .supervisory ∧ bare.branch? 47 = none) ∧
    ((withBranch 47 (consumerAt 31 .panel (calm _))).Ready .supervisory ∧
      (withBranch 47 (consumerAt 31 .panel (calm _))).branch? 47 = some (consumerAt 31 .panel (calm _))) ∧
    (consumer47.Ready .supervisory ∧ consumer47.branch? 47 = some (consumerAt 31 .anyone (calm _)) ∧
      (consumerAt 31 .anyone (calm _)).isStorage = false) ∧
    tank0.Ready .panel ∧ tank0.branch? 0 = some (tankAt 32 .anyone) ∧ (tankAt 32 .anyone).isStorage = true := by
  unfold State.Ready
  decide +kernel

/-- A snapshot with an entry at index 47 alone. -/
def snap47 : Snapshot := ⟨5, 64, List.replicate 47 none ++ [some ⟨1, 2, 3, true⟩]⟩

theorem test_ReadsChangeNothing_premises :
    (bare.Ready .panel ∧ ladderOfCode 1 = some .chiller ∧ ladderOfCode 2 = some .pump ∧
      (6 : Octet).toNat ≤ ladderSize .pump ∧ 1 ≤ (1 : Octet).toNat ∧ (47 : Octet).toNat ≤ 47) ∧
    (bare.branch? 47 = none ∧ consumer47.Ready .panel ∧
      consumer47.branch? 47 = some (consumerAt 31 .anyone (calm _))) ∧
    (bare.unit? .pump 6 = none ∧ (plant (unitAt 101 .off) (unitAt 201 .off)).unit? .pump 1 = some (unitAt 201 .off)) ∧
    bare.snapshot = none ∧ ({ bare with snapshot := some snap47 } : State).Ready .panel ∧
    snap47.entries[0]? = some none ∧ snap47.entries[47]? = some (some ⟨1, 2, 3, true⟩) := by
  unfold State.Ready
  decide +kernel

theorem test_SnapshotTaken_premise : consumer47.Ready .supervisory := ⟨rfl, rfl, rfl⟩

theorem test_CycleSetHeld_premises :
    bare.Ready .panel ∧ (exec (.cycleSet .panel 1 601) bare = .next
      (({ bare with fc := { bare.fc with pCfg := 600 } } : State).hand .panel (replyFrame 1 6 .doneClamped []))) ∧
    (({ bare with fc := { bare.fc with pCfg := 600 } } : State).hand .panel
      (replyFrame 1 6 .doneClamped [])).fc.position = 65 ∧
    ∃ u, exec .cycleStart (({ bare with fc := { bare.fc with pCfg := 600 } } : State).hand .panel
      (replyFrame 1 6 .doneClamped [])) = .next u := by
  refine ⟨⟨rfl, rfl, rfl⟩, rfl, rfl, _, rfl⟩

theorem test_SlotMapWritten_premises :
    bare.Ready .supervisory ∧ bare.Ready .panel ∧
    ([⟨.branch 47, true⟩] : List SlotEntry) ≠ [] ∧ (63 : Octet).toNat + ([⟨.branch 47, true⟩] : List SlotEntry).length ≤ 64 ∧
    (0 : Octet).toNat + (List.replicate 64 (⟨.unbound, false⟩ : SlotEntry)).length ≤ 64 ∧
    ((Binding.branch 47).Valid ∧ (Binding.unit .chiller 8).Valid ∧ (Binding.unit .pump 1).Valid ∧
      Binding.unbound.Valid ∧ Binding.header.Valid) ∧
    ∀ e ∈ bare.fc.written ++ [⟨.branch 47, true⟩], bare.panelBound e.binding = false := by
  unfold State.Ready Binding.Valid
  decide +kernel

/-- An open-slot queue of n passes. -/
def queued (n : Nat) : State := { bare with fc := { bare.fc with queue := List.replicate n onePass } }

theorem test_FieldPassQueued_premises :
    (bare.Ready .panel ∧ bareShadow.Ready .panel ∧ (queued 3).Ready .panel ∧ (queued 4).Ready .panel) ∧
    (32 < (List.replicate 33 (0 : Octet)).length ∧ (List.replicate 32 (0 : Octet)).length ≤ 32) ∧
    ((0 : Octet).toNat = 0 ∧ 240 < (241 : Octet).toNat ∧ 1 ≤ (1 : Octet).toNat ∧ (240 : Octet).toNat ≤ 240) ∧
    bareShadow.fc.shadow = true ∧ bare.fc.shadow = false ∧ 4 ≤ (queued 4).fc.queue.length ∧
    (queued 3).fc.queue.length < 4 := by
  unfold State.Ready
  decide +kernel

/-- A chiller and a pump RUNNING in shadow mode. -/
def shadowPlant : State :=
  let s := stacked [1] [1] (plant (unitAt 101 .running) (unitAt 201 .running))
  { s with fc := { s.fc with shadow := true } }

theorem test_GoLiveStartsRunTimers_premises :
    (bare.Ready .panel ∧ bare.fc.shadow = false) ∧
    (bareShadow.Ready .panel ∧ bareShadow.fc.shadow = true ∧ bareShadow.inputs.stopLatch = false ∧
      ∀ u, some u ∈ bareShadow.seq.chillers.units → u.state ≠ .running) ∧
    (shadowPlant.Ready .panel ∧ shadowPlant.fc.shadow = true ∧ shadowPlant.inputs.stopLatch = false ∧
      ∃ u, some u ∈ shadowPlant.seq.pumps.units ∧ u.state = .running) ∧
    (∃ u, some u ∈ shadowPlant.seq.chillers.units ∧ u.state = .running) ∧
    (∀ u, some u ∈ bareShadow.seq.pumps.units → u.state ≠ .running) ∧
    ({ shadowPlant with inputs := { shadowPlant.inputs with stopLatch := true } } : State).inputs.stopLatch = true ∧
    (unitAt 101 .running).stoppable = true :=
  ⟨⟨⟨rfl, rfl, rfl⟩, rfl⟩, ⟨⟨rfl, rfl, rfl⟩, rfl, rfl, everyUnit (by decide +kernel)⟩, ⟨⟨rfl, rfl, rfl⟩, rfl, rfl,
    unitAt 201 .running, by decide +kernel, rfl⟩, ⟨unitAt 101 .running, by decide +kernel, rfl⟩,
    everyUnit (by decide +kernel), rfl, rfl⟩

/-- A STOP_ALL channel on rising edges. -/
def stopChannel (level : Bool) (c : Channel) : Channel := { c with edge := .rising, action := .stopAll, level := level }

/-- A channel with an unread record. -/
def unread (c : Channel) : Channel := { c with edge := .both, pending := true, record := some ⟨5, some 0, true, true⟩ }

/-- Channel 8 changed, its input high, taken low. -/
def risen (f : Channel → Channel) : State :=
  let s := withChannel 8 f
  { s with inputs := { s.inputs with pins := s.inputs.pins.set 7 true } }

theorem test_CycleStartLatches_premises :
    (bare.rst = false ∧ bare.fc.position = 65) ∧
    (∀ n c, n = 7 ∨ n = 8 → bare.inputs.channel n = some c → c.level = bare.inputs.pin n) ∧
    ((risen id).rst = false ∧ (risen id).fc.position = 65 ∧ (risen id).inputs.channel 8 = some .reset ∧
      (risen id).inputs.channel 7 = some .reset ∧ Channel.reset.level = (risen id).inputs.pin 7 ∧
      Channel.reset.level ≠ (risen id).inputs.pin 8 ∧ Channel.reset.edge.captures ((risen id).inputs.pin 8) = false) ∧
    ((risen unread).inputs.channel 8 = some (unread .reset) ∧ (unread .reset).level ≠ (risen unread).inputs.pin 8 ∧
      (unread .reset).edge.captures ((risen unread).inputs.pin 8) = true ∧ (unread .reset).action ≠ .stopAll) ∧
    (risen (stopChannel false)).inputs.channel 8 = some (stopChannel false .reset) ∧
    (stopChannel false .reset).level ≠ (risen (stopChannel false)).inputs.pin 8 ∧
    (stopChannel false .reset).edge.captures ((risen (stopChannel false)).inputs.pin 8) = true ∧
    (stopChannel false .reset).action = .stopAll ∧ ({ stopChannel false .reset with level := true } : Channel).active = true :=
  ⟨by decide +kernel, bare_taken, by decide +kernel⟩

/-- A STOP_ALL channel 8 that the sample finds active: in live mode the units stop. -/
theorem test_CycleStartLatches_stops :
    let s := { plant (unitAt 101 .running) (unitAt 201 .running) with inputs := (risen (stopChannel false)).inputs }
    s.rst = false ∧ s.fc.position = 65 ∧ s.inputs.stopLatch = false ∧ s.fc.shadow = false ∧
    leaves .cycleStart s (fun t => t.inputs.stopLatch && ((t.unit? .pump 1).any fun v => decide (v.state = .stopping)) &&
      (t.unit? .chiller 1).any fun v => decide (v.state = .stopping)) = true := by decide +kernel

/-- A cycle whose service list is position 63, bound as given. -/
def slot63 (b : Binding) (s : State) : State :=
  inCycle (fun fc => { fc with
    serviceList := [63], runningMap := List.replicate 63 ⟨.unbound, false⟩ ++ [⟨b, true⟩] }) s

/-- Position 63 of that cycle is due. -/
theorem slot63_due (b : Binding) (s : State) (h : s.rst = false) (w : s.fc.window = none) (v : s.fc.served = 0) :
    (slot63 b s).rst = false ∧ (slot63 b s).fc.position ≠ 65 ∧ (slot63 b s).fc.window = none ∧
    (slot63 b s).fc.serviceList[(slot63 b s).fc.served]? = some 63 ∧
    (slot63 b s).fc.runningMap[63]? = some ⟨b, true⟩ := by
  refine ⟨h, (fun e => Nat.noConfusion (show (0 : Nat) = 65 from e)), w, ?_, rfl⟩
  simp [slot63, inCycle, v]

theorem test_MappedSlotPolls_premises :
    let newcomer := consumerAt 31 .anyone { calm _ with joined := true }
    let unit : PlantUnit := { unitAt 201 .off with station := { calm _ with joined := true } }
    (slot63 (.branch 47) bare).loaded (.branch 47) = false ∧
    ((slot63 (.branch 47) consumer47).branch? 47 = some (consumerAt 31 .anyone (calm _)) ∧
      (consumerAt 31 .anyone (calm _)).station.joined = false ∧
      (slot63 (.branch 47) (withBranch 47 newcomer)).branch? 47 = some newcomer ∧ newcomer.station.joined = true) ∧
    ((slot63 (.branch 0) tank0).branch? 0 = some (tankAt 32 .anyone) ∧ (tankAt 32 .anyone).station.joined = false) ∧
    ((slot63 (.unit .pump 1) (plant (unitAt 101 .off) (unitAt 201 .off))).unit? .pump 1 = some (unitAt 201 .off) ∧
      (unitAt 201 .off).station.joined = false ∧
      (slot63 (.unit .pump 1) (plant (unitAt 101 .off) unit)).unit? .pump 1 = some unit ∧ unit.station.joined = true) ∧
    (slot63 .header { bare with header := some ⟨5, calm _, false⟩ }).header = some ⟨5, calm _, false⟩ ∧
    (slot63 .header { bare with header := some ⟨5, calm _, true⟩ }).header = some ⟨5, calm _, true⟩ := by decide +kernel

/-- A unit at chiller position 8 alone. -/
def at8 (u : PlantUnit) : State := bare.setUnit .chiller 8 (some u)

/-- Two chillers with a gap between them, the second on the stack, its window open. -/
def gapped : State :=
  inCycle (slotWindow (.unit .chiller 8) .waiting) (stacked [8] [] ((at8 (unitAt 102 .running)).setUnit .chiller 1
    (some (unitAt 101 .off))))

/-- A pass in flight, its window open with a verdict. -/
def passing (v : Verdict) : State :=
  inCycle (fun fc => { slotWindow .pass v fc with inFlight := some onePass }) bare

/-- The record at index 47 polled, its window open with a verdict. -/
def polled47 (v : Verdict) : State := inCycle (slotWindow (.branch 47) v) consumer47

theorem test_ReplyJudgedAndTaken_premises :
    ((polled47 .miss).rst = false ∧ (polled47 .miss).fc.window = some ⟨.branch 47, 31, .miss⟩ ∧
      Verdict.miss ≠ .waiting) ∧
    ((polled47 .waiting).rst = false ∧ (polled47 .waiting).fc.window = some ⟨.branch 47, 31, .waiting⟩) ∧
    ((List.replicate 32 (0 : Octet)).length ≤ 32 ∧ (1 : Octet) ≠ 4 ∧ (32 : Octet).toNat ≠ 31) ∧
    (31 :: 4 :: oct 0 :: ([] : List Octet) ++ [0, 0] ≠ fieldFrame (31 : Octet).toNat 4 []) ∧
    (polled47 .waiting).branch? 47 = some (consumerAt 31 .anyone (calm _)) ∧
    (consumerAt 31 .anyone (calm _)).isStorage = false ∧ 31 ≤ 255 ∧ 65535 < 65536 ∧ (2 : Octet).toNat ≤ 2 ∧
    3 ≤ (3 : Octet).toNat := by
  decide +kernel

/-- A window open on each kind of target: a STORAGE record, the header, a unit, a record that is gone, a pass. -/
theorem test_ReplyJudgedAndTaken_targets :
    let headed : State := { bare with header := some ⟨5, calm _, false⟩ }
    ((inCycle (slotWindow (.branch 0) .waiting) tank0).branch? 0 = some (tankAt 32 .anyone) ∧
      (tankAt 32 .anyone).isStorage = true) ∧
    (inCycle (slotWindow .header .waiting) headed).header = some ⟨5, calm _, false⟩ ∧
    gapped.fc.window = some ⟨.unit .chiller 8, 31, .waiting⟩ ∧ gapped.unit? .chiller 8 = some (unitAt 102 .running) ∧
    (inCycle (slotWindow (.branch 47) .waiting) bare).branch? 47 = none ∧
    (passing .waiting).fc.window = some ⟨.pass, 31, .waiting⟩ ∧
    leaves (.fieldReplyReceived (fieldFrame 31 4 [1, 1, 0xFF, 0xFF])) gapped (fun t => decide (t.unit? .chiller 8
      = some { unitAt 102 .running with station := { calm _ with cycle := some ⟨true, ⟨true, 3000⟩⟩ } })) = true := by
  decide +kernel

theorem test_OpenSlotServesOnePass_premises :
    ((polled47 .waiting).fc.window = some ⟨.branch 47, 31, .waiting⟩ ∧ WindowTarget.branch 47 ≠ .pass) ∧
    ((passing (.good [1])).rst = false ∧ (passing (.good [1])).fc.window = some ⟨.pass, 31, .good [1]⟩ ∧
      (passing (.good [1])).fc.inFlight = some onePass) ∧
    ((passing .miss).fc.window = some ⟨.pass, 31, .miss⟩ ∧ ∀ os, Verdict.miss ≠ .good os) ∧
    (inCycle id (queued 1)).fc.position ≠ 65 ∧ (inCycle id (queued 1)).fc.window = none ∧
    (inCycle id (queued 1)).fc.openBegun = false ∧
    (inCycle id (queued 1)).fc.serviceList.length ≤ (inCycle id (queued 1)).fc.served ∧
    (inCycle id (queued 1)).fc.lineShadow = false ∧ (inCycle id (queued 1)).fc.queue = onePass :: [] ∧
    (inCycle id bare).fc.queue = [] :=
  ⟨⟨rfl, by decide⟩, ⟨rfl, rfl, rfl⟩, ⟨rfl, fun _ h => nomatch h⟩, by decide, rfl, rfl, by decide, rfl, rfl, rfl⟩

/-- A PLANT LIMITS SET body with the defaults but for the two bounds and the header address. -/
def limitsBody (dpMin dpMax : Half) (address : Octet) : LimitsBody :=
  ⟨dpMin, dpMax, 1500, 100, 50, 50, 950, 550, 50, 90, 80, 950, 400, 3, 10, address⟩

theorem test_PlantLimitsReplaced_premises :
    (bare.Ready .panel ∧ consumer47.Ready .panel) ∧
    (min 10000 (limitsBody 501 500 0).dpMax.toNat < min 10000 (limitsBody 501 500 0).dpMin.toNat) ∧
    (min 10000 (limitsBody 1500 1500 240).dpMin.toNat ≤ min 10000 (limitsBody 1500 1500 240).dpMax.toNat) ∧
    (240 < (limitsBody 1500 1500 241).headerAddress.toNat ∧
      (∃ i x, consumer47.branch? i = some x ∧ x.desc.address = (limitsBody 1500 1500 31).headerAddress.toNat)) ∧
    ((limitsBody 1500 1500 240).headerAddress.toNat ≤ 240 ∧ (limitsBody 1500 1500 240).headerAddress ≠ 0 ∧
      (∀ i x, consumer47.branch? i = some x → x.desc.address ≠ (limitsBody 1500 1500 240).headerAddress.toNat) ∧
      (∀ l n u, consumer47.unit? l n = some u → u.address ≠ (limitsBody 1500 1500 240).headerAddress.toNat)) ∧
    (consumer47.header = none ∧ (limitsBody 1500 1500 0).headerAddress = 0) ∧
    (∃ h, ({ bare with header := some ⟨5, calm _, false⟩ } : State).header = some h ∧
      h.address ≠ (limitsBody 1500 1500 240).headerAddress.toNat) ∧
    (∃ h, ({ bare with header := some ⟨240, calm _, false⟩ } : State).header = some h ∧
      h.address = (limitsBody 1500 1500 240).headerAddress.toNat) ∧
    max 1501 (min 1501 bare.press.setpoint) ≠ bare.press.setpoint := by
  refine ⟨⟨⟨rfl, rfl, rfl⟩, rfl, rfl, rfl⟩, by decide, by decide, ⟨by decide, 47, _, rfl, rfl⟩,
    ⟨by decide, by decide, everyBranch (by decide +kernel), ?_⟩, ⟨rfl, rfl⟩, ⟨_, rfl, by decide⟩, ⟨_, rfl, rfl⟩, by decide⟩
  intro l
  cases l <;> exact everyPosition (by decide +kernel)

/-- A UNIT LOAD body at chiller position 8. -/
def unitBody (kind address : Octet) (rest : List Octet) : UnitLoadBody := ⟨1, 8, kind, address, 0, rest⟩

theorem test_UnitLoadFillsReloadsEmpties_premises :
    (bare.Ready .supervisory ∧ placeOf (unitBody 1 240 [0, 1]).ladder (unitBody 1 240 [0, 1]).position = some (.chiller, 8) ∧
      bare.unit? .chiller 8 = none) ∧
    ((unitBody 0 0 []).kindCode = 0 ∧ (unitBody 0 0 [0, 0]).rest.length ≤ 2) ∧
    ((unitBody 1 240 [0, 1]).kindCode = kindCode .chiller ∧ (unitBody 1 240 [0, 1]).rest.length = 2 ∧
      Guard.ofCode (unitBody 1 240 [0, 1]).guardCode = some .anyone ∧ (unitBody 1 240 [0, 1]).address.toNat ≤ 240 ∧
      (unitBody 1 240 [0, 1]).address.toNat ∉ bare.stations) ∧
    ((at8 (unitAt 101 .off)).Ready .supervisory ∧ (at8 (unitAt 101 .off)).unit? .chiller 8 = some (unitAt 101 .off) ∧
      (unitAt 101 .off).guard = .anyone ∧ (unitBody 1 101 [0, 1]).address.toNat = (unitAt 101 .off).address ∧
      AddressesDistinct (at8 (unitAt 101 .off)) ∧
      (unitBody 1 240 [0, 1]).address.toNat ∉ (at8 (unitAt 101 .off)).stations) := by
  unfold State.Ready AddressesDistinct
  decide +kernel

theorem test_RotationMovesUnits_premises :
    gapped.Ready .supervisory ∧ ladderOfCode 1 = some .chiller ∧ (gapped.seq.ladder .chiller).occupied = [1, 8] ∧
    (∀ u, some u ∈ (gapped.seq.ladder .chiller).units → u.guard = .anyone) ∧
    (∀ u, some u ∈ (gapped.seq.ladder .chiller).units → u.state ≠ .starting) ∧
    gapped.fc.window = some ⟨.unit .chiller 8, 31, .waiting⟩ ∧
    (polled47 .waiting).Ready .panel ∧ (∀ n, WindowTarget.branch 47 ≠ .unit .chiller n) :=
  ⟨⟨rfl, rfl, rfl⟩, rfl, by decide +kernel, everyUnit (by decide +kernel), everyUnit (by decide +kernel), rfl,
    ⟨rfl, rfl, rfl⟩, fun _ h => nomatch h⟩

theorem test_StageHoldAndFree_premises :
    bare.Ready .supervisory ∧ (1 : Octet).toNat = 1 ∧ (3 : Octet).toNat = 3 ∧ (0 : Octet).toNat = 0 ∧
    3 < (4 : Octet).toNat := by
  unfold State.Ready
  decide +kernel

/-- What a test on the pumps after the first says: no other pump is in service. -/
theorem none_but_one {s : State} (h : ((s.seq.pumps.units.drop 1).all fun u => u.all fun v => !v.inService) = true) :
    ∀ m v, m ≠ 1 → s.unit? .pump m = some v → v.inService = false := by
  intro m v hm e
  match m with
  | 0 => cases e
  | 1 => exact absurd rfl hm
  | n + 2 =>
    have hj : (s.seq.pumps.units[n + 1]?).join = some v := e
    have hd : some v ∈ s.seq.pumps.units.drop 1 := by
      refine List.mem_of_getElem? (i := n) ?_
      rw [List.getElem?_drop, Nat.add_comm]
      cases hg : s.seq.pumps.units[n + 1]? with
      | none => simp [hg] at hj
      | some o => rw [hg] at hj; exact congrArg some hj
    simpa using List.all_eq_true.mp h _ hd

/-- A chiller in HAND with demand STOP, which a flow-loss stop takes, and a pump RUNNING. -/
def lastPump : State := stacked [] [1] (plant (unitAt 101 (.hand .stop)) (unitAt 201 .running))

/-- The chiller is STOPPING and the stop is on the event list, with its count. -/
def flowLost (count : Int) (t : State) : Bool :=
  ((t.unit? .chiller 1).any fun v => decide (v.state = .stopping ∧ v.stop = .counting 180 180 1)) &&
    t.events.records.any fun r => decide (r.note = ⟨.flowLossStop, 200, count⟩)

/-- A chiller in each state of R119 that may be taken in hand, with a pump RUNNING: demand RUN, then demand STOP. -/
theorem test_UnitHandTaken_premises :
    let s := plant (unitAt 101 .off) (unitAt 201 .running)
    let r := plant (unitAt 101 .resting) (unitAt 201 (.hand .run))
    (s.Ready .panel ∧ placeOf 1 1 = some (.chiller, (1 : Octet).toNat) ∧ s.unit? .chiller 1 = some (unitAt 101 .off) ∧
      s.fc.shadow = false ∧ Demand.ofCode 1 = some .run ∧ (unitAt 101 .off).rest = .idle ∧ s.inputs.stopLatch = false ∧
      s.seq.pumps.serves = true) ∧
    (r.Ready .panel ∧ r.unit? .chiller 1 = some (unitAt 101 .resting) ∧ r.fc.shadow = false ∧
      Demand.ofCode 0 = some .stop ∧ handStopBars ⟨.chiller, 1, unitAt 101 .resting⟩ r = false) ∧
    r.unit? .pump 1 = some (unitAt 201 (.hand .run)) ∧
    handStopBars ⟨.pump, 1, unitAt 201 (.hand .run)⟩ r = false := by
  unfold State.Ready
  decide +kernel

/-- The pump clauses of O32: the last pump in service to HAND-stop, and one to HAND-run with a chiller start waiting. -/
theorem test_UnitHandTaken_pump :
    (lastPump.Ready .panel ∧ placeOf 2 1 = some (.pump, (1 : Octet).toNat) ∧
      lastPump.unit? .pump 1 = some (unitAt 201 .running) ∧ lastPump.fc.shadow = false ∧
      handStopBars ⟨.pump, 1, unitAt 201 .running⟩ lastPump = false ∧ (unitAt 201 .running).inService = true) ∧
    (∀ m v, m ≠ 1 → lastPump.unit? .pump m = some v → v.inService = false) ∧
    leaves (.unitHand .panel 4 2 1 0) lastPump (flowLost 1) = true ∧
    ((plant (unitAt 101 .off) (unitAt 201 .off)).unit? .pump 1 = some (unitAt 201 .off) ∧
      (plant (unitAt 101 .off) (unitAt 201 .off)).seq.waiting = false ∧ (unitAt 201 .off).rest = .idle) := by
  refine ⟨⟨⟨rfl, rfl, rfl⟩, by decide +kernel⟩, none_but_one (by decide +kernel), by decide +kernel, by decide +kernel⟩

/-- A unit in HAND whose closed reading shows proof, or does not. -/
def handUnit (address : Nat) (proof : Bool) : PlantUnit :=
  { unitAt address (.hand .run) with station := { calm _ with closed := some ⟨.ok, some ⟨proof, 0⟩⟩ } }

theorem test_UnitAutoEndsHand_premises :
    let s := plant (handUnit 101 true) (unitAt 201 .running)
    let r := plant (handUnit 101 true) (handUnit 201 false)
    (s.Ready .panel ∧ placeOf 1 1 = some (.chiller, (1 : Octet).toNat) ∧ s.unit? .chiller 1 = some (handUnit 101 true) ∧
      s.fc.shadow = false ∧ (handUnit 101 true).state = .hand .run ∧ (handUnit 101 true).proof = true ∧
      s.inputs.stopLatch = false ∧ s.seq.pumps.serves = true) ∧
    (plant (handUnit 101 true) (unitAt 201 .off)).seq.pumps.serves = false ∧
    (r.Ready .panel ∧ placeOf 2 1 = some (.pump, (1 : Octet).toNat) ∧ r.unit? .pump 1 = some (handUnit 201 false) ∧
      (handUnit 201 false).proof = false) := by
  unfold State.Ready
  decide +kernel

/-- The pump clauses of O33: the last pump in service returned without proof, and one with it. -/
theorem test_UnitAutoEndsHand_pump :
    let s := plant (unitAt 101 (.hand .run)) (handUnit 201 false)
    (s.Ready .panel ∧ s.unit? .pump 1 = some (handUnit 201 false) ∧ (handUnit 201 false).proof = false ∧
      (handUnit 201 false).inService = true) ∧
    (∀ m v, m ≠ 1 → s.unit? .pump m = some v → v.inService = false) ∧
    leaves (.unitAuto .panel 4 2 1) s (flowLost 1) = true ∧
    (handUnit 201 true).proof = true ∧ (plant (unitAt 101 .off) (handUnit 201 true)).seq.waiting = false :=
  ⟨⟨⟨rfl, rfl, rfl⟩, by decide +kernel⟩, none_but_one (by decide +kernel), by decide +kernel, by decide +kernel⟩

theorem test_ClearDisableEnable_premises :
    let u : PlantUnit := { unitAt 101 (.tripped .noProof false) with
      station := { calm _ with closed := some ⟨.fault, none⟩ } }
    let v : PlantUnit := { unitAt 101 .out with rest := .counting 1 600 1 }
    ((at8 (unitAt 101 (.tripped .noStop true))).Ready .supervisory ∧ placeOf 1 8 = some (.chiller, (8 : Octet).toNat) ∧
      (at8 (unitAt 101 (.tripped .noStop true))).unit? .chiller 8 = some (unitAt 101 (.tripped .noStop true)) ∧
      (at8 (unitAt 101 (.tripped .noStop true))).fc.shadow = false ∧
      (unitAt 101 (.tripped .noStop true)).station.closed = none) ∧
    ((at8 u).unit? .chiller 8 = some u ∧ u.station.closed = some ⟨.fault, none⟩) ∧
    (at8 (unitAt 101 .off)).unit? .chiller 8 = some (unitAt 101 .off) ∧
    ((at8 v).unit? .chiller 8 = some v ∧ v.state = .out ∧ v.rest ≠ .idle) ∧
    (unitAt 101 .out).state = .out ∧ (unitAt 101 .out).rest = .idle := by
  unfold State.Ready
  decide +kernel

theorem test_TimerSettings_premises :
    let u : PlantUnit := { unitAt 101 .starting with prove := .counting 70 120 2 }
    let s : State := (at8 u).onLadder .chiller fun L => { L with up := .counting 1 300 1, down := .counting 1 600 1 }
    s.Ready .panel ∧ ladderOfCode 1 = some .chiller ∧ TimerKind.ofCode 1 = some .prove ∧ TimerKind.ofCode 5 = some .up ∧
    TimerKind.ofCode 6 = some .down ∧ (s.seq.ladder .chiller).up = .counting 1 300 1 ∧
    (s.seq.ladder .chiller).down = .counting 1 600 1 ∧ (bare.seq.ladder .chiller).up = .idle ∧
    (bare.seq.ladder .chiller).down = .idle ∧ (8 : Octet).toNat ≤ ladderSize .chiller ∧
    s.unit? .chiller (8 : Octet).toNat = some u ∧ u.timer .prove = .counting 70 120 2 ∧ u.timer .rest = .idle ∧
    u.guard = .anyone := by
  unfold State.Ready
  decide +kernel

/-- The last second of a day, with a window that starts at midnight. -/
def midnight : State :=
  { tank0 with store := { tank0.store with clock := some ⟨1439, 59⟩, active := [⟨0, .charge, 9000⟩] } }

theorem test_SecondMarkCounts_premises :
    (bare.rst = false ∧ bare.store.clock = none) ∧ midnight.rst = false ∧ midnight.store.clock = some ⟨1439, 59⟩ ∧
    1439 ≤ 1439 ∧ 59 ≤ 59 := by decide +kernel

theorem test_ProveExpiryTrips_premises :
    let u : PlantUnit := { unitAt 101 .starting with prove := .counting 0 120 1 }
    let v : PlantUnit := { unitAt 101 (.hand .run) with prove := .counting 0 120 2 }
    ((at8 u).rst = false ∧ 8 ≤ ladderSize .chiller ∧ (at8 u).unit? .chiller 8 = some u ∧ u.state = .starting ∧
      u.prove = .counting 0 120 1) ∧
    (at8 v).unit? .chiller 8 = some v ∧ v.state = .hand .run ∧ v.prove = .counting 0 120 2 := by decide +kernel

/-- The pump clause of O37: the last pump in service, in HAND-run, does not prove. -/
theorem test_ProveExpiryTrips_pump :
    let u : PlantUnit := { unitAt 201 (.hand .run) with prove := .counting 0 120 2 }
    let s := stacked [1] [] (plant (unitAt 101 .running) u)
    (s.rst = false ∧ s.unit? .pump 1 = some u ∧ u.prove = .counting 0 120 2 ∧ s.fc.shadow = false ∧ u.inService = true) ∧
    (∀ m v, m ≠ 1 → s.unit? .pump m = some v → v.inService = false) ∧
    leaves (.proveExpiry .pump 1) s (flowLost 1) = true :=
  ⟨by decide +kernel, none_but_one (by decide +kernel), by decide +kernel⟩

theorem test_StopRunRestExpiries_premises :
    let u : PlantUnit := { unitAt 101 .stopping with stop := .counting 0 180 1, rest := .counting 0 600 1 }
    let v : PlantUnit := { unitAt 101 .running with run := .counting 0 900 1 }
    let w : PlantUnit := { unitAt 101 .resting with rest := .counting 0 600 1 }
    let r : State := (stacked [8] [] (at8 v)).onLadder .chiller fun L => { L with downPending := true }
    ((at8 u).rst = false ∧ (at8 u).unit? .chiller 8 = some u ∧ u.stop = .counting 0 180 1 ∧ u.state = .stopping ∧
      u.rest = .counting 0 600 1 ∧ u.state ≠ .resting) ∧
    ((at8 v).unit? .chiller 8 = some v ∧ v.run = .counting 0 900 1 ∧ ((at8 v).seq.ladder .chiller).downPending = false) ∧
    (r.rst = false ∧ r.unit? .chiller 8 = some v ∧ (r.seq.ladder .chiller).downPending = true ∧ v.state = .running ∧
      (r.seq.ladder .chiller).stack.getLast? = some 8 ∧ (r.seq.ladder .chiller).requestHold = false ∧
      r.seq.inputHold = false ∧ r.fc.shadow = false) ∧
    ((at8 w).unit? .chiller 8 = some w ∧ w.rest = .counting 0 600 1 ∧ w.state = .resting) ∧
    (w.stop.ranOut = false ∧ w.run.ranOut = false ∧ v.rest.ranOut = false) := by decide +kernel

/-- A unit heard OK in the cycle, with proof or without. -/
def heard (proof : Bool) (u : PlantUnit) : PlantUnit :=
  { u with station := { u.station with cycle := some ⟨false, ⟨proof, 500⟩⟩ } }

/-- Both ladders held. -/
def heldStages (s : State) : State :=
  (s.onLadder .chiller fun L => { L with requestHold := true }).onLadder .pump fun L => { L with requestHold := true }

/-- What the readings clauses of O38 ask of a state: live, with a pump that stays and one that proves for a waiting
chiller start, and in shadow mode. -/
theorem test_StopRunRestExpiries_readings :
    let s := closing (heldStages (stacked [1] [1] (plant (heard false (unitAt 101 .running)) (unitAt 201 .running))))
    let r := closing (heldStages (stacked [] [1] (plant (unitAt 101 .off) (heard true (unitAt 201 .starting)))))
    let d : State := { r with seq := { r.seq with waiting := true } }
    let x := closing (heldStages { plant (unitAt 101 .off) (heard true (unitAt 201 .off)) with fc := bareShadow.fc })
    (s.CycleEndDue ∧ (∀ l, (s.seq.ladder l).requestHold = true ∨ s.seq.inputHold = true) ∧ s.fc.shadow = false ∧
      s.PumpStays ∧ s.unit? .chiller 1 = some (heard false (unitAt 101 .running))) ∧
    leaves .cycleEnd s (fun t => (t.unit? .chiller 1).any fun v => decide (v.state = .tripped .lostProof false)) = true ∧
    (d.CycleEndDue ∧ d.unit? .pump 1 = some (heard true (unitAt 201 .starting)) ∧ d.seq.waiting = true ∧
      leaves .cycleEnd d (fun t => !t.seq.waiting && (t.unit? .pump 1).any fun v => decide (v.state = .running)) = true) ∧
    (x.CycleEndDue ∧ x.fc.shadow = true ∧
      leaves .cycleEnd x (fun t => (t.unit? .pump 1).any fun v => decide (v.state = .running)) = true) := by
  refine ⟨⟨⟨rfl, by decide, rfl, rfl⟩, fun l => Or.inl (by cases l <;> rfl), rfl,
    ⟨1, unitAt 201 .running, by decide +kernel, rfl, Or.inr (Or.inl ⟨rfl, rfl⟩)⟩, by decide +kernel⟩,
    by decide +kernel, ⟨⟨rfl, by decide, rfl, rfl⟩, by decide +kernel, rfl, by decide +kernel⟩,
    ⟨rfl, by decide, rfl, rfl⟩, rfl, by decide +kernel⟩

/-- The flow-loss stop in O38 and O39: the top of the pumps stopped by the expiry of RUN or of DOWN; and, at CYCLE_END,
the last pump tripped, a chiller RUNNING, or none in service and a chiller that leaves LOCAL with proof. -/
theorem test_StopRunRestExpiries_flowLoss :
    let u : PlantUnit := { unitAt 201 .running with run := .counting 0 900 1 }
    let s := (stacked [1] [1] (plant (unitAt 101 .running) u)).onLadder .pump fun L => { L with downPending := true }
    let d := (stacked [1] [1] (plant (unitAt 101 .running) (unitAt 201 .running))).onLadder .pump
      fun L => { L with down := .counting 0 600 1 }
    let r := closing (heldStages (stacked [1] [1] (plant (unitAt 101 .running) (heard false (unitAt 201 .running)))))
    let x := closing (heldStages (plant (heard true (unitAt 101 .localCtl)) (unitAt 201 .off)))
    (s.unit? .pump 1 = some u ∧ u.inService = true ∧ (∀ m v, m ≠ 1 → s.unit? .pump m = some v → v.inService = false) ∧
      leaves (.runExpiry .pump 1) s (flowLost 1) = true) ∧
    ((d.seq.ladder .pump).stack.getLast? = some 1 ∧ d.unit? .pump 1 = some (unitAt 201 .running) ∧
      (∀ m v, m ≠ 1 → d.unit? .pump m = some v → v.inService = false) ∧
      leaves (.downExpiry .pump) d (flowLost 1) = true) ∧
    (r.CycleEndDue ∧ r.fc.shadow = false ∧ r.seq.pumps.serves = true ∧
      (∀ n u, r.unit? .pump n = some u → n ≤ 6) ∧
      (∀ n u, r.unit? .pump n = some u → u.station.joined = false ∧
        (u.judged (r.seq.ladder .pump).periods r.inputs.stopLatch).state = .tripped .lostProof false) ∧
      leaves .cycleEnd r (flowLost 1) = true) ∧
    (x.CycleEndDue ∧ x.seq.pumps.serves = false ∧ x.stoppableChillers = 0 ∧
      (∀ n u, x.unit? .pump n = some u → n ≤ 6) ∧ (∀ n u, x.unit? .pump n = some u → u.state = .off) ∧
      leaves .cycleEnd x (fun t => (t.unit? .chiller 1).any fun v => decide (v.state = .stopping)) = true) := by
  refine ⟨⟨by decide +kernel, rfl, none_but_one (by decide +kernel), by decide +kernel⟩, ⟨rfl, by decide +kernel, none_but_one (by decide +kernel), by decide +kernel⟩,
    ⟨⟨rfl, by decide, rfl, rfl⟩, rfl, by decide +kernel, position_le (by decide +kernel),
      everyPosition (by decide +kernel), by decide +kernel⟩,
    ⟨rfl, by decide, rfl, rfl⟩, by decide +kernel, by decide +kernel, position_le (by decide +kernel),
    everyPosition (by decide +kernel), by decide +kernel⟩

/-- Both ladder timers of the chillers run out. -/
def expired (s : State) : State :=
  s.onLadder .chiller fun L => { L with up := .counting 0 300 1, down := .counting 0 600 1 }

theorem test_UpStartsDownStops_premises :
    let s := expired (plant (unitAt 101 .off) (unitAt 201 .running))
    let r := expired (stacked [1] [1] (plant (unitAt 101 .running) (unitAt 201 .running)))
    let y : PlantUnit := { unitAt 101 .running with run := .counting 1 900 1 }
    (s.rst = false ∧ (s.seq.ladder .chiller).up = .counting 0 300 1 ∧
      ({ s with seq := { s.seq with inputHold := true } } : State).seq.inputHold = true) ∧
    ((s.seq.ladder .chiller).requestHold = false ∧ s.seq.inputHold = false ∧ s.inputs.stopLatch = false ∧
      s.fc.shadow = false ∧ (s.seq.ladder .chiller).hasStarting = false ∧ (s.seq.ladder .chiller).shortCap = false ∧
      s.seq.pumps.serves = true ∧ s.unit? .chiller 1 = some (unitAt 101 .off) ∧
      ∀ k v, k < 1 → s.unit? .chiller k = some v → v.state ≠ .off) ∧
    ((r.seq.ladder .chiller).down = .counting 0 600 1 ∧ (r.seq.ladder .chiller).stack.getLast? = some 1 ∧
      r.unit? .chiller 1 = some (unitAt 101 .running) ∧ (unitAt 101 .running).run = .idle) ∧
    (expired (stacked [1] [1] (plant y (unitAt 201 .running)))).unit? .chiller 1 = some y ∧ y.run ≠ .idle := by
  refine ⟨by decide +kernel, ⟨rfl, rfl, rfl, rfl, by decide +kernel, rfl, by decide +kernel, by decide +kernel, ?_⟩,
    by decide +kernel, by decide +kernel⟩
  intro k v h e
  have h0 : k = 0 := by omega
  subst h0
  cases e

/-- Nothing stands at position 0. -/
theorem none_below_one {s : State} {l : LadderId} : ∀ j v, j < 1 → s.unit? l j = some v → v.state ≠ .off := by
  intro j v h e
  have h0 : j = 0 := by omega
  subst h0
  cases e

/-- The other clauses of the expiries: no OFF unit, the interlock with each of its ends, an intent, an empty stack. -/
theorem test_UpStartsDownStops_corners :
    let idle := expired (plant (unitAt 101 .off) (unitAt 201 .off))
    let full := expired (plant (unitAt 101 .running) (unitAt 201 .resting))
    let barred := expired (plant (unitAt 101 .off) (unitAt 201 .resting))
    let starting := expired (plant (unitAt 101 .off) (unitAt 201 .starting))
    let shadow : State := { expired shadowPlant with fc := shadowPlant.fc }
    (idle.seq.pumps.serves = false ∧ idle.seq.pumps.requestHold = false ∧ idle.seq.pumps.hasStarting = false ∧
      idle.unit? .pump 1 = some (unitAt 201 .off) ∧ idle.seq.pumps.shortCap = false ∧
      ∀ j v, j < 1 → idle.unit? .pump j = some v → v.state ≠ .off) ∧
    (∀ k u, full.unit? .chiller k = some u → u.state ≠ .off) ∧
    (barred.seq.pumps.serves = false ∧ ∀ k u, barred.unit? .pump k = some u → u.state ≠ .off) ∧
    (starting.seq.pumps.serves = false ∧ starting.seq.pumps.hasStarting = true) ∧
    (shadow.fc.shadow = true ∧ (shadow.seq.ladder .chiller).stack.getLast? = some 1 ∧
      shadow.unit? .chiller 1 = some (unitAt 101 .running)) ∧
    (idle.seq.ladder .chiller).stack = [] :=
  ⟨⟨by decide +kernel, rfl, by decide +kernel, by decide +kernel, rfl, none_below_one⟩, everyPosition (by decide +kernel),
    ⟨by decide +kernel, everyPosition (by decide +kernel)⟩, by decide +kernel, by decide +kernel, rfl⟩

/-- A plant at a due cycle end with the ladder `k` held and both pendings of `l` as given. -/
def evaluated (l k : LadderId) (waiting pending : Bool) (s : State) : State :=
  ((closing { s with seq := { s.seq with waiting := waiting } }).onLadder k fun L => { L with requestHold := true }).onLadder l
    fun L => { L with upPending := pending, downPending := pending }

/-- What the evaluation of O39 asks: a live part, one ladder free, no unit heard; and each of its outcomes. -/
theorem test_UpStartsDownStops_evaluation :
    let s := evaluated .chiller .pump false true (plant (unitAt 101 .off) (unitAt 201 .running))
    let asked := evaluated .pump .chiller true true (plant (unitAt 101 .off) (unitAt 201 .off))
    let down := evaluated .chiller .pump false true (stacked [1] [1] (plant (unitAt 101 .running) (unitAt 201 .running)))
    (s.CycleEndDue ∧ s.fc.shadow = false ∧ s.seq.inputHold = false ∧ (s.seq.ladder .chiller).requestHold = false ∧
      (∀ k, k ≠ .chiller → (s.seq.ladder k).requestHold = true) ∧
      ∀ k n u, s.unit? k n = some u → u.station.joined = true ∨ (u.station.cycle = none ∧ u.station.faultMark = false)) ∧
    leaves .cycleEnd s (fun t => !(t.seq.ladder .chiller).figures.up) = true ∧
    ((asked.seq.ladder .pump).upPending = true ∧ asked.seq.pumps.hasStarting = false ∧
      asked.unit? .pump 1 = some (unitAt 201 .off) ∧
      leaves .cycleEnd asked (fun t => (t.seq.ladder .pump).figures.up) = true) ∧
    (leaves .cycleEnd (evaluated .pump .chiller true false (plant (unitAt 101 .off) (unitAt 201 .off)))
        (fun t => (t.seq.ladder .pump).figures.up) = true ∧
      leaves .cycleEnd (evaluated .chiller .pump false false (stacked [1] [1] (plant (unitAt 101 .running)
        (unitAt 201 .running)))) (fun t => (t.seq.ladder .chiller).figures.down) = true) ∧
    ((down.seq.ladder .chiller).downPending = true ∧ (down.seq.ladder .chiller).stack.getLast? = some 1 ∧
      down.unit? .chiller 1 = some (unitAt 101 .running) ∧
      leaves .cycleEnd down (fun t => (t.seq.ladder .chiller).figures.down) = true) := by
  refine ⟨⟨⟨rfl, by decide, rfl, rfl⟩, rfl, rfl, rfl, ?_, ?_⟩, by decide +kernel, by decide +kernel, by decide +kernel,
    by decide +kernel⟩
  · intro k h
    cases k
    · exact absurd rfl h
    · rfl
  · intro k
    cases k <;> exact everyPosition (P := fun u => u.station.joined = true ∨ (u.station.cycle = none ∧
      u.station.faultMark = false)) (by decide +kernel)

theorem test_TimeSetEvaluates_premises :
    let s : State := { midnight with store := { midnight.store with active := [⟨10, .charge, 9000⟩, ⟨1439, .hold, 0⟩] } }
    (bare.Ready .panel ∧ s.Ready .panel ∧ storageAvailable bare.storage = false ∧ bare.store.active = []) ∧
    (s.storage = some (0, tankAt 32 .anyone) ∧ (tankAt 32 .anyone).storageDesc = some ⟨40000, 8000, 10000⟩ ∧
      (tankAt 32 .anyone).available = true ∧ (s.store.active.map (·.start)).Pairwise (· < ·)) ∧
    ((⟨10, .charge, 9000⟩ : TariffWindow) ∈ s.store.active ∧ 10 ≤ min 1439 (1438 : Half).toNat ∧
      ∀ v ∈ s.store.active, v.start ≤ min 1439 (1438 : Half).toNat → v.start ≤ 10) ∧
    ((⟨1439, .hold, 0⟩ : TariffWindow) ∈ s.store.active ∧
      (∀ v ∈ s.store.active, min 1439 (9 : Half).toNat < v.start) ∧ ∀ v ∈ s.store.active, v.start ≤ 1439) := by
  unfold State.Ready
  decide +kernel

/-- Eight windows from minute 1439 down, rates at the greatest. -/
def eightWindows : List TariffWindow := (List.range 8).map fun n => ⟨1439 - n, .charge, 65535⟩

theorem test_SchedulesPlaced_premises :
    (bare.Ready .supervisory ∧ eightWindows.length ≤ 8 ∧ (∀ w ∈ eightWindows, w.Valid) ∧
      (eightWindows.map (·.start)).Nodup ∧ bare.storage = none) ∧
    (bare.store.clock = none ∧ midnight.Ready .panel ∧ midnight.store.clock ≠ none ∧ midnight.store.active ≠ []) ∧
    (bare.store.staged = none ∧
      ({ midnight with store := { midnight.store with staged := some eightWindows } } : State).store.staged
        = some eightWindows) ∧
    bare.store.boundaryDue = false ∧
    ({ midnight with store := { midnight.store with boundaryDue := true } } : State).store.boundaryDue = true := by
  unfold State.Ready TariffWindow.Valid
  decide +kernel

theorem test_ChannelSetKeepsRecord_premises :
    (bare.Ready .supervisory ∧ bare.inputs.channel (8 : Octet).toNat = some .reset ∧ Edge.ofCode 3 = some .both ∧
      Action.ofCode 2 = some .stopAll ∧ Action.ofCode 1 = some .holdStage) ∧
    ((withChannel 8 (stopChannel false)).Ready .panel ∧
      (withChannel 8 (stopChannel false)).inputs.channel 8 = some (stopChannel false .reset) ∧
      ({ stopChannel false .reset with edge := .both } : Channel).active = false) := by
  unfold State.Ready
  decide +kernel

theorem test_CaptureReadOnce_premises :
    (bare.Ready .panel ∧ bare.inputs.channels.length = 8 ∧ (0 : Octet).toNat = 0 ∧ 8 < (9 : Octet).toNat) ∧
    (bare.inputs.channel (1 : Octet).toNat = some .reset ∧ Channel.reset.record = none) ∧
    (withChannel 8 unread).Ready .panel ∧ (withChannel 8 unread).inputs.channels.length = 8 ∧
    (withChannel 8 unread).inputs.channel (8 : Octet).toNat = some (unread .reset) ∧
    (unread .reset).record = some ⟨5, some 0, true, true⟩ := by
  unfold State.Ready
  decide +kernel

theorem test_StopReleased_premises :
    bare.Ready .supervisory ∧
    ((withChannel 8 (stopChannel true)).Ready .panel ∧
      ∃ c ∈ (withChannel 8 (stopChannel true)).inputs.channels, c.action = .stopAll ∧ c.active = true) ∧
    (withChannel 8 (stopChannel false)).Ready .panel ∧
    (∀ c ∈ (withChannel 8 (stopChannel false)).inputs.channels, c.action = .stopAll → c.active = false) ∧
    ({ bare with inputs := { bare.inputs with stopLatch := true } } : State).inputs.stopLatch = true ∧
    bare.inputs.stopLatch = false := by
  unfold State.Ready
  decide +kernel

/-- n CYCLE_WRAP records of cycle 0. -/
def wraps (n : Nat) : State :=
  { bare with events := ⟨List.replicate n ⟨0, 0, ⟨.cycleWrap, cycleSubject, 0⟩⟩, false, 0⟩ }

theorem test_EventsDrained_premises :
    ((wraps 0).Ready .panel ∧ (wraps 0).events.records.length ≤ 8 ∧ (∀ c ∈ (wraps 0).inputs.channels, c.pending = false)) ∧
    (wraps 64).Ready .panel ∧ (wraps 64).events.records.length ≤ 64 := by
  unfold State.Ready
  decide +kernel

theorem test_EdgeCaptured_premises :
    (bare.rst = false ∧ bare.inputs.channel 6 = some .reset ∧ Channel.reset.level = false) ∧
    (Channel.reset.level ≠ true ∧ Channel.reset.edge.captures true = false) ∧
    ((withChannel 6 unread).inputs.channel 6 = some (unread .reset) ∧ (unread .reset).level ≠ true ∧
      (unread .reset).edge.captures true = true ∧ (unread .reset).action ≠ .stopAll) ∧
    7 ≤ 8 := by decide +kernel

/-- A STOP_ALL channel 6 that is to rise, over a plant in hand and in service, live or in shadow mode. -/
def stoppable (shadow : Bool) : State :=
  let s := plant (unitAt 101 (.hand .run)) (unitAt 201 .running)
  { s with fc := { s.fc with shadow := shadow }, inputs := (withChannel 6 (stopChannel false)).inputs }

theorem test_StopLatchStopsAll_premises :
    ((stoppable true).rst = false ∧ (stoppable true).inputs.channel 6 = some (stopChannel false .reset) ∧
      (stopChannel false .reset).level ≠ true ∧ (stopChannel false .reset).edge.captures true = true ∧
      (stopChannel false .reset).action = .stopAll ∧ ({ stopChannel false .reset with level := true } : Channel).active = true ∧
      (stoppable true).inputs.stopLatch = false ∧ (stoppable true).fc.shadow = true) ∧
    (stoppable false).fc.shadow = false ∧
    (stoppable false).unit? .chiller 1 = some (unitAt 101 (.hand .run)) ∧
    (unitAt 101 (.hand .run)).stoppable = true ∧ (unitAt 101 .off).stoppable = false ∧
    (stoppable false).unit? .pump 6 = none ∧
    ((stoppable false).rst = false ∧ (withChannel 8 fun c => { c with level := true }).inputs.stopLatch = false ∧
      (withChannel 8 fun c => { c with level := true }).inputs.channel (8 : Octet).toNat
        = some { Channel.reset with level := true } ∧
      Edge.ofCode 1 = some .rising ∧ Action.ofCode 2 = some .stopAll ∧
      ({ Channel.reset with level := true, edge := .rising } : Channel).active = true) := by decide +kernel

theorem test_StopLatchStopsAll_ready : (withChannel 8 fun c => { c with level := true }).Ready .panel := ⟨rfl, rfl, rfl⟩

/-- The latch brings the flow-loss stop when it stops the last pump in service. -/
theorem test_StopLatchStopsAll_flowLoss :
    (stoppable false).seq.pumps.serves = true ∧ leaves (.inputEdge 6 true) (stoppable false) (flowLost 1) = true := by
  decide +kernel

/-- The STORAGE record at a due cycle end, in a mode, with what its station is. -/
def tankClosing (m : StorageMode) (st : Station BranchValues) : State :=
  closing { withBranch 0 { tankAt 32 .anyone with station := st } with store := { tank0.store with mode := m, empty := false, soc := 5 } }

theorem test_CycleEndTallies_premises :
    let heardTank : Station BranchValues := { calm _ with cycle := some ⟨false, ⟨550, 1320, 4230, .storage .charging⟩⟩ }
    ((closing bare).CycleEndDue ∧ (closing bare).storage = none ∧ storageCount (closing bare).branches ≤ 1 ∧
      (closing bare).store.mode = .hold) ∧
    ((tankClosing .charge heardTank).CycleEndDue ∧ storageCount (tankClosing .charge heardTank).branches ≤ 1 ∧
      (tankClosing .charge heardTank).store.mode = .charge ∧
      (tankClosing .charge heardTank).storage = some (0, { tankAt 32 .anyone with station := heardTank }) ∧
      (tankAt 32 .anyone).storageDesc = some ⟨40000, 8000, 10000⟩ ∧
      (tankAt 32 .anyone).part = .storage ⟨40000, 8000, 10000⟩ none none ∧ heardTank.joined = false ∧
      heardTank.cycle = some ⟨false, ⟨550, 1320, 4230, .storage .charging⟩⟩ ∧
      leaves .cycleEnd (tankClosing .charge heardTank) (fun t => decide (t.load.sign = .positive)) = true) ∧
    ((tankClosing .discharge (calm _)).store.mode = .discharge ∧ (calm BranchValues).cycle = none) ∧
    (tankClosing .hold { calm _ with joined := true }).storage
      = some (0, { tankAt 32 .anyone with station := { calm _ with joined := true } }) := by
  unfold State.CycleEndDue
  decide +kernel

/-- The last clauses of O48: a tank filled under CHARGE, one emptied under DISCHARGE, one that becomes available and
takes its window's mode, and one that stands as it was. -/
theorem test_CycleEndTallies_mode :
    let station : Freshness → Option Direction → Station BranchValues := fun f dir => { calm _ with
      freshness := f, cycle := dir.map fun x => ⟨false, ⟨550, 1320, 4230, .storage x⟩⟩ }
    let soc : Nat → State → State := fun n s => { s with store := { s.store with soc := n } }
    let windowed := tankClosing .hold (station .awaiting (some .idle))
    leaves .cycleEnd (soc 1439999999999 (tankClosing .charge (station .online (some .charging)))) (fun t =>
      t.store.full && decide (t.store.mode = .hold) && t.events.records.any fun r =>
        decide (r.note = ⟨.storageFull, 0, 40000⟩)) = true ∧
    leaves .cycleEnd (tankClosing .discharge (station .online (some .discharging))) (fun t =>
      t.store.empty && decide (t.store.mode = .hold) && t.events.records.any fun r =>
        decide (r.note = ⟨.storageEmpty, 0, 0⟩)) = true ∧
    leaves .cycleEnd { windowed with
        store := { windowed.store with clock := some ⟨60, 0⟩, active := [⟨0, .charge, 9000⟩] } } (fun t =>
      decide (t.store.mode = .charge ∧ t.store.rate = 8000) && (t.branch? 0).any (·.available)) = true ∧
    leaves .cycleEnd (tankClosing .charge (station .online none)) (fun t =>
      decide (t.store.mode = .charge) && (t.branch? 0).any (·.available)) = true := by decide +kernel

/-- The record at index 47 at a due cycle end. -/
def closing47 (st : Station BranchValues) : State := closing (withBranch 47 (consumerAt 31 .anyone st))

/-- A record that was answered OK in the cycle. -/
def answered : Station BranchValues := { calm _ with cycle := some ⟨false, ⟨550, 1320, 4230, .consumer 1100 720⟩⟩ }

theorem test_StationsClosed_premises :
    (closing47 answered).CycleEndDue ∧ (closing47 answered).branch? 47 = some (consumerAt 31 .anyone answered) ∧
    (closing47 { answered with joined := true }).CycleEndDue ∧
    (closing47 { calm _ with faultMark := true }).CycleEndDue ∧
    (closing { bare with header := some ⟨5, calm _, false⟩ }).header = some ⟨5, calm _, false⟩ ∧
    (closing (at8 (unitAt 101 .off))).unit? .chiller 8 = some (unitAt 101 .off) := by
  unfold State.CycleEndDue
  decide +kernel

theorem test_EnergyMetered_premises :
    (closing47 answered).CycleEndDue ∧ (closing47 answered).branch? 47 = some (consumerAt 31 .anyone answered) ∧
    answered.joined = false ∧ answered.cycle ≠ none ∧
    (closing47 (calm _)).branch? 47 = some (consumerAt 31 .anyone (calm _)) ∧ (calm BranchValues).cycle = none ∧
    ((calm BranchValues).close 3 10).freshness = .held ∧
    (({ calm BranchValues with freshness := .stale, miss := 9 } : Station BranchValues).close 3 10).freshness = .lost ∧
    (({ calm BranchValues with freshness := .awaiting } : Station BranchValues).close 3 10).freshness = .awaiting := by
  unfold State.CycleEndDue
  decide +kernel

theorem test_CeilingStepped_premises :
    (closing47 answered).CycleEndDue ∧ (closing47 answered).branch? 47 = some (consumerAt 31 .anyone answered) ∧
    (consumerAt 31 .anyone answered).part = .consumer ⟨0, .none, 1000⟩ none none ∧ answered.joined = false ∧
    (closing47 (calm _)).CycleEndDue ∧
    (4230 ≥ 4815 / 4 ∧ 700 ≤ 1320 - 550 + 150 ∧ 1200 < 4815 / 4 ∧ 500 + 150 < 700) := by
  unfold State.CycleEndDue
  decide +kernel

/-- An eligible branch and a header, both heard in the cycle. -/
def pressured : State :=
  let s := closing47 answered
  { s with header := some ⟨5, { calm _ with cycle := some ⟨false, ⟨2400, 550, 1200, 9000⟩⟩ }, false⟩ }

theorem test_SetpointRamps_premises :
    ((closing bare).CycleEndDue ∧ SetpointWithin (closing bare) ∧
      ((closing bare).limits.dpMin ≤ (closing bare).limits.dpFallback ∧
        (closing bare).limits.dpFallback ≤ (closing bare).limits.dpMax)) ∧
    leaves .cycleEnd (closing bare) (fun t => decide (t.header = none)) = true ∧
    leaves .cycleEnd (closing { bare with header := some ⟨5, { calm _ with joined := true }, true⟩ })
      (fun t => t.header.any fun h => h.station.joined) = true ∧
    (pressured.CycleEndDue ∧ SetpointWithin pressured ∧
      leaves .cycleEnd pressured (fun t => (t.header.any fun h => decide (h.station.joined = false ∧
          h.station.freshness = .online ∧ h.station.closed = some ⟨.ok, some ⟨2400, 550, 1200, 9000⟩⟩)) &&
        decide (t.press.eligible = 1 ∧ t.press.critical = some 47 ∧ t.press.limiting = some 47)) = true) ∧
    leaves .cycleEnd { pressured with branches := bare.branches } (fun t => decide (t.press.headerStale = false ∧
      t.press.eligible = 0 ∧ t.press.critical = none)) = true := by
  unfold State.CycleEndDue SetpointWithin
  decide +kernel

/-- The writes of O52: a RUNNING pump's block and a chiller's, each from another setpoint. -/
theorem test_SetpointRamps_writes :
    let run : PlantUnit → PlantUnit := fun u => { u with state := .running, next := some ⟨.run, 7⟩ }
    let s := closing (stacked [1] [1] (plant (run (unitAt 101 .off)) (run (unitAt 201 .off))))
    (s.CycleEndDue ∧ s.unit? .pump 1 = some (run (unitAt 201 .off)) ∧ s.unit? .chiller 1 = some (run (unitAt 101 .off))) ∧
    leaves .cycleEnd s (fun t => ((t.unit? .pump 1).any fun v => decide (v.next = some ⟨.run, t.press.setpoint⟩)) &&
      (t.unit? .chiller 1).any fun v => decide (v.next.map (·.setpoint) = some s.limits.supplySet)) = true := by
  unfold State.CycleEndDue
  decide +kernel

/-- One step that advances nothing, for the laws that steps keep. -/
def marked (s : State) : State := { s with pending := [.receiverGap .panel] }

theorem marked_steps (s : State) (h : s.panel.receiver = .hunt) (p : s.pending = []) : step (marked s) = .next s := by
  cases s
  subst p
  simp only at h
  simp [step, marked, exec, execReceiverGap, unlessReset, receiverGap, State.port, h]

theorem test_EventsStayInOrder_premises : EventsInOrder (wraps 64) ∧ step (marked (wraps 64)) = .next (wraps 64) :=
  ⟨⟨by decide +kernel, by decide, by decide +kernel, by decide +kernel⟩, marked_steps _ rfl rfl⟩

theorem test_RangesKept_premises :
    bare.limits.Lawful ∧ SetpointWithin bare ∧ (∀ u : PlantUnit, some u ∈ gapped.seq.chillers.units → u.prove.InRange) ∧
    step (marked bare) = .next bare := by
  refine ⟨?_, by unfold SetpointWithin; decide, ?_, marked_steps _ rfl rfl⟩
  · constructor <;> decide
  · intro u h
    have e := everyUnit (P := fun u => u.prove = .idle) (us := gapped.seq.chillers.units) (by decide +kernel) u h
    rw [e]
    trivial

/-- A pass in flight and one queued, both owed to the supervisory port. -/
def owing : State :=
  let s := passing .waiting
  { s with fc := { s.fc with queue := [onePass] }, supervisory := { s.supervisory with owed := 2 } }

theorem test_LinksKept_premises :
    PassesOwed owing ∧ owing.supervisory.OneReply ∧ owing.panel.OneReply ∧ step (marked owing) = .next owing := by
  refine ⟨⟨?_, by decide, fun _ => ⟨_, rfl, rfl⟩, (fun h => nomatch h), by decide +kernel, by decide,
      (fun h => nomatch h)⟩,
    by unfold LinkPort.OneReply; decide, by unfold LinkPort.OneReply; decide, marked_steps _ rfl rfl⟩
  intro p
  cases p <;> decide +kernel

theorem test_StorageKept_premises : StorageLaw tank0 ∧ step (marked tank0) = .next tank0 :=
  ⟨test_StorageLaw, marked_steps _ rfl rfl⟩

/-- A chiller and a pump RUNNING, each on its stack. -/
def serving : State := stacked [1] [1] (plant (unitAt 101 .running) (unitAt 201 .running))

theorem test_FlowKeptByEveryStep_premises :
    FlowKept serving ∧ serving.seq.chillers.needsFlow = true ∧ step (marked serving) = .next serving :=
  ⟨⟨fun _ _ => by decide +kernel, (fun h => nomatch h), fun h => nomatch h⟩, by decide +kernel, marked_steps _ rfl rfl⟩

theorem test_StacksExact_premises :
    serving.seq.chillers.StackExact ∧ serving.seq.pumps.StackExact ∧ step (marked serving) = .next serving := by
  refine ⟨⟨by decide, ?_, by decide +kernel⟩, ⟨by decide, ?_, by decide +kernel⟩, marked_steps _ rfl rfl⟩
  · rintro (_ | _ | n)
    · decide +kernel
    · decide +kernel
    · simp [serving, stacked, plant, bare, State.setUnit, State.reset, Sequencer.reset, Ladder.reset, Sequencer.setLadder,
        Sequencer.ladder, Ladder.setUnit, Ladder.unitAt, Config.chillerPositions]
      rcases n with _ | _ | _ | _ | _ | _ | _ | n <;> rfl
  · rintro (_ | _ | n)
    · decide +kernel
    · decide +kernel
    · simp [serving, stacked, plant, bare, State.setUnit, State.reset, Sequencer.reset, Ladder.reset, Sequencer.setLadder,
        Sequencer.ladder, Ladder.setUnit, Ladder.unitAt, Config.pumpPositions]
      rcases n with _ | _ | _ | _ | _ | _ | _ | n <;> rfl

theorem test_AddressesStayDistinct_premises :
    AddressesDistinct serving ∧ serving.stations = [101, 201] ∧ step (marked serving) = .next serving :=
  ⟨by unfold AddressesDistinct; decide +kernel, by decide +kernel, marked_steps _ rfl rfl⟩

end Sys2Proof.Tests
end

/-! SUPPORT. Readings-closed (01, R14, R15; 06, R103): what every later block of the same event leaves of a record that
the closing rule has closed, and from it the obligation on the stations. -/

namespace Sys2Proof.Machine

/-! ## The closing rule on one station (01, R14, R15) -/

/-- The closing rule and the freshness table leave a station as the rules say, row by row. -/
theorem Station.close_after {α : Type} (ks kl : Nat) (t : Station α) : t.After ks kl (t.close ks kl) := by
  refine ⟨fun hj => ?_, fun hj => by simp [Station.close, hj]⟩
  have hclose : t.close ks kl = _ := if_neg (by simp [hj])
  rw [hclose]
  constructor
  case cleared => exact ⟨rfl, rfl, rfl⟩
  case fresh =>
    intro r hr
    simp [Station.closing, Station.cls, hr, freshnessTable_fresh]
  case fault =>
    intro hc hf
    simp [Station.closing, Station.cls, Station.values, hc, hf]
  case silent =>
    intro hc hf
    simp [Station.closing, Station.cls, hc, hf]
  case leaves =>
    rintro hc (h | h) <;> cases hf : t.faultMark <;> simp [Station.cls, freshnessTable, hc, hf, h]
  case counts =>
    intro hc hon hloc
    cases hf : t.faultMark <;> cases h : t.freshness <;>
      simp_all [Station.cls, freshnessTable, bump, Config.missMax]
  case awaiting =>
    intro hc h
    cases hf : t.faultMark <;> simp [Station.cls, freshnessTable, hc, hf, h]
  case held =>
    intro hc h
    cases hf : t.faultMark <;> simp [Station.cls, freshnessTable, hc, hf, h]
  case stale =>
    intro hc h
    cases hf : t.faultMark <;> simp [Station.cls, freshnessTable, hc, hf, h]
  case lost =>
    intro hc h
    cases hf : t.faultMark <;> simp [Station.cls, freshnessTable, hc, hf, h]

/-! ## The frame of a branch record: what no block after the Branch Table writes at readings-closed -/

/-- The descriptor and the station of a branch record. -/
def Branch.frame (b : Branch) : BranchDesc × Station BranchValues := (b.desc, b.station)

theorem meterBranch_frame (tc i : Nat) (b : Branch) : (meterBranch tc i b).1.frame = b.frame := by
  unfold meterBranch
  split
  · rfl
  · split <;> rfl

theorem monitorBranch_frame (i : Nat) (b : Branch) : (monitorBranch i b).1.frame = b.frame := by
  unfold monitorBranch
  split <;> rfl

theorem withStorageCmd_frame (c : StorageCmd) (b : Branch) : (b.withStorageCmd c).frame = b.frame := by
  unfold Branch.withStorageCmd
  split <;> rfl

/-- What stands at an index after a block has worked through the table in ascending order. -/
theorem join_getElem?_worked (f : Nat → Branch → Branch × List Note) (bs : List (Option Branch)) (i : Nat) :
    ((bs.zipIdx.map fun x => x.1.map (f x.2)).map fun x => x.map Prod.fst)[i]?.join
      = bs[i]?.join.map fun b => (f i b).1 := by
  rcases h : bs[i]? with _ | _ | b <;> simp [h]

theorem branch?_closeTable (s : State) (i : Nat) :
    (closeTable s).branch? i = (s.branch? i).map fun b => (closeBranch s.limits i b).1 :=
  join_getElem?_worked (closeBranch s.limits) s.branches i

theorem branch?_meterTable (tc : Nat) (s : State) (i : Nat) :
    (meterTable tc s).branch? i = (s.branch? i).map fun b => (meterBranch tc i b).1 :=
  join_getElem?_worked (meterBranch tc) s.branches i

theorem branch?_monitorTable (s : State) (i : Nat) :
    (monitorTable s).branch? i = (s.branch? i).map fun b => (monitorBranch i b).1 :=
  join_getElem?_worked monitorBranch s.branches i

theorem header_closeTable (s : State) : (closeTable s).header = s.header.map fun h => (closeHeader s.limits h).1 := by
  unfold closeTable
  cases s.header <;> rfl

/-- The STORAGE record that the table yields stands at the index it is given with. -/
theorem branch?_of_storage {s : State} {i : Nat} {b : Branch} (h : s.storage = some (i, b)) : s.branch? i = some b := by
  obtain ⟨⟨o, j⟩, hmem, heq⟩ := List.exists_of_findSome?_eq_some h
  rw [List.mem_zipIdx_iff_getElem?] at hmem
  cases o with
  | none => simp at heq
  | some c =>
    obtain ⟨-, rfl, rfl⟩ : c.isStorage = true ∧ j = i ∧ c = b := by simpa using heq
    simp [State.branch?, hmem]

/-- A record rewritten within its frame leaves the frame of every record. -/
theorem branch?_setBranch_frame {s : State} {i : Nat} {b c : Branch} (h : s.branch? i = some b)
    (hf : c.frame = b.frame) (j : Nat) :
    ((s.setBranch i (some c)).branch? j).map Branch.frame = (s.branch? j).map Branch.frame := by
  by_cases hij : i = j
  · subst hij
    rw [h]
    have hlt : i < s.branches.length := by
      by_contra hge
      simp [State.branch?, List.getElem?_eq_none (Nat.le_of_not_lt hge)] at h
    simp [State.branch?, State.setBranch, hlt, hf]
  · simp [State.branch?, State.setBranch, List.getElem?_set_ne hij]

theorem branch?_writeStorageCmd_frame (s : State) (i : Nat) :
    (s.writeStorageCmd.branch? i).map Branch.frame = (s.branch? i).map Branch.frame := by
  unfold State.writeStorageCmd
  split
  next x hx =>
    split
    · rfl
    · exact branch?_setBranch_frame (branch?_of_storage hx) (withStorageCmd_frame _ _) i
  next => rfl

/-! ## The scheduler's work at readings-closed (09, R154) -/

/-- The scheduler rewrites no record outside its frame. -/
theorem branch?_storageClosed_frame (tc : Nat) (was : Bool) (s : State) (i : Nat) :
    ((storageClosed tc was s).branch? i).map Branch.frame = (s.branch? i).map Branch.frame := by
  unfold storageClosed
  split
  · rfl
  · split
    · rfl
    · rw [branch?_writeStorageCmd_frame]
      split <;> rfl

/-- The scheduler touches neither the header nor the sequencer. -/
theorem storageClosed_header_seq (tc : Nat) (was : Bool) (s : State) :
    (storageClosed tc was s).header = s.header ∧ (storageClosed tc was s).seq = s.seq := by
  unfold storageClosed
  split
  · exact ⟨rfl, rfl⟩
  · split
    · exact ⟨rfl, rfl⟩
    · rw [writeStorageCmd_frame]
      split <;> exact ⟨rfl, rfl⟩

/-! ## The frame of a unit: what no work of the sequencer but the closing writes at readings-closed -/

/-- A unit with all that a judgement, a stage move or a setpoint write changes blanked: its state, its intent, its next
command block and its timers. -/
def PlantUnit.frame (u : PlantUnit) : PlantUnit :=
  { u with state := .off, intent := none, next := none, prove := .idle, stop := .idle, run := .idle, rest := .idle }

/-- What the frame of a unit shows of it. -/
theorem fields_of_frame {u v : PlantUnit} (h : u.frame = v.frame) :
    u.address = v.address ∧ u.station = v.station ∧ u.commLost = v.commLost := by
  obtain ⟨haddress, -, -, -, hstation, hcomm, -⟩ := PlantUnit.mk.inj h
  exact ⟨haddress, hstation, hcomm⟩

/-- The frames of a ladder's units, in ladder order. -/
def Ladder.frame (L : Ladder) : List (Option PlantUnit) := L.units.map (·.map PlantUnit.frame)

/-- The frames of both ladders' units. -/
def Work.frame (w : Work) (l : LadderId) : List (Option PlantUnit) := (w.seq.ladder l).frame

/-- Ladders of one frame hold units of one frame at each position. -/
theorem unitAt_frame_congr {L M : Ladder} (h : L.frame = M.frame) (n : Nat) :
    (L.unitAt n).map PlantUnit.frame = (M.unitAt n).map PlantUnit.frame := by
  have join_map : ∀ o : Option (Option PlantUnit),
      o.join.map PlantUnit.frame = (o.map (·.map PlantUnit.frame)).join := by
    rintro (_ | _ | u) <;> rfl
  cases n with
  | zero => rfl
  | succ p =>
    simp only [Ladder.unitAt, join_map, ← List.getElem?_map]
    exact congrArg (fun us : List (Option PlantUnit) => us[p]?.join) h

/-- A change of every unit within its frame keeps the ladder's frame. -/
theorem map_units_frame {f : PlantUnit → PlantUnit} (h : ∀ u, (f u).frame = u.frame) (L : Ladder) :
    ({ L with units := L.units.map (·.map f) } : Ladder).frame = L.frame := by
  simp only [Ladder.frame, List.map_map]
  refine List.map_congr_left fun u _ => ?_
  cases u with
  | none => rfl
  | some u => simp [h]

/-- A change of one unit within its frame keeps the ladder's frame. -/
theorem modUnit_frame {f : PlantUnit → PlantUnit} (h : ∀ u, (f u).frame = u.frame) (L : Ladder) (n : Nat) :
    (L.modUnit n f).frame = L.frame := by
  cases n with
  | zero => rfl
  | succ p =>
    apply List.ext_getElem?
    intro i
    simp only [Ladder.modUnit, Ladder.setUnit, Ladder.frame, Ladder.unitAt, List.getElem?_map, List.getElem?_set]
    by_cases hi : p = i
    · subst hi
      rcases hu : L.units[p]? with _ | _ | u <;> grind
    · simp [hi]

/-! ## The sequencer's work keeps the frame of every unit -/

section
variable (e : SeqEnv) (l : LadderId) (p : Nat) (w : Work)

@[simp] theorem say_frame (ns : List Note) : (w.say ns).frame = w.frame := rfl

theorem onLadder_frame {f : Ladder → Ladder} (h : ∀ L, (f L).frame = L.frame) : (w.onLadder l f).frame = w.frame := by
  funext m
  by_cases hm : m = l
  · subst hm
    simp [Work.frame, Work.onLadder, h]
  · simp [Work.frame, Work.onLadder, ladder_setLadder_of_ne _ _ hm]

theorem onUnit_frame {f : PlantUnit → PlantUnit} (h : ∀ u, (f u).frame = u.frame) : (w.onUnit l p f).frame = w.frame :=
  onLadder_frame l w fun L => modUnit_frame h L p

theorem enter_frame (st : UnitState) (d : Option Demand) {f : PlantUnit → PlantUnit}
    (h : ∀ u, (f u).frame = u.frame) : (w.enter e l p st d f).frame = w.frame :=
  onUnit_frame l p w h

/-- Work over a list of positions keeps the frames when each piece of it does. -/
theorem foldl_frame {f : Work → Nat → Work} (h : ∀ v n, (f v n).frame = v.frame) (ns : List Nat) :
    (ns.foldl f w).frame = w.frame := by
  induction ns generalizing w with
  | nil => rfl
  | cons n ns ih => rw [List.foldl_cons, ih, h]

/-- Work done under a condition keeps the frames when the work does. -/
theorem ite_frame {c : Prop} [Decidable c] {v : Work} (h : v.frame = w.frame) :
    (if c then v else w).frame = w.frame := by
  rw [apply_ite Work.frame, h, ite_self]

@[simp] theorem stopOne_frame : (w.stopOne e l p).frame = w.frame := by
  rw [Work.stopOne, onLadder_frame, enter_frame] <;> exact fun _ => rfl

@[simp] theorem clearShort_frame : (w.clearShort l).frame = w.frame :=
  ite_frame w <| by rw [say_frame, onLadder_frame]; exact fun _ => rfl

@[simp] theorem setShort_frame : (w.setShort l).frame = w.frame := by
  unfold Work.setShort
  dsimp only
  split
  · rfl
  · rw [say_frame, onLadder_frame]
    exact fun _ => rfl

@[simp] theorem startUnit_frame : (w.startUnit e l p).frame = w.frame := by
  rw [Work.startUnit, clearShort_frame, onLadder_frame, enter_frame] <;> exact fun _ => rfl

@[simp] theorem intend_frame (i : Intent) : (w.intend e l p i).frame = w.frame := by
  rw [Work.intend, say_frame, onLadder_frame, onUnit_frame] <;> exact fun _ => rfl

@[simp] theorem upDone_frame : (w.onLadder l Ladder.upDone).frame = w.frame := onLadder_frame l w fun _ => rfl

@[simp] theorem downDone_frame : (w.onLadder l Ladder.downDone).frame = w.frame := onLadder_frame l w fun _ => rfl

/-- Acting on an up pending keeps the frames when what the interlock does there keeps them. -/
theorem actUpWith_frame {interlock : Work → Work} (h : ∀ v, (interlock v).frame = v.frame) :
    (w.actUpWith e l interlock).frame = w.frame := by
  unfold Work.actUpWith
  repeat' split
  all_goals simp [h]

@[simp] theorem actUpPump_frame : (w.actUpPump e).frame = w.frame := actUpWith_frame e .pump w fun _ => rfl

@[simp] theorem interlock_frame : (w.interlock e).frame = w.frame := by
  rw [Work.interlock, actUpPump_frame]
  funext m
  cases m <;> rfl

@[simp] theorem actUp_frame : (w.actUp e l).frame = w.frame := by
  cases l with
  | chiller => exact actUpWith_frame e .chiller w (interlock_frame e)
  | pump => exact actUpPump_frame e w

@[simp] theorem raiseUp_frame : (w.raiseUp e l).frame = w.frame := by
  rw [Work.raiseUp, actUp_frame, onLadder_frame]
  exact fun _ => rfl

@[simp] theorem tryUp_frame : (w.tryUp e l).frame = w.frame := ite_frame w (actUp_frame e l w)

/-- The waiting flag is no part of a unit. -/
@[simp] theorem setWaiting_frame (b : Bool) :
    ({ w with seq := { w.seq with waiting := b } } : Work).frame = w.frame := by
  funext m
  cases m <;> rfl

@[simp] theorem pumpServes_frame : (w.pumpServes e).frame = w.frame := ite_frame w <| by simp

@[simp] theorem flowLoss_frame : (w.flowLoss e).frame = w.frame := by
  unfold Work.flowLoss
  dsimp only
  rw [ite_frame _ (tryUp_frame e .chiller _), foldl_frame, say_frame]
  exact fun v n => stopOne_frame e .chiller n v

@[simp] theorem afterLeaving_frame (u : PlantUnit) : (w.afterLeaving e l u).frame = w.frame := by
  unfold Work.afterLeaving
  dsimp only
  rw [ite_frame _ (tryUp_frame e l _), ite_frame _ (flowLoss_frame e w)]

@[simp] theorem stopUnit_frame : (w.stopUnit e l p).frame = w.frame := by
  unfold Work.stopUnit
  split
  · rfl
  · rw [afterLeaving_frame, stopOne_frame]

@[simp] theorem actDown_frame : (w.actDown e l).frame = w.frame := by
  unfold Work.actDown
  split
  · exact onLadder_frame l w fun _ => rfl
  · repeat' split
    all_goals simp

/-! ## Judging and tracking (07, R113 to R118, R130) -/

@[simp] theorem trip_frame (cause : TripCause) : (w.trip e l p cause).frame = w.frame := by
  unfold Work.trip
  split
  · rfl
  · dsimp only
    rw [ite_frame _ (raiseUp_frame e l _), ite_frame _ (flowLoss_frame e _), say_frame, onLadder_frame, enter_frame] <;>
      exact fun _ => rfl

@[simp] theorem proved_frame : (w.proved e l p).frame = w.frame := by
  rw [Work.proved, tryUp_frame, ite_frame _ (pumpServes_frame e _), enter_frame]
  exact fun _ => rfl

@[simp] theorem toResting_frame : (w.toResting e l p).frame = w.frame := enter_frame e l p w _ _ fun _ => rfl

@[simp] theorem toLocal_frame : (w.toLocal e l p).frame = w.frame := by
  unfold Work.toLocal
  split
  · rfl
  · rw [afterLeaving_frame, onLadder_frame, enter_frame] <;> exact fun _ => rfl

@[simp] theorem takeIntoService_frame : (w.takeIntoService e l p).frame = w.frame := by
  rw [Work.takeIntoService, ite_frame _ (pumpServes_frame e _), onLadder_frame, enter_frame] <;> exact fun _ => rfl

@[simp] theorem fromLocal_frame (proof : Bool) : (w.fromLocal e l p proof).frame = w.frame := by
  unfold Work.fromLocal
  split
  · exact toResting_frame e l p w
  split
  · exact stopOne_frame e l p w
  · rw [ite_frame _ (flowLoss_frame e _), takeIntoService_frame]

@[simp] theorem proofLate_frame : (w.proofLate l p).frame = w.frame := by
  rw [Work.proofLate, say_frame, onUnit_frame]
  exact fun _ => rfl

@[simp] theorem cancelProve_frame : (w.onUnit l p fun u => { u with prove := .idle }).frame = w.frame :=
  onUnit_frame l p w fun _ => rfl

/-- Every row of R113's table keeps the frames: it is one of the moves above, or none. -/
@[simp] theorem judgeOne_frame (u : PlantUnit) (c : CycleClass) : (w.judgeOne e l p u c).frame = w.frame := by
  unfold Work.judgeOne
  repeat' split
  all_goals simp

@[simp] theorem trackOne_frame (u : PlantUnit) : (w.trackOne e l p u).frame = w.frame := by
  unfold Work.trackOne
  split
  next =>
    split
    · dsimp only
      rw [ite_frame _ (pumpServes_frame e _), onLadder_frame, enter_frame] <;> exact fun _ => rfl
    · rfl
  next =>
    split
    · rfl
    · rw [onLadder_frame, enter_frame] <;> exact fun _ => rfl
  next => rfl

@[simp] theorem judgeAt_frame (before : Sequencer) : (w.judgeAt e before l p).frame = w.frame := by
  unfold Work.judgeAt
  repeat' split
  all_goals simp

@[simp] theorem judgeAll_frame (before : Sequencer) : (w.judgeAll e before).frame = w.frame := by
  rw [Work.judgeAll, foldl_frame, foldl_frame] <;> exact fun v n => judgeAt_frame e _ n v before

/-! ## The evaluation (07, R122 to R124) and the setpoint writes (07, R112; 05, R88) -/

@[simp] theorem driveUp_frame (holds : Bool) : (w.driveUp e l holds).frame = w.frame := by
  unfold Work.driveUp
  split
  · split
    · exact actUp_frame e l w
    · exact onLadder_frame l w fun _ => rfl
  · simp

@[simp] theorem driveDown_frame (holds : Bool) : (w.driveDown e l holds).frame = w.frame := by
  unfold Work.driveDown
  split
  · split
    · exact actDown_frame e l w
    · exact onLadder_frame l w fun _ => rfl
  · exact downDone_frame l w

@[simp] theorem drive_frame (f : Figures) : (w.drive e l f).frame = w.frame := by
  rw [Work.drive, onLadder_frame, driveDown_frame, driveUp_frame]
  exact fun _ => rfl

@[simp] theorem evaluate_frame (x : LoadInput) : (w.evaluate e x).frame = w.frame := by
  unfold Work.evaluate
  dsimp only
  repeat' split
  all_goals simp

end

theorem writeSupply_frame (supply : Nat) (L : Ladder) : (L.writeSupply supply).frame = L.frame := by
  refine map_units_frame (fun u => ?_) L
  rfl

theorem writeSetpoint_frame (setpoint : Nat) (L : Ladder) : (L.writeSetpoint setpoint).frame = L.frame := by
  refine map_units_frame (fun u => ?_) L
  unfold PlantUnit.writeSetpoint
  split <;> rfl

/-! ## Closing the units (06, R103) -/

/-- Closing reads and writes the frame alone. -/
theorem Ladder.close_frame (lim : Limits) (L : Ladder) :
    (L.close lim).frame = L.frame.map (·.map (PlantUnit.close lim)) := by
  simp only [Ladder.close, Ladder.frame, List.map_map]
  refine List.map_congr_left fun u _ => ?_
  cases u <;> rfl

/-- Closing a ladder closes the unit at each position. -/
theorem unitAt_close (lim : Limits) (L : Ladder) (n : Nat) :
    (L.close lim).unitAt n = (L.unitAt n).map (PlantUnit.close lim) := by
  cases n with
  | zero => rfl
  | succ p => rcases h : L.units[p]? with _ | _ | u <;> simp [Ladder.unitAt, Ladder.close, h]

theorem closeUnits_frame (lim : Limits) (w : Work) (l : LadderId) :
    (w.closeUnits lim).frame l = ((w.seq.ladder l).close lim).frame := by
  cases l <;> rfl

/-- The sequencer's work at readings-closed leaves of every unit's frame what the closing made of it. -/
theorem sequencerClosed_frame (s : State) (l : LadderId) :
    ((sequencerClosed s).seq.ladder l).frame = ((s.seq.ladder l).close s.limits).frame := by
  have kept : ∀ e : SeqEnv, ∀ w : Work, (((w.judgeAll e s.seq).onLadder .chiller
      (·.writeSupply e.supply)).evaluate e s.loadInput).frame = w.frame := by
    intro e w
    rw [evaluate_frame, onLadder_frame _ _ (writeSupply_frame e.supply), judgeAll_frame]
  exact (congrFun (kept s.seqEnv _) l).trans (closeUnits_frame s.limits ⟨s.seq, []⟩ l)

/-- The calculator's write of the setpoint keeps the frames. -/
theorem pressureClosed_frame (s : State) (l : LadderId) :
    ((pressureClosed s).seq.ladder l).frame = (s.seq.ladder l).frame := by
  cases l with
  | chiller => rfl
  | pump => exact writeSetpoint_frame _ s.seq.pumps

/-! ## Readings-closed as a whole -/

/-- Every branch record is closed, and no later block touches its descriptor or its station. -/
theorem branch?_readingsClosed_frame (s : State) (i : Nat) :
    ((readingsClosed s).branch? i).map Branch.frame
      = (s.branch? i).map fun b => (b.desc, b.station.close s.limits.kStale s.limits.kLost) := by
  unfold readingsClosed
  rw [branch?_storageClosed_frame]
  change ((monitorTable (meterTable s.fc.pEff (closeTable s))).branch? i).map Branch.frame = _
  rw [branch?_monitorTable, branch?_meterTable, branch?_closeTable]
  cases s.branch? i with
  | none => rfl
  | some b => exact congrArg some ((monitorBranch_frame i _).trans (meterBranch_frame s.fc.pEff i _))

theorem header_readingsClosed (s : State) :
    (readingsClosed s).header
      = s.header.map fun h => { h with station := h.station.close s.limits.kStale s.limits.kLost } := by
  unfold readingsClosed
  rw [(storageClosed_header_seq _ _ _).1]
  exact header_closeTable s

/-- Every unit is closed, and no other work of readings-closed touches its frame. -/
theorem unit?_readingsClosed_frame (s : State) (l : LadderId) (n : Nat) :
    ((readingsClosed s).unit? l n).map PlantUnit.frame = (s.unit? l n).map fun u => (u.close s.limits).frame := by
  have kept : ((readingsClosed s).seq.ladder l).frame = ((s.seq.ladder l).close s.limits).frame := by
    unfold readingsClosed
    rw [(storageClosed_header_seq _ _ _).2, sequencerClosed_frame, Ladder.close_frame, pressureClosed_frame,
      Ladder.close_frame]
    rfl
  rw [State.unit?, unitAt_frame_congr kept, unitAt_close, Option.map_map]
  rfl

/-- A due CYCLE_END is readings-closed, after the controller's own work. -/
theorem exec_cycleEnd_of_due {s : State} (h : s.CycleEndDue) :
    exec .cycleEnd s = .next (readingsClosed (endCycle s)) := by
  obtain ⟨hrst, hpos, hwin, hopen⟩ := h
  change execCycleEnd s = _
  simp [execCycleEnd, unlessReset, cycleEnd, FieldCycle.endDue, FieldCycle.between, hrst, hpos, hwin, hopen]

/-- A unit closed has COMM_LOST as R103 gives it from the freshness state it comes to. -/
theorem commLost_close {lim : Limits} {u : PlantUnit} :
    (u.close lim).commLost = match (u.close lim).station.freshness with
      | .stale => true
      | .lost => true
      | .held => u.commLost
      | _ => false := by
  simp only [PlantUnit.close]
  cases (u.station.close lim.kStale lim.kLost).freshness <;> rfl

/-- Settles O49: readings-closed closes every record, and what the later blocks of the same event do to a record leaves
the frame that the statement reads. -/
theorem stationsClosed : Obligations.StationsClosed := by
  intro s hdue
  refine ⟨_, exec_cycleEnd_of_due hdue, fun i b hb => ?_, fun h hh => ?_, fun l n u hu => ?_⟩
  · have closed := branch?_readingsClosed_frame (endCycle s) i
    rw [show (endCycle s).branch? i = some b from hb, Option.map_some, Option.map_eq_some_iff] at closed
    obtain ⟨b', hb', hframe⟩ := closed
    obtain ⟨hdesc, hstation⟩ := Prod.mk.inj hframe
    exact ⟨b', hb', hdesc, hstation ▸ b.station.close_after _ _⟩
  · have closed := header_readingsClosed (endCycle s)
    rw [show (endCycle s).header = some h from hh] at closed
    exact ⟨_, closed, rfl, rfl, h.station.close_after _ _⟩
  · have closed := unit?_readingsClosed_frame (endCycle s) l n
    rw [show (endCycle s).unit? l n = some u from hu, Option.map_some, Option.map_eq_some_iff] at closed
    obtain ⟨u', hu', hframe⟩ := closed
    obtain ⟨haddress, hstation, hcomm⟩ := fields_of_frame hframe
    refine ⟨u', hu', haddress, hstation ▸ u.station.close_after _ _, fun _ => ?_⟩
    rw [hcomm, hstation]
    exact commLost_close

end Sys2Proof.Machine

/-! SUPPORT. The configured period of the field cycle (02, R26, R27): what a cycle start leaves of the controller's
fields, and from it the obligation on CYCLE_SET. -/

namespace Sys2Proof.Machine

/-! ## The samples of channels 7 and 8 (10, R161) are none of the controller's work -/

@[simp] theorem setLatch_fc (n : Nat) (detail : Int) (s : State) : (s.setLatch n detail).fc = s.fc := by
  unfold State.setLatch
  split <;> rfl

@[simp] theorem takeEdge_fc (n : Nat) (c : Channel) (high : Bool) (position : Option Nat) (s : State) :
    (takeEdge n c high position s).fc = s.fc := by
  simp only [takeEdge]
  split
  · exact setLatch_fc _ _ _
  · rfl

@[simp] theorem takeLevel_fc (n : Nat) (high : Bool) (position : Option Nat) (s : State) :
    (takeLevel n high position s).fc = s.fc := by
  unfold takeLevel
  cases s.inputs.channel n with
  | none => rfl
  | some c =>
    dsimp only
    split_ifs with same captured
    · rfl
    · exact takeEdge_fc n c high position s
    · rfl

@[simp] theorem sampleSlow_fc (s : State) : (sampleSlow s).fc = s.fc := by simp [sampleSlow]

/-! ## The controller's fields at cycle start (02, R27 to R29) -/

/-- The count moves; its wrap works on the event list. -/
theorem countCycle_fc (s : State) : (countCycle s).fc = { s.fc with count := s.fc.count + 1 } := by
  simp only [countCycle]
  split <;> rfl

/-- P_eff and the stretched flag come from the period, the rate and the service list held at that moment. -/
theorem fixPeriod_fc (s : State) :
    (fixPeriod s).fc =
      { s.fc with
        pEff := effectivePeriod s.fc.pCfg s.fc.rate s.fc.serviceList.length
        stretched := decide (s.fc.pCfg < effectivePeriod s.fc.pCfg s.fc.rate s.fc.serviceList.length) } := by
  simp only [fixPeriod]
  split_ifs <;> rfl

/-- The configured period is no work of a cycle start. -/
theorem startCycle_pCfg (s : State) : (startCycle s).fc.pCfg = s.fc.pCfg := by
  simp [startCycle, fixPeriod_fc, latchCycle, countCycle_fc]

/-- R27, in the terms of the state a cycle start leaves. -/
theorem startCycle_pEff (s : State) :
    (startCycle s).fc.pEff =
      effectivePeriod (startCycle s).fc.pCfg (startCycle s).fc.rate (startCycle s).fc.serviceList.length := by
  simp only [startCycle, fixPeriod_fc]

/-- A CYCLE_START between two cycles, RST released, is a cycle start. -/
theorem exec_cycleStart_of_gap {s : State} (hrst : s.rst = false) (hgap : s.fc.position = Config.gapPosition) :
    exec .cycleStart s = .next (beginCycle s) := by
  change execCycleStart s = _
  simp [execCycleStart, unlessReset, cycleStart, hrst, hgap]

/-- A cycle start uses the period held when it comes (R26, R27). -/
theorem beginCycle_pEff (s : State) :
    (beginCycle s).fc.pEff =
      effectivePeriod s.fc.pCfg (beginCycle s).fc.rate (beginCycle s).fc.serviceList.length := by
  rw [beginCycle, sampleSlow_fc, startCycle_pEff, startCycle_pCfg]

/-! ## CYCLE_SET (02, R26) -/

/-- The reply tells a value within the range from one that was clamped. -/
theorem doneIf_clamp {lo hi : Nat} (n : Nat) (h : lo ≤ hi) :
    doneIf (decide (clamp lo hi n ≠ n)) = if lo ≤ n ∧ n ≤ hi then .done else .doneClamped := by
  have same := clamp_eq_self_iff (n := n) h
  by_cases within : lo ≤ n ∧ n ≤ hi
  · simp [doneIf, within, same.mpr within]
  · simp [doneIf, within, mt same.mp within]

/-- A ready port takes CYCLE_SET: the clamped period held, P_eff and all else but the reply as they were. -/
theorem exec_cycleSet_of_ready {p : Port} {s : State} (h : s.Ready p) (tag : Octet) (v : Half) :
    exec (.cycleSet p tag v) s =
      .next (({ s with fc := { s.fc with pCfg := clamp 5 600 v.toNat } } : State).hand p
        (replyFrame tag 6 (if 5 ≤ v.toNat ∧ v.toNat ≤ 600 then .done else .doneClamped) [])) := by
  change execCycleSet p tag v s = _
  rw [execCycleSet, request_of_ready h, serveCycleSet, doneIf_clamp _ (by decide)]

/-- Settles O20: the request's exact next state, and a cycle start fixes P_eff from the period it finds there. -/
theorem cycleSetHeld : Obligations.CycleSetHeld := by
  intro p tag v s hready
  have taken := exec_cycleSet_of_ready hready tag v
  refine ⟨taken, fun t u ht hgap hu => ?_⟩
  obtain rfl := Host.Outcome.next.inj (taken.symm.trans ht)
  rw [exec_cycleStart_of_gap (by rw [hand_rst, hready.1]) hgap] at hu
  obtain rfl := Host.Outcome.next.inj hu
  rw [beginCycle_pEff, hand_fc]
  rfl

end Sys2Proof.Machine

/-! SUPPORT. Metering at readings-closed (03, R46 to R52): what the later blocks of the same event leave of a record's
meter part, what metering makes of a closed record, and from them the obligation on energy and volume. -/

namespace Sys2Proof.Machine

/-! ## The meter part of a record: no block after the Metering Unit writes it at readings-closed -/

theorem monitorBranch_meter (i : Nat) (b : Branch) : (monitorBranch i b).1.meter = b.meter := by
  unfold monitorBranch
  split <;> rfl

theorem withStorageCmd_meter (c : StorageCmd) (b : Branch) : (b.withStorageCmd c).meter = b.meter := by
  unfold Branch.withStorageCmd
  split <;> rfl

/-- The write of the command (09, R153) leaves a record as it stands, or gives it the command. -/
theorem branch?_writeStorageCmd (s : State) (i : Nat) :
    s.writeStorageCmd.branch? i = s.branch? i ∨
      s.writeStorageCmd.branch? i = (s.branch? i).map (Branch.withStorageCmd ⟨s.store.mode, s.store.rate⟩) := by
  unfold State.writeStorageCmd
  split
  next x hx =>
    have hb : s.branch? x.1 = some x.2 := branch?_of_storage hx
    split
    · exact .inl rfl
    · by_cases hi : x.1 = i
      · subst hi
        have hlt : x.1 < s.branches.length := by
          by_contra hge
          simp [State.branch?, List.getElem?_eq_none (Nat.le_of_not_lt hge)] at hb
        exact .inr (by rw [hb]; simp [State.branch?, State.setBranch, hlt])
      · exact .inl (by simp [State.branch?, State.setBranch, List.getElem?_set_ne hi])
  next => exact .inl rfl

theorem branch?_writeStorageCmd_meter (s : State) (i : Nat) :
    (s.writeStorageCmd.branch? i).map Branch.meter = (s.branch? i).map Branch.meter := by
  rcases branch?_writeStorageCmd s i with same | written
  · rw [same]
  · rw [written, Option.map_map]
    exact congrArg (Option.map · _) (funext (withStorageCmd_meter _))

/-- The scheduler meters nothing. -/
theorem branch?_storageClosed_meter (tc : Nat) (was : Bool) (s : State) (i : Nat) :
    ((storageClosed tc was s).branch? i).map Branch.meter = (s.branch? i).map Branch.meter := by
  unfold storageClosed
  split
  · rfl
  · split
    · rfl
    · rw [branch?_writeStorageCmd_meter]
      split <;> rfl

/-- Every branch record is metered, as the closing rule has left it, over the P_eff of the cycle (03, R45). -/
theorem branch?_readingsClosed_meter (s : State) (i : Nat) :
    ((readingsClosed s).branch? i).map Branch.meter
      = (s.branch? i).map fun b => (meterBranch s.fc.pEff i (closeBranch s.limits i b).1).1.meter := by
  unfold readingsClosed
  rw [branch?_storageClosed_meter]
  change ((monitorTable (meterTable s.fc.pEff (closeTable s))).branch? i).map Branch.meter = _
  rw [branch?_monitorTable, branch?_meterTable, branch?_closeTable]
  cases s.branch? i with
  | none => rfl
  | some b => exact congrArg some (monitorBranch_meter i _)

/-! ## What a closed record is metered by (03, R46, R49) -/

section
variable {b : Branch} (lim : Limits) (i : Nat)

/-- A record answered in the cycle is fresh, with the values of its answer. -/
theorem freshValues_closed_of_answered (hj : b.station.joined = false) {r : Reading BranchValues}
    (hr : b.station.cycle = some r) : (closeBranch lim i b).1.freshValues = some r.values := by
  have closed := (b.station.close_after lim.kStale lim.kLost).1 hj
  obtain ⟨hclosed, hfresh, -, -⟩ := closed.fresh r hr
  obtain ⟨-, -, hjoined⟩ := closed.cleared
  simp only [Branch.freshValues, closeBranch, Station.isFresh, Station.values, hjoined, hfresh, hclosed]
  cases r.isLocal <;> rfl

/-- A record not answered in the cycle is not fresh. -/
theorem freshValues_closed_of_missed (hj : b.station.joined = false) (hc : b.station.cycle = none) :
    (closeBranch lim i b).1.freshValues = none := by
  have missed : ∀ l, b.station.cls ≠ .fresh l := by
    intro l
    cases hf : b.station.faultMark <;> simp [Station.cls, hc, hf]
  obtain ⟨honline, hlocal, -⟩ :=
    freshnessTable_missed lim.kStale lim.kLost b.station.freshness b.station.miss missed
  simp [closeBranch, Branch.freshValues, Station.isFresh, Station.close, hj, honline, hlocal]

end

section
variable {b : Branch}

theorem usedPower_of_last (hj : b.station.joined = false)
    (hf : b.station.freshness = .held ∨ b.station.freshness = .stale) : b.usedPower = some b.meter.lastPower := by
  rcases hf with hf | hf <;> simp [Branch.usedPower, hj, hf]

theorem usedPower_of_lost (hj : b.station.joined = false) (hf : b.station.freshness = .lost) :
    b.usedPower = some (b.desc.substitute * 1000) := by
  simp [Branch.usedPower, hj, hf]

theorem usedPower_of_awaiting (hf : b.station.freshness = .awaiting) : b.usedPower = none := by
  simp [Branch.usedPower, hf]

end

/-! ## Metering one record, by the case that holds (03, R49) -/

section
variable {b : Branch} (tc i : Nat)

theorem meterBranch_of_fresh {v : BranchValues} (hv : b.freshValues = some v) :
    (meterBranch tc i b).1.meter = (meterFresh tc i b.meter v).1 := by
  simp [meterBranch, hv]

theorem meterBranch_of_used {w : Nat} (hv : b.freshValues = none) (hw : b.usedPower = some w) :
    (meterBranch tc i b).1.meter = (meterEstimated tc i w b.meter).1 := by
  simp [meterBranch, hv, hw]

theorem meterBranch_of_unused (hv : b.freshValues = none) (hw : b.usedPower = none) :
    (meterBranch tc i b).1.meter = b.meter := by
  simp [meterBranch, hv, hw]

/-- A missed record's measured energy, volume and last power stand (03, R49 to R51). -/
theorem meterBranch_missed_keeps (hv : b.freshValues = none) :
    let m := (meterBranch tc i b).1.meter
    m.measured = b.meter.measured ∧ m.measuredRes = b.meter.measuredRes ∧ m.volume = b.meter.volume ∧
      m.volumeRes = b.meter.volumeRes ∧ m.lastPower = b.meter.lastPower := by
  cases hw : b.usedPower with
  | none => rw [meterBranch_of_unused tc i hv hw]; exact ⟨rfl, rfl, rfl, rfl, rfl⟩
  | some w => rw [meterBranch_of_used tc i hv hw]; exact ⟨rfl, rfl, rfl, rfl, rfl⟩

end

/-! ## Integration (03, R50 to R52) -/

/-- An increment taken exactly: the residue keeps what makes no whole unit, the value takes the units, less 10^12 at a
wrap. -/
def Accrues (unit value residue inc value' residue' : Nat) : Prop :=
  residue' = (residue + inc) % unit ∧
  value' + (if Config.accumulatorWrap ≤ value + (residue + inc) / unit then Config.accumulatorWrap else 0)
    = value + (residue + inc) / unit

theorem accumulate_accrues (unit value residue inc : Nat) :
    Accrues unit value residue inc (accumulate unit value residue inc).value
      (accumulate unit value residue inc).residue := by
  refine ⟨rfl, ?_⟩
  simp only [accumulate]
  split_ifs with wraps
  · exact Nat.sub_add_cancel wraps
  · exact Nat.add_zero _

/-- A fresh record's power and flow over Tc go into its measured energy and its volume; the estimate stands (03, R46,
R47, R50, R51). -/
theorem meterFresh_accrues (tc i : Nat) (m : Meter) (v : BranchValues) :
    let m' := (meterFresh tc i m v).1
    Accrues 36000 m.measured m.measuredRes (v.power * tc) m'.measured m'.measuredRes ∧
      Accrues 1000 m.volume m.volumeRes (v.q * tc) m'.volume m'.volumeRes ∧
      m'.lastPower = v.power ∧ m'.estimated = m.estimated ∧ m'.estimatedRes = m.estimatedRes ∧
      (m'.reversedRun = true ↔ v.tr < v.ts) :=
  ⟨accumulate_accrues _ _ _ _, accumulate_accrues _ _ _ _, rfl, rfl, rfl, decide_eq_true_iff⟩

/-- A missed record's power over Tc goes into its estimated energy (03, R49, R50). -/
theorem meterBranch_estimates (tc i : Nat) {b : Branch} {w : Nat} (hv : b.freshValues = none)
    (hw : b.usedPower = some w) :
    Accrues 36000 b.meter.estimated b.meter.estimatedRes (w * tc) (meterBranch tc i b).1.meter.estimated
      (meterBranch tc i b).1.meter.estimatedRes := by
  rw [meterBranch_of_used tc i hv hw]
  exact accumulate_accrues _ _ _ _

/-- Settles O50: a record stands after CYCLE_END with the station that the closing rule makes of it and the meter part
that metering makes of the record so closed; the case split is that of R49. -/
theorem energyMetered : Obligations.EnergyMetered := by
  intro i b s hdue hb hj m accrues
  have framed := branch?_readingsClosed_frame (endCycle s) i
  have metered := branch?_readingsClosed_meter (endCycle s) i
  rw [show (endCycle s).branch? i = some b from hb, Option.map_some] at framed metered
  obtain ⟨b', hb', hframe⟩ := Option.map_eq_some_iff.mp framed
  have hmeter : b'.meter = (meterBranch s.fc.pEff i (closeBranch s.limits i b).1).1.meter := by
    rw [hb'] at metered
    exact Option.some.inj metered
  have hstation : b'.station = (closeBranch s.limits i b).1.station := (Prod.mk.inj hframe).2
  have hjoined : (closeBranch s.limits i b).1.station.joined = false :=
    ((b.station.close_after s.limits.kStale s.limits.kLost).1 hj).cleared.2.2
  refine ⟨_, b', exec_cycleEnd_of_due hdue, hb', fun r hr => ?_, fun hc => ?_⟩
  · rw [hmeter, meterBranch_of_fresh _ _ (freshValues_closed_of_answered s.limits i hj hr)]
    exact meterFresh_accrues s.fc.pEff i b.meter r.values
  · have hv := freshValues_closed_of_missed s.limits i hj hc
    obtain ⟨hmeasured, hmeasuredRes, hvolume, hvolumeRes, hlast⟩ := meterBranch_missed_keeps s.fc.pEff i hv
    rw [hmeter, hstation]
    exact ⟨hmeasured, hmeasuredRes, hvolume, hvolumeRes, hlast,
      fun hf => meterBranch_estimates _ _ hv (usedPower_of_last hjoined hf),
      fun hf => meterBranch_estimates _ _ hv (usedPower_of_lost hjoined hf),
      fun hf => meterBranch_of_unused _ _ hv (usedPower_of_awaiting hf)⟩

end Sys2Proof.Machine

/-! SUPPORT. The Delta-T Monitor at readings-closed (04, R63 to R72): what one evaluation makes of the throttle part,
what the blocks around it leave of a CONSUMER record, and from them the obligation on the ceiling. -/

namespace Sys2Proof.Machine

/-! ## One evaluation (04, R64 to R69) -/

section
variable {d : BranchDesc} {v : BranchValues} {count : Nat}

/-- The expanded contract flow by the granularity bit (01, R3). -/
theorem BranchDesc.contract_eq (d : BranchDesc) :
    d.contract = if d.granularity = .coarse then d.flowValue * 16 + 15 else d.flowValue := by
  unfold BranchDesc.contract
  cases d.granularity <;> rfl

/-- Below a quarter of the contract flow the count stands (04, R65). -/
theorem lowDtCount_of_lowFlow (hq : v.q < d.contract / 4) : lowDtCount d v count = count := if_pos hq

/-- A dT short of the threshold counts up, as far as 255 (04, R65). -/
theorem lowDtCount_of_lowDt (hq : d.contract / 4 ≤ v.q) (hdT : v.dT + d.dtMargin < d.designDt) :
    lowDtCount d v count = min 255 (count + 1) := by
  have low : (v.dT : Int) < d.threshold := by unfold BranchDesc.threshold; omega
  exact (if_neg (Nat.not_lt.mpr hq)).trans (if_pos low)

/-- A dT that reaches the threshold counts down, as far as 0 (04, R65). -/
theorem lowDtCount_of_designDt (hq : d.contract / 4 ≤ v.q) (hdT : d.designDt ≤ v.dT + d.dtMargin) :
    lowDtCount d v count = count - 1 := by
  have reached : ¬ (v.dT : Int) < d.threshold := by unfold BranchDesc.threshold; omega
  exact (if_neg (Nat.not_lt.mpr hq)).trans (if_neg reached)

/-- The ceiling by the permission and then by the cause, any cause but NONE taking it down (04, R68, R69). -/
theorem stepCeiling_eq (d : BranchDesc) (cause : ThrottleCause) (ceiling : Nat) :
    stepCeiling d cause ceiling =
      if d.throttleAllowed = false then 1000
      else if cause = .none then min 1000 (ceiling + d.step) else max d.floor (ceiling - d.step) := by
  unfold stepCeiling
  cases d.throttleAllowed with
  | false => rfl
  | true => cases cause <;> rfl

end

/-! ## The monitor on one record (04, R63, R70) -/

/-- A record that was not fresh is held as it stands. -/
theorem monitorBranch_of_missed (i : Nat) {b : Branch} (hv : b.freshValues = none) : (monitorBranch i b).1 = b := by
  simp [monitorBranch, hv]

/-- A fresh CONSUMER record gets the evaluation's throttle part, and its ceiling as the next command in ONLINE. -/
theorem monitorBranch_part_of_fresh (i : Nat) {b : Branch} {t : Throttle} {next cur : Option Nat} {v : BranchValues}
    (hp : b.part = .consumer t next cur) (hv : b.freshValues = some v) :
    (monitorBranch i b).1.part =
      .consumer (evaluateThrottle b.desc v t)
        (if b.station.freshness = .online then some (evaluateThrottle b.desc v t).ceiling else next) cur := by
  simp [monitorBranch, hp, hv]

/-- The monitor changes no record's type. -/
theorem monitorBranch_isStorage (i : Nat) (b : Branch) : (monitorBranch i b).1.isStorage = b.isStorage := by
  unfold monitorBranch
  split
  next hp _ => simp [Branch.isStorage, hp]
  next => rfl

/-! ## The closed and metered record that the monitor works on -/

/-- The record as the Delta-T Monitor finds it. -/
def Branch.metered (lim : Limits) (tc i : Nat) (b : Branch) : Branch := (meterBranch tc i (closeBranch lim i b).1).1

/-- Metering writes the meter part alone. -/
theorem meterBranch_part (tc i : Nat) (b : Branch) : (meterBranch tc i b).1.part = b.part := by
  unfold meterBranch
  split
  · rfl
  · split <;> rfl

/-- Whether a record is fresh, and with what values, is its station's matter. -/
theorem freshValues_congr {b c : Branch} (h : b.station = c.station) : b.freshValues = c.freshValues := by
  simp only [Branch.freshValues, h]

section
variable {b : Branch} (lim : Limits) (tc i : Nat)

theorem metered_part : (b.metered lim tc i).part = b.part := meterBranch_part tc i _

theorem metered_frame : (b.metered lim tc i).frame = (b.desc, b.station.close lim.kStale lim.kLost) :=
  meterBranch_frame tc i _

theorem metered_desc : (b.metered lim tc i).desc = b.desc := (Prod.mk.inj (metered_frame lim tc i)).1

theorem metered_station : (b.metered lim tc i).station = b.station.close lim.kStale lim.kLost :=
  (Prod.mk.inj (metered_frame lim tc i)).2

theorem freshValues_metered : (b.metered lim tc i).freshValues = (closeBranch lim i b).1.freshValues :=
  freshValues_congr (metered_station lim tc i)

/-- A record answered in the cycle comes to ONLINE unless its answer says LOCAL (01, R15). -/
theorem metered_online_iff (hj : b.station.joined = false) {r : Reading BranchValues} (hr : b.station.cycle = some r) :
    (b.metered lim tc i).station.freshness = .online ↔ r.isLocal = false := by
  obtain ⟨-, hfresh, -, -⟩ := ((b.station.close_after lim.kStale lim.kLost).1 hj).fresh r hr
  rw [metered_station, hfresh]
  cases r.isLocal <;> simp

/-- The monitor's work on a CONSUMER record answered in the cycle (04, R63, R70). -/
theorem monitorBranch_metered_of_answered {t : Throttle} {next cur : Option Nat} (hp : b.part = .consumer t next cur)
    (hj : b.station.joined = false) {r : Reading BranchValues} (hr : b.station.cycle = some r) :
    (monitorBranch i (b.metered lim tc i)).1.part =
      .consumer (evaluateThrottle b.desc r.values t)
        (if r.isLocal then next else some (evaluateThrottle b.desc r.values t).ceiling) cur := by
  have hv : (b.metered lim tc i).freshValues = some r.values := by
    rw [freshValues_metered, freshValues_closed_of_answered lim i hj hr]
  rw [monitorBranch_part_of_fresh i ((metered_part lim tc i).trans hp) hv, metered_desc]
  simp only [metered_online_iff lim tc i hj hr]
  cases r.isLocal <;> rfl

end

/-! ## What the blocks after the monitor leave of a CONSUMER record -/

theorem withStorageCmd_of_consumer (cmd : StorageCmd) {b : Branch} (hc : b.isStorage = false) :
    b.withStorageCmd cmd = b := by
  unfold Branch.withStorageCmd
  split
  next hp => simp [Branch.isStorage, hp] at hc
  next => rfl

section
variable {s : State} {i : Nat} {b : Branch} (hb : s.branch? i = some b) (hc : b.isStorage = false)
include hb hc

/-- The storage command is written into no CONSUMER record (09, R153). -/
theorem branch?_writeStorageCmd_of_consumer : s.writeStorageCmd.branch? i = some b := by
  rcases branch?_writeStorageCmd s i with same | written
  · rw [same, hb]
  · rw [written, hb, Option.map_some, withStorageCmd_of_consumer _ hc]

/-- The scheduler's work leaves a CONSUMER record whole (09, R154). -/
theorem branch?_storageClosed_of_consumer (tc : Nat) (was : Bool) : (storageClosed tc was s).branch? i = some b := by
  unfold storageClosed
  split
  · exact hb
  · split
    · exact hb
    · refine branch?_writeStorageCmd_of_consumer ?_ hc
      split <;> exact hb

/-- A CONSUMER record stands after readings-closed as closing, metering and the monitor, in this order, have left it. -/
theorem branch?_readingsClosed_of_consumer :
    (readingsClosed s).branch? i = some (monitorBranch i (b.metered s.limits s.fc.pEff i)).1 := by
  unfold readingsClosed
  apply branch?_storageClosed_of_consumer
  · change (monitorTable (meterTable s.fc.pEff (closeTable s))).branch? i = _
    rw [branch?_monitorTable, branch?_meterTable, branch?_closeTable, hb]
    rfl
  · rw [monitorBranch_isStorage, Branch.isStorage, metered_part]
    exact hc

end

/-- Settles O51: the record after CYCLE_END is the monitor's work on the closed and metered one. A missed record is not
fresh, so nothing of its part is written; an answered one is fresh with the values of its answer, and the evaluation's
count, cause and ceiling are those of the statement line by line. -/
theorem ceilingStepped : Obligations.CeilingStepped := by
  intro i b t next cur s hdue hb hp hj d contract
  have hcontract : d.contract = contract := d.contract_eq
  have hc : b.isStorage = false := by simp [Branch.isStorage, hp]
  refine ⟨_, (monitorBranch i (b.metered s.limits s.fc.pEff i)).1, exec_cycleEnd_of_due hdue,
    branch?_readingsClosed_of_consumer (s := endCycle s) hb hc, fun hmissed => ?_, fun r hr => ?_⟩
  · have hv := freshValues_closed_of_missed s.limits i hj hmissed
    rw [monitorBranch_of_missed i ((freshValues_metered _ _ i).trans hv), metered_part]
  · rw [← hcontract]
    exact ⟨evaluateThrottle d r.values t, monitorBranch_metered_of_answered _ _ i hp hj hr,
      lowDtCount_of_lowFlow, lowDtCount_of_lowDt, lowDtCount_of_designDt, rfl, stepCeiling_eq _ _ _⟩

end Sys2Proof.Machine

/-! SUPPORT. Reading and releasing at the inputs and the event list (10, R159, R162, R165, R167, R168): what each of the
three requests serves, case by case, and from it the obligations on READ_CAPTURE, RELEASE_STOP and READ_EVENTS. -/

namespace Sys2Proof.Machine

/-! ## READ_CAPTURE (10, R162) -/

/-- A channel that the part lacks is channel 0 or one past the last (10, R159). -/
theorem channel_eq_none_iff (x : Inputs) (n : Nat) : x.channel n = none ↔ n = 0 ∨ x.channels.length < n := by
  cases n with
  | zero => simp [Inputs.channel]
  | succ n => simp [Inputs.channel]

section
variable {s : State} {n : Octet}

theorem serveReadCapture_of_noChannel (h : s.inputs.channel n.toNat = none) :
    serveReadCapture n s = (s, ⟨.refusedIndex, []⟩) := by
  simp [serveReadCapture, h, refuse]

theorem serveReadCapture_of_noRecord {c : Channel} (h : s.inputs.channel n.toNat = some c) (hr : c.record = none) :
    serveReadCapture n s = (s, ⟨.refusedAbsent, []⟩) := by
  simp [serveReadCapture, h, hr, refuse]

/-- The record and the pending flag are answered as they stood; the channel keeps the record, both marks cleared. -/
theorem serveReadCapture_of_record {c : Channel} (h : s.inputs.channel n.toNat = some c) {r : Capture}
    (hr : c.record = some r) :
    serveReadCapture n s =
      ({ s with
          inputs := s.inputs.setChannel n.toNat
            { c with record := some { r with overwritten := false }, pending := false } },
        ⟨.done, r.octets ++ [flag c.pending]⟩) := by
  simp [serveReadCapture, h, hr]

end

theorem exec_readCapture_of_ready {p : Port} {s : State} (h : s.Ready p) (tag n : Octet) :
    exec (.readCapture p tag n) s =
      .next ((serveReadCapture n s).1.hand p
        (replyFrame tag 30 (serveReadCapture n s).2.status (serveReadCapture n s).2.content)) :=
  request_of_ready h tag 30 [n] (serveReadCapture n)

/-- Settles O43: the port takes the request, and the split is that of R162's checks: a channel, then a record. -/
theorem captureReadOnce : Obligations.CaptureReadOnce := by
  intro p tag n s hready hlen
  rw [exec_readCapture_of_ready hready]
  refine ⟨fun hindex => ?_, fun c hc => ⟨fun habsent => ?_, fun r hr => ?_⟩⟩
  · have hnone : s.inputs.channel n.toNat = none := (channel_eq_none_iff _ _).mpr (by rwa [hlen])
    rw [serveReadCapture_of_noChannel hnone]
  · rw [serveReadCapture_of_noRecord hc habsent]
  · rw [serveReadCapture_of_record hc hr]
    simp [Capture.octets, flag]

/-! ## RELEASE_STOP (10, R165) -/

theorem stopActive_iff (x : Inputs) :
    x.stopActive = true ↔ ∃ c ∈ x.channels, c.action = .stopAll ∧ c.active = true := by
  simp [Inputs.stopActive]

/-- No STOP_ALL channel has its input active. -/
theorem stopActive_eq_false_iff (x : Inputs) :
    x.stopActive = false ↔ ∀ c ∈ x.channels, c.action = .stopAll → c.active = false := by
  simp [Inputs.stopActive]

theorem serveReleaseStop_supervisory (s : State) :
    serveReleaseStop .supervisory s = (s, ⟨.refusedRank, []⟩) := rfl

section
variable {s : State}

theorem serveReleaseStop_of_active (h : s.inputs.stopActive = true) :
    serveReleaseStop .panel s = (s, ⟨.refusedState, []⟩) := by
  simp [serveReleaseStop, h, refuse]

theorem serveReleaseStop_of_latched (h : s.inputs.stopActive = false) (hl : s.inputs.stopLatch = true) :
    serveReleaseStop .panel s =
      (({ s with inputs := { s.inputs with stopLatch := false } } : State).notes [⟨.stopLatchOff, 300, 0⟩],
        ⟨.done, []⟩) := by
  simp [serveReleaseStop, h, hl, captureSubject]

theorem serveReleaseStop_of_clear (h : s.inputs.stopActive = false) (hl : s.inputs.stopLatch = false) :
    serveReleaseStop .panel s = (s, ⟨.done, []⟩) := by
  simp [serveReleaseStop, h, hl]

end

theorem exec_releaseStop_of_ready {p : Port} {s : State} (h : s.Ready p) (tag : Octet) :
    exec (.releaseStop p tag) s =
      .next ((serveReleaseStop p s).1.hand p
        (replyFrame tag 19 (serveReleaseStop p s).2.status (serveReleaseStop p s).2.content)) :=
  request_of_ready h tag 19 [] (serveReleaseStop p)

/-- Settles O44: by the port, and on the panel port by a STOP_ALL input active or none, and by the latch. -/
theorem stopReleased : Obligations.StopReleased := by
  intro tag s
  refine ⟨fun hready => ?_, fun hready => ⟨fun hactive => ?_, fun hquiet => ⟨fun hlatched => ?_, fun hclear => ?_⟩⟩⟩
  · rw [exec_releaseStop_of_ready hready, serveReleaseStop_supervisory]
  · rw [exec_releaseStop_of_ready hready, serveReleaseStop_of_active ((stopActive_iff _).mpr hactive)]
  · rw [exec_releaseStop_of_ready hready,
      serveReleaseStop_of_latched ((stopActive_eq_false_iff _).mpr hquiet) hlatched]
  · rw [exec_releaseStop_of_ready hready,
      serveReleaseStop_of_clear ((stopActive_eq_false_iff _).mpr hquiet) hclear]

/-! ## ATTN and READ_EVENTS (10, R167, R168) -/

/-- ATTN, by what it is computed from (R168). -/
theorem attn_iff (s : State) :
    s.attn = true ↔ s.events.records ≠ [] ∨ ∃ c ∈ s.inputs.channels, c.pending = true := by
  simp [State.attn]

/-- ATTN is released exactly by an empty list with no capture pending (R168). -/
theorem attn_eq_false_iff (s : State) :
    s.attn = false ↔ s.events.records = [] ∧ ∀ c ∈ s.inputs.channels, c.pending = false := by
  simp [State.attn]

/-- The reply counts the records left as those the read leaves in the list (R167). -/
theorem eventOctets_eq (x : EventList) :
    eventOctets x =
      [flag x.discarded] ++ be 2 x.discardedCount
        ++ [oct (x.records.drop Config.eventsPerRead).length, oct (x.records.take Config.eventsPerRead).length]
        ++ (x.records.take Config.eventsPerRead).flatMap EventRecord.octets := by
  have hleft : x.records.length - (x.records.take Config.eventsPerRead).length
      = (x.records.drop Config.eventsPerRead).length := by
    rw [List.length_take, List.length_drop]
    omega
  rw [eventOctets, hleft]

theorem exec_readEvents_of_ready {p : Port} {s : State} (h : s.Ready p) (tag : Octet) :
    exec (.readEvents p tag) s =
      .next (({ s with events := s.events.drained } : State).hand p
        (replyFrame tag 29 .done (eventOctets s.events))) :=
  request_of_ready h tag 29 [] serveReadEvents

/-- Settles O45: ATTN by its definition; the list is cut after its eighth record, the first part answered and the second
kept, which is empty when the list held no more than eight. -/
theorem eventsDrained : Obligations.EventsDrained := by
  refine ⟨attn_iff, fun p tag s hready _ => ?_⟩
  refine ⟨s.events.records.take Config.eventsPerRead, s.events.records.drop Config.eventsPerRead,
    (List.take_append_drop _ _).symm, List.length_take, ?_, fun hfew hpending => ?_⟩
  · rw [exec_readEvents_of_ready hready, eventOctets_eq]
    rfl
  · exact (attn_eq_false_iff _).mpr ⟨List.drop_eq_nil_of_le hfew, hpending⟩

end Sys2Proof.Machine

/-! SUPPORT. What a command can do, said once: every command is bookkeeping at a port, a frame taken, an event of the
part, or one of the acts of RST and the pins. A statement about every step is then proved by these cases. -/

namespace Sys2Proof.Machine

/-! ## What a request serves, block by block (11, R173, R176; 12.3) -/

/-- The two requests on a branch record. -/
inductive ServedBranch (p : Port) (s : State) : State × Reply → Prop
  | load (b : BranchLoadBody) : ServedBranch p s (serveBranchLoad p b s)
  | release (i : Octet) : ServedBranch p s (serveBranchRelease p i s)

/-- The three requests on the clock and the schedules. -/
inductive ServedSchedule (p : Port) (s : State) : State × Reply → Prop
  | timeSet (m : Half) (o : Octet) : ServedSchedule p s (serveTimeSet m o s)
  | windowSet (n : Octet) (ws : List Octet) : ServedSchedule p s (serveWindowSet p n ws s)
  | windowReload : ServedSchedule p s (serveWindowReload p s)

/-- The requests on the units and the ladders that touch the sequencer and the event list alone. -/
inductive ServedUnit (p : Port) (s : State) : State × Reply → Prop
  | load (b : UnitLoadBody) : ServedUnit p s (serveUnitLoad p b s)
  | stageHold (o : Octet) : ServedUnit p s (serveStageHold o s)
  | stageFree (o : Octet) : ServedUnit p s (serveStageFree o s)
  | hand (l q d : Octet) : ServedUnit p s (serveUnitHand p l q d s)
  | auto (l q : Octet) : ServedUnit p s (serveUnitAuto p l q s)
  | clear (l q : Octet) : ServedUnit p s (serveUnitClear p l q s)
  | disable (l q : Octet) : ServedUnit p s (serveUnitDisable p l q s)
  | enable (l q : Octet) : ServedUnit p s (serveUnitEnable p l q s)
  | periodSet (l k : Octet) (n : Half) : ServedUnit p s (serveTimerPeriodSet l k n s)
  | reload (l q k : Octet) : ServedUnit p s (serveTimerReload p l q k s)

/-- The three requests on the channels and the STOP latch. -/
inductive ServedInput (p : Port) (s : State) : State × Reply → Prop
  | channelSet (n e a : Octet) : ServedInput p s (serveChannelSet p n e a s)
  | readCapture (n : Octet) : ServedInput p s (serveReadCapture n s)
  | releaseStop : ServedInput p s (serveReleaseStop p s)

/-- What a request other than RESTART serves; a refusal and a read leave the part as it stands. -/
inductive Served (p : Port) (s : State) : State × Reply → Prop
  | nothing {r : State × Reply} (h : r.1 = s) : Served p s r
  | branch {r : State × Reply} (h : ServedBranch p s r) : Served p s r
  | schedule {r : State × Reply} (h : ServedSchedule p s r) : Served p s r
  | unit {r : State × Reply} (h : ServedUnit p s r) : Served p s r
  | input {r : State × Reply} (h : ServedInput p s r) : Served p s r
  | rotate (o : Octet) : Served p s (serveLadderRotate p o s)
  | slotMap (first count : Octet) (es : List Octet) : Served p s (serveSlotMapWrite p first count es s)
  | cycleSet (n : Half) : Served p s (serveCycleSet n s)
  | fieldPass (tag a : Octet) (os : List Octet) : Served p s (serveFieldPass p tag a os s)
  | limits (b : LimitsBody) : Served p s (servePlantLimitsSet b s)
  | goLive : Served p s (serveGoLive p s)
  | snapshot : Served p s (serveMeterSnapshot s)
  | readEvents : Served p s (serveReadEvents s)

section
variable (p : Port) (s : State)

theorem serveReadBranch_state (i : Octet) : (serveReadBranch i s).1 = s := by
  unfold serveReadBranch
  split
  · rfl
  · split <;> rfl

theorem serveReadSnapshot_state (i : Octet) : (serveReadSnapshot i s).1 = s := by
  unfold serveReadSnapshot
  split
  · rfl
  · split <;> rfl

theorem serveReadUnit_state (l q : Octet) : (serveReadUnit l q s).1 = s := by
  unfold serveReadUnit
  split
  · rfl
  · split <;> rfl

theorem serveReadLadder_state (l : Octet) : (serveReadLadder l s).1 = s := by
  unfold serveReadLadder
  split <;> rfl

/-! ## The dispatch of a frame serves what its kind's row serves -/

theorem served_wrongLength : Served p s (wrongLength s) := .nothing rfl

theorem served_noBody {serve : State → State × Reply} (h : Served p s (serve s)) (body : List Octet) :
    Served p s (noBody serve body s) := by
  unfold noBody
  split
  · exact h
  · exact served_wrongLength p s

theorem served_oneOctet {serve : Octet → State → State × Reply} (h : ∀ a, Served p s (serve a s))
    (body : List Octet) : Served p s (oneOctet serve body s) := by
  unfold oneOctet
  split
  · exact h _
  · exact served_wrongLength p s

theorem served_twoOctets {serve : Octet → Octet → State → State × Reply} (h : ∀ a b, Served p s (serve a b s))
    (body : List Octet) : Served p s (twoOctets serve body s) := by
  unfold twoOctets
  split
  · exact h _ _
  · exact served_wrongLength p s

theorem served_threeOctets {serve : Octet → Octet → Octet → State → State × Reply}
    (h : ∀ a b c, Served p s (serve a b c s)) (body : List Octet) : Served p s (threeOctets serve body s) := by
  unfold threeOctets
  split
  · exact h _ _ _
  · exact served_wrongLength p s

theorem served_fourOctets {serve : Octet → Octet → Octet → Octet → State → State × Reply}
    (h : ∀ a b c d, Served p s (serve a b c d s)) (body : List Octet) : Served p s (fourOctets serve body s) := by
  unfold fourOctets
  split
  · exact h _ _ _ _
  · exact served_wrongLength p s

theorem served_dispatchBranchLoad (body : List Octet) : Served p s (dispatchBranchLoad p body s) := by
  unfold dispatchBranchLoad
  split
  · exact .branch (.load _)
  · exact served_wrongLength p s

theorem served_dispatchUnitLoad (body : List Octet) : Served p s (dispatchUnitLoad p body s) := by
  unfold dispatchUnitLoad
  split
  · exact .unit (.load _)
  · exact served_wrongLength p s

theorem served_dispatchLimits (body : List Octet) : Served p s (dispatchLimits body s) := by
  unfold dispatchLimits
  split
  · exact .limits _
  · exact served_wrongLength p s

theorem served_dispatchSlotMap (body : List Octet) : Served p s (dispatchSlotMap p body s) := by
  unfold dispatchSlotMap
  split
  · exact .slotMap _ _ _
  · exact served_wrongLength p s

theorem served_dispatchWindows (body : List Octet) : Served p s (dispatchWindows p body s) := by
  unfold dispatchWindows
  split
  · exact .schedule (.windowSet _ _)
  · exact served_wrongLength p s

theorem served_dispatchPass (tag : Octet) (body : List Octet) : Served p s (dispatchPass p tag body s) := by
  unfold dispatchPass
  split
  · exact .fieldPass _ _ _
  · exact served_wrongLength p s

/-- Whatever its kind and body, a frame that is taken serves one of the requests, or nothing (11, R176). -/
theorem served_dispatch (f : RequestFrame) : Served p s (dispatch p f s) := by
  unfold dispatch
  split
  · exact served_dispatchBranchLoad p s _
  · exact served_oneOctet p s (fun a => .branch (.release a)) _
  · exact served_dispatchUnitLoad p s _
  · exact served_oneOctet p s .rotate _
  · exact served_dispatchSlotMap p s _
  · exact served_twoOctets p s (fun _ _ => .cycleSet _) _
  · exact served_dispatchLimits p s _
  · exact served_fourOctets p s (fun _ _ _ _ => .unit (.periodSet _ _ _)) _
  · exact served_threeOctets p s (fun _ _ _ => .unit (.reload _ _ _)) _
  · exact served_dispatchWindows p s _
  · exact served_noBody p s (.schedule .windowReload) _
  · exact served_threeOctets p s (fun _ _ _ => .schedule (.timeSet _ _)) _
  · exact served_threeOctets p s (fun _ _ _ => .input (.channelSet _ _ _)) _
  · exact served_threeOctets p s (fun _ _ _ => .unit (.hand _ _ _)) _
  · exact served_twoOctets p s (fun _ _ => .unit (.auto _ _)) _
  · exact served_twoOctets p s (fun _ _ => .unit (.clear _ _)) _
  · exact served_oneOctet p s (fun _ => .unit (.stageHold _)) _
  · exact served_oneOctet p s (fun _ => .unit (.stageFree _)) _
  · exact served_noBody p s (.input .releaseStop) _
  · exact served_noBody p s .goLive _
  · exact served_dispatchPass p s _ _
  · exact served_noBody p s .snapshot _
  · exact served_oneOctet p s (fun i => .nothing (serveReadBranch_state s i)) _
  · exact served_twoOctets p s (fun l q => .nothing (serveReadUnit_state s l q)) _
  · exact served_oneOctet p s (fun l => .nothing (serveReadLadder_state s l)) _
  · exact served_noBody p s (.nothing rfl) _
  · exact served_noBody p s (.nothing rfl) _
  · exact served_noBody p s .readEvents _
  · exact served_oneOctet p s (fun n => .input (.readCapture n)) _
  · exact served_oneOctet p s (fun i => .nothing (serveReadSnapshot_state s i)) _
  · exact served_twoOctets p s (fun _ _ => .unit (.disable _ _)) _
  · exact served_twoOctets p s (fun _ _ => .unit (.enable _ _)) _
  · exact .nothing rfl

end

/-! ## A frame taken (11, R173, R178) -/

/-- The taking of a good frame: its request served and answered at once, or the warm restart after DONE. -/
inductive Taken (p : Port) (s : State) : State → Prop
  | answered (tag kind : Octet) {r : State × Reply} (h : Served p s r) : Taken p s (answer p tag kind r)
  | restarted (tag : Octet) : Taken p s (warmRestart p (answer p tag restartKind (s, ⟨.done, []⟩)))

theorem taken_takeRestart (p : Port) (tag : Octet) (s : State) : Taken p s (takeRestart p tag s) := by
  unfold takeRestart
  split
  · exact .answered _ _ (.nothing rfl)
  · exact .restarted tag

theorem taken_takeFrame (p : Port) (f : RequestFrame) (s : State) : Taken p s (takeFrame p f s) := by
  unfold takeFrame
  split
  · exact taken_takeRestart p _ s
  · split
    · exact .answered _ _ (served_wrongLength p s)
    · exact .answered _ _ (served_dispatch p s f)

/-! ## Events and commands -/

/-- What an event of the field line, the time base or the cycle does, when RST is released and it is due. -/
inductive Event (s : State) : State → Prop
  | cycleStart (h : s.fc.position = Config.gapPosition) : Event s (beginCycle s)
  | mappedSlot : Event s (mappedSlot s)
  | fieldReply (os : List Octet) : Event s (fieldReply os s)
  | windowClose : Event s (windowClose s)
  | openSlot : Event s (openSlot s)
  | cycleEnd (h : s.fc.endDue = true) : Event s (readingsClosed (endCycle s))
  | secondMark : Event s (secondMark s)
  | proveExpiry {l : LadderId} {n : Nat} {u : PlantUnit} (hu : s.unit? l n = some u) (hr : u.prove.ranOut = true) :
      Event s (s.sequence fun e w => w.proveExpired e l n u)
  | stopExpiry {l : LadderId} {n : Nat} {u : PlantUnit} (hu : s.unit? l n = some u) (hr : u.stop.ranOut = true) :
      Event s (s.sequence fun e w => w.stopExpired e l n u)
  | runExpiry {l : LadderId} {n : Nat} {u : PlantUnit} (hu : s.unit? l n = some u) (hr : u.run.ranOut = true) :
      Event s (s.sequence fun e w => w.runExpired e l n u)
  | restExpiry {l : LadderId} {n : Nat} {u : PlantUnit} (hu : s.unit? l n = some u) (hr : u.rest.ranOut = true) :
      Event s (s.sequence fun e w => w.restExpired e l n u)
  | upExpiry {l : LadderId} (hr : (s.seq.ladder l).up.ranOut = true) :
      Event s (s.sequence fun e w => (w.onLadder l fun L => { L with up := .idle }).raiseUp e l)
  | downExpiry {l : LadderId} (hr : (s.seq.ladder l).down.ranOut = true) :
      Event s (s.sequence fun e w => (w.onLadder l fun L => { L with down := .idle, downPending := true }).actDown e l)
  | windowBoundary (h : s.store.boundaryDue = true) :
      Event s ({ s with store := s.store.adopt } : State).evaluateMode

/-- A port with its receiver, its held frame and its counters moved: what it is to send and what it is owed stand. -/
def LinkPort.Kept (x y : LinkPort) : Prop := y.tx = x.tx ∧ y.owed = x.owed

/-- What a command does. -/
inductive Does (s : State) : State → Prop
  | idles : Does s s
  | logs {p : Port} {x : LinkPort} (h : (s.port p).Kept x) : Does s (s.setPort p x)
  | takes {p : Port} {x : LinkPort} {t : State} (h : (s.port p).Kept x) (hrst : s.rst = false) (free : x.busy = false)
      (taken : Taken p (s.setPort p x) t) : Does s t
  | sends (p : Port) : Does s (s.setPort p { s.port p with tx := (s.port p).tx.drop 1 })
  | event {t : State} (hrst : s.rst = false) (h : Event s t) : Does s t
  | edge (n : Nat) (high : Bool) : Does s (inputEdge n high s)
  | coldReset : Does s (coldReset s)
  | release (shadow : Bool) (rate : BitVec 2) (hrst : s.rst = true) : Does s (releaseReset shadow rate s)

theorem kept_refl (x : LinkPort) : x.Kept x := ⟨rfl, rfl⟩

theorem busy_of_kept {x y : LinkPort} (h : x.Kept y) : y.busy = x.busy := by
  unfold LinkPort.busy
  rw [h.1]

section
variable {s t : State}

/-- Bookkeeping first, and then what a command does. -/
theorem does_after_logs {p : Port} {x : LinkPort} (h : (s.port p).Kept x) {y : LinkPort}
    (hy : x.Kept y) : Does s ((s.setPort p x).setPort p y) := by
  have twice : (s.setPort p x).setPort p y = s.setPort p y := by cases p <;> rfl
  rw [twice]
  exact .logs ⟨hy.1.trans h.1, hy.2.trans h.2⟩

/-- A good frame arriving after the port's bookkeeping (11, R172). -/
theorem does_arrive {p : Port} {x : LinkPort} {f : RequestFrame} {work : State → State} (h : (s.port p).Kept x)
    (taken : ∀ u, Taken p u (work u)) : Does s (arrive p f work (s.setPort p x)) := by
  unfold arrive
  simp only [setPort_rst, port_setPort]
  cases hrst : s.rst with
  | true => exact .logs h
  | false =>
    simp only [Bool.false_eq_true, if_false]
    split_ifs with held busy
    · exact does_after_logs h ⟨rfl, rfl⟩
    · exact does_after_logs h ⟨rfl, rfl⟩
    · exact .takes h hrst (by simpa using busy) (taken _)

theorem does_request {p : Port} {tag kind : Octet} {body : List Octet} {serve : State → State × Reply}
    (served : ∀ u, Served p u (serve u)) (h : request p tag kind body serve s = .next t) : Does s t := by
  obtain rfl := Host.Outcome.next.inj h
  have := does_arrive (s := s) (f := ⟨tag, kind, body⟩) (kept_refl (s.port p))
    (fun u => Taken.answered tag kind (served u))
  rwa [setPort_self] at this

theorem does_unlessReset {work : State → State} (done : s.rst = false → Does s (work s))
    (h : (.next (unlessReset s work) : Host.Outcome State Fault Refusal) = .next t) : Does s t := by
  obtain rfl := Host.Outcome.next.inj h
  unfold unlessReset
  cases hrst : s.rst with
  | true => exact .idles
  | false => exact done hrst

theorem does_expiryAt {l : LadderId} {n : Nat} {work : State → State} (done : s.rst = false → Does s (work s))
    (h : expiryAt l n work s = .next t) : Does s t := by
  unfold expiryAt at h
  split at h
  · exact does_unlessReset done h
  · cases h

theorem does_unitExpiry {l : LadderId} {n : Nat} {timer : PlantUnit → Timer}
    {act : SeqEnv → LadderId → Nat → PlantUnit → Work → Work} (hrst : s.rst = false)
    (event : ∀ u, s.unit? l n = some u → (timer u).ranOut = true → Event s (s.sequence fun e w => act e l n u w)) :
    Does s (unitExpiry l n timer act s) := by
  unfold unitExpiry
  split
  · exact .idles
  next u hu =>
    split
    · exact .event hrst (event u hu ‹_›)
    · exact .idles

theorem does_completeFrame (p : Port) (os : List Octet) : Does s (completeFrame p os s) := by
  unfold completeFrame judgeFrame State.setReceiver
  simp only [port_setPort]
  split
  · refine does_after_logs ?_ ?_ <;> exact ⟨rfl, rfl⟩
  · split
    · refine does_after_logs ?_ ?_ <;> exact ⟨rfl, rfl⟩
    · exact does_arrive ⟨rfl, rfl⟩ (taken_takeFrame p _)

theorem does_receiveOctet (p : Port) (o : Octet) : Does s (receiveOctet p o s) := by
  unfold receiveOctet receiveLength State.setReceiver
  dsimp only
  split
  · split
    · exact .logs ⟨rfl, rfl⟩
    · exact .idles
  · split
    · exact .logs ⟨rfl, rfl⟩
    · exact .logs ⟨rfl, rfl⟩
  · split
    · exact does_completeFrame p _
    · exact .logs ⟨rfl, rfl⟩
  · exact .idles

theorem does_receiverGap (p : Port) : Does s (receiverGap p s) := by
  unfold receiverGap State.setReceiver
  split
  · exact .idles
  · exact .logs ⟨rfl, rfl⟩
  · exact .logs ⟨rfl, rfl⟩

theorem does_takeHeld (p : Port) (hrst : s.rst = false) : Does s (takeHeld p s) := by
  unfold takeHeld
  split
  · exact .idles
  · split_ifs with busy
    · exact .idles
    · refine .takes ?_ hrst ?_ (taken_takeFrame p _ _)
      · exact ⟨rfl, rfl⟩
      · exact Bool.eq_false_iff.mpr busy

/-- A due CYCLE_START, CYCLE_END or boundary works; one that is not due does nothing. -/
theorem does_when {c : Prop} [Decidable c] {u : State} (hrst : s.rst = false) (event : c → Event s u) :
    Does s (if c then u else s) := by
  split_ifs with due
  · exact .event hrst (event due)
  · exact .idles

/-- Every command that completes does one of these things. -/
theorem exec_does {c : Instr} (h : exec c s = .next t) : Does s t := by
  cases c with
  | branchLoad p tag b => exact does_request (fun _ => .branch (.load b)) h
  | branchRelease p tag i => exact does_request (fun _ => .branch (.release i)) h
  | readBranch p tag i => exact does_request (fun u => .nothing (serveReadBranch_state u i)) h
  | slotMapWrite p tag first count es => exact does_request (fun _ => .slotMap first count es) h
  | cycleSet p tag n => exact does_request (fun _ => .cycleSet n) h
  | fieldPass p tag a os => exact does_request (fun _ => .fieldPass tag a os) h
  | goLive p tag => exact does_request (fun _ => .goLive) h
  | meterSnapshot p tag => exact does_request (fun _ => .snapshot) h
  | readSnapshot p tag i => exact does_request (fun u => .nothing (serveReadSnapshot_state u i)) h
  | plantLimitsSet p tag b => exact does_request (fun _ => .limits b) h
  | readPlant p tag => exact does_request (fun _ => .nothing rfl) h
  | unitLoad p tag b => exact does_request (fun _ => .unit (.load b)) h
  | ladderRotate p tag o => exact does_request (fun _ => .rotate o) h
  | stageHold p tag o => exact does_request (fun _ => .unit (.stageHold o)) h
  | stageFree p tag o => exact does_request (fun _ => .unit (.stageFree o)) h
  | readUnit p tag l q => exact does_request (fun u => .nothing (serveReadUnit_state u l q)) h
  | readLadder p tag l => exact does_request (fun u => .nothing (serveReadLadder_state u l)) h
  | unitHand p tag l q d => exact does_request (fun _ => .unit (.hand l q d)) h
  | unitAuto p tag l q => exact does_request (fun _ => .unit (.auto l q)) h
  | unitClear p tag l q => exact does_request (fun _ => .unit (.clear l q)) h
  | unitDisable p tag l q => exact does_request (fun _ => .unit (.disable l q)) h
  | unitEnable p tag l q => exact does_request (fun _ => .unit (.enable l q)) h
  | timerPeriodSet p tag l k n => exact does_request (fun _ => .unit (.periodSet l k n)) h
  | timerReload p tag l q k => exact does_request (fun _ => .unit (.reload l q k)) h
  | timeSet p tag m o => exact does_request (fun _ => .schedule (.timeSet m o)) h
  | windowSet p tag n ws => exact does_request (fun _ => .schedule (.windowSet n ws)) h
  | windowReload p tag => exact does_request (fun _ => .schedule .windowReload) h
  | readStorage p tag => exact does_request (fun _ => .nothing rfl) h
  | channelSet p tag n e a => exact does_request (fun _ => .input (.channelSet n e a)) h
  | readCapture p tag n => exact does_request (fun _ => .input (.readCapture n)) h
  | releaseStop p tag => exact does_request (fun _ => .input .releaseStop) h
  | readEvents p tag => exact does_request (fun _ => .readEvents) h
  | restart p tag =>
    obtain rfl := Host.Outcome.next.inj h
    have := does_arrive (s := s) (f := ⟨tag, restartKind, []⟩) (kept_refl (s.port p)) (taken_takeRestart p tag)
    rwa [setPort_self] at this
  | linkFrameComplete p os =>
    refine does_unlessReset (fun _ => ?_) h
    unfold receiveFrame
    split
    · exact does_completeFrame p os
    · exact .idles
  | heldFrameTaken p => exact does_unlessReset (does_takeHeld p) h
  | receiverGap p => exact does_unlessReset (fun _ => does_receiverGap p) h
  | transmitFrameSent p => exact Host.Outcome.next.inj h ▸ .sends p
  | cycleStart => exact does_unlessReset (fun hrst => does_when hrst .cycleStart) h
  | mappedSlot => exact does_unlessReset (fun hrst => .event hrst .mappedSlot) h
  | fieldReplyReceived os => exact does_unlessReset (fun hrst => .event hrst (.fieldReply os)) h
  | replyWindowClose => exact does_unlessReset (fun hrst => .event hrst .windowClose) h
  | openSlot => exact does_unlessReset (fun hrst => .event hrst .openSlot) h
  | cycleEnd => exact does_unlessReset (fun hrst => does_when hrst .cycleEnd) h
  | secondMark => exact does_unlessReset (fun hrst => .event hrst .secondMark) h
  | proveExpiry l n => exact does_expiryAt (fun hrst => does_unitExpiry hrst fun _ => .proveExpiry) h
  | stopExpiry l n => exact does_expiryAt (fun hrst => does_unitExpiry hrst fun _ => .stopExpiry) h
  | runExpiry l n => exact does_expiryAt (fun hrst => does_unitExpiry hrst fun _ => .runExpiry) h
  | restExpiry l n => exact does_expiryAt (fun hrst => does_unitExpiry hrst fun _ => .restExpiry) h
  | upExpiry l => exact does_unlessReset (fun hrst => does_when hrst .upExpiry) h
  | downExpiry l => exact does_unlessReset (fun hrst => does_when hrst .downExpiry) h
  | windowBoundary => exact does_unlessReset (fun hrst => does_when hrst .windowBoundary) h
  | inputEdge n high =>
    change execInputEdge n high s = _ at h
    unfold execInputEdge at h
    split at h
    · exact Host.Outcome.next.inj h ▸ .edge n high
    · cases h
  | coldReset => exact Host.Outcome.next.inj h ▸ .coldReset
  | rstRelease shadow rate =>
    obtain rfl := Host.Outcome.next.inj h
    split_ifs with hrst
    · exact .release shadow rate hrst
    · exact .idles
  | linkOctetReceived p o => exact does_unlessReset (fun _ => does_receiveOctet p o) h

/-- A predicate that the waiting commands are no part of, and that whatever a command does keeps, is kept by a step. -/
theorem step_keeps {P : State → Prop} (hqueue : ∀ s q, P s → P { s with pending := q })
    (hdoes : ∀ s t, P s → Does s t → P t) (hs : P s) (h : step s = .next t) : P t := by
  unfold step at h
  split at h
  · exact Host.Outcome.next.inj h ▸ hs
  · exact hdoes _ _ (hqueue s _ hs) (exec_does h)

end

end Sys2Proof.Machine

/-! SUPPORT. What each block's work leaves of the part: one frame for each piece of work, as an equation that names the
fields it may write. -/

namespace Sys2Proof.Machine

/-! ## Frames and their composition -/

/-- The event list has grown by events stamped with the count and the position held at `s`. -/
def State.Told (s t : State) : Prop := ∃ ns, t.events = (s.notes ns).events

/-- Nothing but the branch records, the scheduler and the event list differs, and the list has grown. -/
structure State.StoreOnly (s t : State) : Prop where
  frame : t = { s with branches := t.branches, store := t.store, events := t.events }
  told  : s.Told t

/-- Nothing but the sequencer and the event list differs, and the list has grown. -/
structure State.SeqOnly (s t : State) : Prop where
  frame : t = { s with seq := t.seq, events := t.events }
  told  : s.Told t

/-- Nothing but the inputs, the sequencer and the event list differs, and the list has grown. -/
structure State.InputOnly (s t : State) : Prop where
  frame : t = { s with inputs := t.inputs, seq := t.seq, events := t.events }
  told  : s.Told t

/-- Nothing but the field cycle's controller differs. -/
def State.FieldOnly (s t : State) : Prop := t = { s with fc := t.fc }

/-- Nothing but what readings-closed works on differs, and the event list has grown. -/
structure State.ClosingOnly (s t : State) : Prop where
  frame : t = { s with branches := t.branches, header := t.header, load := t.load, press := t.press, seq := t.seq,
                       store := t.store, events := t.events }
  told  : s.Told t

/-- Nothing but what a cycle start works on differs. -/
def State.StartOnly (s t : State) : Prop :=
  t = { s with fc := t.fc, branches := t.branches, header := t.header, seq := t.seq, inputs := t.inputs,
               events := t.events }

/-- Nothing but what a warm restart works on differs. -/
def State.RestartOnly (s t : State) : Prop :=
  t = { s with fc := t.fc, branches := t.branches, header := t.header, seq := t.seq, store := t.store,
               inputs := t.inputs, events := t.events, supervisory := t.supervisory, panel := t.panel }

section
variable {s t u : State}

theorem told_refl (s : State) : s.Told s := ⟨[], rfl⟩

theorem told_notes (s : State) (ns : List Note) : s.Told (s.notes ns) := ⟨ns, rfl⟩

theorem told_of_events (h : t.events = s.events) : s.Told t := ⟨[], h⟩

/-- Two stretches of events at one count and position are one. -/
theorem State.Told.trans (h : s.Told t) (hfc : t.fc = s.fc) (k : t.Told u) : s.Told u := by
  obtain ⟨ns, hns⟩ := h
  obtain ⟨ms, hms⟩ := k
  refine ⟨ns ++ ms, ?_⟩
  rw [hms]
  simp only [State.notes, hfc, List.foldl_append] at hns ⊢
  rw [hns]

theorem State.StoreOnly.fc (h : s.StoreOnly t) : t.fc = s.fc := (congrArg State.fc h.frame :)

theorem State.SeqOnly.fc (h : s.SeqOnly t) : t.fc = s.fc := (congrArg State.fc h.frame :)

theorem State.InputOnly.fc (h : s.InputOnly t) : t.fc = s.fc := (congrArg State.fc h.frame :)

theorem State.ClosingOnly.fc (h : s.ClosingOnly t) : t.fc = s.fc := (congrArg State.fc h.frame :)

theorem State.StoreOnly.trans (h : s.StoreOnly t) (k : t.StoreOnly u) : s.StoreOnly u := by
  refine ⟨k.frame.trans ?_, h.told.trans h.fc k.told⟩
  rw [h.frame]

theorem State.SeqOnly.trans (h : s.SeqOnly t) (k : t.SeqOnly u) : s.SeqOnly u := by
  refine ⟨k.frame.trans ?_, h.told.trans h.fc k.told⟩
  rw [h.frame]

theorem State.InputOnly.trans (h : s.InputOnly t) (k : t.InputOnly u) : s.InputOnly u := by
  refine ⟨k.frame.trans ?_, h.told.trans h.fc k.told⟩
  rw [h.frame]

theorem State.ClosingOnly.trans (h : s.ClosingOnly t) (k : t.ClosingOnly u) : s.ClosingOnly u := by
  refine ⟨k.frame.trans ?_, h.told.trans h.fc k.told⟩
  rw [h.frame]

theorem State.StartOnly.trans (h : s.StartOnly t) (k : t.StartOnly u) : s.StartOnly u := by
  refine Eq.trans k ?_
  rw [h]

theorem State.RestartOnly.trans (h : s.RestartOnly t) (k : t.RestartOnly u) : s.RestartOnly u := by
  refine Eq.trans k ?_
  rw [h]

theorem State.StoreOnly.after (k : t.StoreOnly u) (h : s.StoreOnly t) : s.StoreOnly u := h.trans k

theorem State.InputOnly.after (k : t.InputOnly u) (h : s.InputOnly t) : s.InputOnly u := h.trans k

theorem State.SeqOnly.inputs (h : s.SeqOnly t) : t.inputs = s.inputs := (congrArg State.inputs h.frame :)

theorem State.SeqOnly.inputOnly (h : s.SeqOnly t) : s.InputOnly t := by
  refine ⟨h.frame.trans ?_, h.told⟩
  rw [h.inputs]

theorem State.InputOnly.startOnly (h : s.InputOnly t) : s.StartOnly t := by
  refine h.frame.trans ?_
  rw [show t.fc = s.fc from h.fc, show t.branches = s.branches from (congrArg State.branches h.frame :),
    show t.header = s.header from (congrArg State.header h.frame :)]

theorem State.StoreOnly.closingOnly (h : s.StoreOnly t) : s.ClosingOnly t := by
  refine ⟨h.frame.trans ?_, h.told⟩
  rw [show t.header = s.header from (congrArg State.header h.frame :),
    show t.load = s.load from (congrArg State.load h.frame :),
    show t.press = s.press from (congrArg State.press h.frame :),
    show t.seq = s.seq from (congrArg State.seq h.frame :)]

theorem storeOnly_refl (s : State) : s.StoreOnly s := ⟨rfl, told_refl s⟩

theorem seqOnly_refl (s : State) : s.SeqOnly s := ⟨rfl, told_refl s⟩

theorem inputOnly_refl (s : State) : s.InputOnly s := ⟨rfl, told_refl s⟩

theorem fieldOnly_refl (s : State) : s.FieldOnly s := rfl

end

section
variable (s : State)

/-! ## The scheduler and the branch records (01, 09) -/

theorem storeOnly_notes (ns : List Note) : s.StoreOnly (s.notes ns) := ⟨rfl, ns, rfl⟩

theorem storeOnly_setBranch (i : Nat) (b : Option Branch) : s.StoreOnly (s.setBranch i b) := ⟨rfl, [], rfl⟩

theorem storeOnly_schedule (f : CycleCount → Option (Nat × Branch) → Scheduler → Scheduler × List Note) :
    s.StoreOnly (s.schedule f) := ⟨rfl, _, rfl⟩

theorem storeOnly_schedule_with (q : Scheduler)
    (f : CycleCount → Option (Nat × Branch) → Scheduler → Scheduler × List Note) :
    s.StoreOnly (({ s with store := q } : State).schedule f) := ⟨rfl, _, rfl⟩

theorem storeOnly_setBranch_notes (i : Nat) (b : Option Branch) (ns : List Note) :
    s.StoreOnly ((s.setBranch i b).notes ns) := ⟨rfl, ns, rfl⟩

theorem storeOnly_writeStorageCmd : s.StoreOnly s.writeStorageCmd := by
  rw [writeStorageCmd_frame]
  exact ⟨rfl, [], rfl⟩

theorem storeOnly_evaluateMode : s.StoreOnly s.evaluateMode :=
  (storeOnly_schedule s _).trans (storeOnly_writeStorageCmd _)

theorem storeOnly_storageReleased : s.StoreOnly (storageReleased s) := by
  unfold storageReleased
  exact (storeOnly_evaluateMode _).after (storeOnly_schedule_with s _ _)

theorem storeOnly_nullLoad (i : Nat) : s.StoreOnly (nullLoad i s) := by
  unfold nullLoad
  split
  · exact storeOnly_refl s
  · dsimp only
    split
    · exact (storeOnly_storageReleased _).after (storeOnly_setBranch_notes s i _ _)
    · exact storeOnly_setBranch_notes s i _ _

theorem storeOnly_loadBranch (i : Nat) (r : BranchRequest) : s.StoreOnly (loadBranch i r s) := by
  unfold loadBranch
  dsimp only
  split
  · exact (storeOnly_schedule_with _ _ _).after (storeOnly_setBranch_notes s i _ _)
  · exact storeOnly_setBranch_notes s i _ _

theorem storeOnly_reloadBranch (i : Nat) (r : BranchRequest) (b : Branch) : s.StoreOnly (reloadBranch i r b s) := by
  unfold reloadBranch
  dsimp only
  split
  · exact (storeOnly_schedule_with _ _ _).after (storeOnly_setBranch s i _)
  · exact storeOnly_setBranch s i _

theorem storeOnly_serveBranchLoad (p : Port) (b : BranchLoadBody) : s.StoreOnly (serveBranchLoad p b s).1 := by
  unfold serveBranchLoad
  split_ifs
  · exact ⟨rfl, [], rfl⟩
  · exact ⟨rfl, [], rfl⟩
  · exact ⟨rfl, [], rfl⟩
  · exact storeOnly_nullLoad s _
  · split
    · exact ⟨rfl, [], rfl⟩
    · dsimp only
      split
      · exact storeOnly_loadBranch s _ _
      · exact storeOnly_reloadBranch s _ _ _

theorem storeOnly_serveBranchRelease (p : Port) (i : Octet) : s.StoreOnly (serveBranchRelease p i s).1 := by
  unfold serveBranchRelease
  split_ifs
  · exact ⟨rfl, [], rfl⟩
  · exact ⟨rfl, [], rfl⟩
  · exact storeOnly_nullLoad s _

theorem storeOnly_of_servedBranch {p : Port} {r : State × Reply} (h : ServedBranch p s r) : s.StoreOnly r.1 := by
  cases h with
  | load b => exact storeOnly_serveBranchLoad s p b
  | release i => exact storeOnly_serveBranchRelease s p i

theorem storeOnly_placeSchedule (ws : List TariffWindow) : s.StoreOnly (placeSchedule ws s).1 := by
  unfold placeSchedule
  split
  · exact (storeOnly_evaluateMode _).after ⟨rfl, [], rfl⟩
  · exact ⟨rfl, [], rfl⟩

theorem storeOnly_serveWindowSet (p : Port) (n : Octet) (ws : List Octet) :
    s.StoreOnly (serveWindowSet p n ws s).1 := by
  unfold serveWindowSet
  split_ifs
  · exact ⟨rfl, [], rfl⟩
  · exact ⟨rfl, [], rfl⟩
  · exact ⟨rfl, [], rfl⟩
  · exact ⟨rfl, [], rfl⟩
  · split
    · exact ⟨rfl, [], rfl⟩
    · split_ifs
      · exact storeOnly_placeSchedule s _
      · exact ⟨rfl, [], rfl⟩

theorem storeOnly_serveWindowReload (p : Port) : s.StoreOnly (serveWindowReload p s).1 := by
  unfold serveWindowReload
  split_ifs
  · exact ⟨rfl, [], rfl⟩
  · split
    · exact ⟨rfl, [], rfl⟩
    · exact (storeOnly_evaluateMode _).after ⟨rfl, [], rfl⟩

theorem storeOnly_of_servedSchedule {p : Port} {r : State × Reply} (h : ServedSchedule p s r) : s.StoreOnly r.1 := by
  cases h with
  | timeSet m o => exact (storeOnly_evaluateMode _).after ⟨rfl, [], rfl⟩
  | windowSet n ws => exact storeOnly_serveWindowSet s p n ws
  | windowReload => exact storeOnly_serveWindowReload s p

theorem storeOnly_storageClosed (tc : Nat) (was : Bool) : s.StoreOnly (storageClosed tc was s) := by
  unfold storageClosed
  split
  · exact ⟨rfl, [], rfl⟩
  next x _ =>
    split
    · exact ⟨rfl, [], rfl⟩
    · refine (storeOnly_writeStorageCmd _).after ?_
      by_cases same : x.2.available = was
      · rw [if_pos same]
        exact storeOnly_schedule_with s _ _
      · rw [if_neg same]
        exact (storeOnly_schedule _ _).after (storeOnly_schedule_with s _ _)

/-! ## The sequencer (06, 07, 08) -/

theorem seqOnly_sequence (f : SeqEnv → Work → Work) : s.SeqOnly (s.sequence f) := ⟨rfl, _, rfl⟩

theorem seqOnly_setUnit (l : LadderId) (n : Nat) (u : Option PlantUnit) : s.SeqOnly (s.setUnit l n u) :=
  ⟨rfl, [], rfl⟩

theorem seqOnly_onLadder (l : LadderId) (f : Ladder → Ladder) : s.SeqOnly (s.onLadder l f) := ⟨rfl, [], rfl⟩

theorem seqOnly_emptyUnit (l : LadderId) (n : Nat) : s.SeqOnly (emptyUnit l n s) := by
  unfold emptyUnit
  split
  · exact seqOnly_refl s
  · exact ⟨rfl, _, rfl⟩

theorem seqOnly_applyUnit (l : LadderId) (n : Nat) (r : UnitRequest) : s.SeqOnly (applyUnit l n r s) := by
  unfold applyUnit
  split
  · exact ⟨rfl, _, rfl⟩
  · exact seqOnly_setUnit s l n _

theorem seqOnly_serveUnitLoad (p : Port) (b : UnitLoadBody) : s.SeqOnly (serveUnitLoad p b s).1 := by
  unfold serveUnitLoad
  repeat' split
  any_goals exact seqOnly_refl s
  · exact seqOnly_emptyUnit s _ _
  · exact seqOnly_applyUnit s _ _ _

theorem seqOnly_serveTimerReload (p : Port) (l q k : Octet) : s.SeqOnly (serveTimerReload p l q k s).1 := by
  unfold serveTimerReload reloadLadderTimer reloadUnitTimer
  dsimp only
  repeat' split
  any_goals exact seqOnly_refl s
  all_goals dsimp only
  · exact seqOnly_onLadder s _ _
  · exact seqOnly_onLadder s _ _
  · exact seqOnly_setUnit s _ _ _

theorem seqOnly_of_servedUnit {p : Port} {r : State × Reply} (h : ServedUnit p s r) : s.SeqOnly r.1 := by
  cases h with
  | load b => exact seqOnly_serveUnitLoad s p b
  | stageHold o =>
    unfold serveStageHold
    split
    · exact seqOnly_refl s
    · exact ⟨rfl, [], rfl⟩
  | stageFree o =>
    unfold serveStageFree
    split
    · exact seqOnly_refl s
    · exact ⟨rfl, [], rfl⟩
  | hand l q d =>
    unfold serveUnitHand
    repeat' split
    any_goals exact seqOnly_refl s
    all_goals
      dsimp only
      exact seqOnly_sequence s _
  | auto l q =>
    unfold serveUnitAuto
    repeat' split
    any_goals exact seqOnly_refl s
    all_goals
      dsimp only
      exact seqOnly_sequence s _
  | clear l q =>
    unfold serveUnitClear
    repeat' split
    any_goals exact seqOnly_refl s
    all_goals
      dsimp only
      exact seqOnly_sequence s _
  | disable l q =>
    unfold serveUnitDisable
    repeat' split
    any_goals exact seqOnly_refl s
    all_goals
      dsimp only
      exact seqOnly_sequence s _
  | enable l q =>
    unfold serveUnitEnable
    repeat' split
    any_goals exact seqOnly_refl s
    all_goals
      dsimp only
      exact seqOnly_sequence s _
  | periodSet l k n =>
    unfold serveTimerPeriodSet
    repeat' split
    any_goals exact seqOnly_refl s
    dsimp only
    exact seqOnly_onLadder s _ _
  | reload l q k => exact seqOnly_serveTimerReload s p l q k

/-! ## The inputs (10) -/

theorem inputOnly_setLatch (n : Nat) (d : Int) : s.InputOnly (s.setLatch n d) := by
  unfold State.setLatch
  split
  · exact inputOnly_refl s
  · exact (seqOnly_sequence _ _).inputOnly.after ⟨rfl, _, rfl⟩

theorem inputOnly_notes_updateHold (x : Inputs) (ns : List Note) :
    s.InputOnly (({ s with inputs := x } : State).notes ns).updateHold := ⟨rfl, ns, rfl⟩

theorem inputOnly_takeEdge (n : Nat) (c : Channel) (high : Bool) (position : Option Nat) :
    s.InputOnly (takeEdge n c high position s) := by
  unfold takeEdge
  dsimp only
  split
  · exact (inputOnly_setLatch _ _ _).after (inputOnly_notes_updateHold s _ _)
  · exact inputOnly_notes_updateHold s _ _

theorem inputOnly_takeLevel (n : Nat) (high : Bool) (position : Option Nat) :
    s.InputOnly (takeLevel n high position s) := by
  unfold takeLevel
  split
  · exact ⟨rfl, [], rfl⟩
  · split_ifs
    · exact ⟨rfl, [], rfl⟩
    · exact inputOnly_takeEdge s _ _ _ _
    · exact ⟨rfl, [], rfl⟩

theorem inputOnly_sampleSlow : s.InputOnly (sampleSlow s) :=
  (inputOnly_takeLevel s _ _ _).trans (inputOnly_takeLevel _ _ _ _)

theorem inputOnly_inputEdge (n : Nat) (high : Bool) : s.InputOnly (inputEdge n high s) := by
  unfold inputEdge
  dsimp only
  split
  · exact ⟨rfl, [], rfl⟩
  · exact (inputOnly_takeLevel _ _ _ _).after ⟨rfl, [], rfl⟩

theorem inputOnly_serveChannelSet (p : Port) (n e a : Octet) : s.InputOnly (serveChannelSet p n e a s).1 := by
  unfold serveChannelSet
  split
  · exact ⟨rfl, [], rfl⟩
  · split
    · split_ifs
      · exact ⟨rfl, [], rfl⟩
      · dsimp only
        split_ifs
        · exact (inputOnly_setLatch _ _ _).after ⟨rfl, [], rfl⟩
        · exact ⟨rfl, [], rfl⟩
    · exact ⟨rfl, [], rfl⟩

theorem inputOnly_of_servedInput {p : Port} {r : State × Reply} (h : ServedInput p s r) : s.InputOnly r.1 := by
  cases h with
  | channelSet n e a => exact inputOnly_serveChannelSet s p n e a
  | readCapture n =>
    unfold serveReadCapture
    repeat' split
    all_goals exact ⟨rfl, [], rfl⟩
  | releaseStop =>
    unfold serveReleaseStop
    split_ifs
    · exact inputOnly_refl s
    · exact inputOnly_refl s
    · exact ⟨rfl, _, rfl⟩
    · exact inputOnly_refl s

/-! ## The other requests -/

theorem serveSlotMapWrite_frame (p : Port) (first count : Octet) (es : List Octet) :
    (serveSlotMapWrite p first count es s).1 =
      { s with fc := { s.fc with written := (serveSlotMapWrite p first count es s).1.fc.written } } := by
  unfold serveSlotMapWrite
  repeat' split
  all_goals rfl

theorem serveFieldPass_cases (p : Port) (tag a : Octet) (os : List Octet) :
    (serveFieldPass p tag a os s).1 = s ∨
      s.fc.shadow = false ∧ s.fc.queue.length < Config.passCapacity ∧
        (serveFieldPass p tag a os s).1 = s.queuePass ⟨p, tag, a.toNat, os⟩ := by
  unfold serveFieldPass
  split_ifs with hlen haddr hshadow hfull
  · exact .inl rfl
  · exact .inl rfl
  · exact .inl rfl
  · exact .inl rfl
  · exact .inr ⟨by simpa using hshadow, by simpa using hfull, rfl⟩

theorem applyHeader_frame (a : Octet) :
    applyHeader a s = { s with header := (applyHeader a s).header, events := (applyHeader a s).events } := by
  unfold applyHeader
  repeat' split
  all_goals rfl

theorem applySetpoint_frame :
    applySetpoint s = { s with press := (applySetpoint s).press, seq := (applySetpoint s).seq } := by
  unfold applySetpoint
  dsimp only
  split <;> rfl

theorem servePlantLimitsSet_frame (b : LimitsBody) :
    (servePlantLimitsSet b s).1 =
      { s with limits := (servePlantLimitsSet b s).1.limits, header := (servePlantLimitsSet b s).1.header,
               press := (servePlantLimitsSet b s).1.press, seq := (servePlantLimitsSet b s).1.seq,
               events := (servePlantLimitsSet b s).1.events } := by
  unfold servePlantLimitsSet
  dsimp only
  split
  · rfl
  · split
    · rfl
    · rw [applySetpoint_frame, applyHeader_frame]

theorem serveLadderRotate_frame (p : Port) (o : Octet) :
    (serveLadderRotate p o s).1 =
      { s with seq := (serveLadderRotate p o s).1.seq,
               fc := { s.fc with window := (serveLadderRotate p o s).1.fc.window } } := by
  unfold serveLadderRotate
  dsimp only
  repeat' split
  all_goals rfl

theorem serveGoLive_frame (p : Port) :
    (serveGoLive p s).1 =
      { s with seq := (serveGoLive p s).1.seq, events := (serveGoLive p s).1.events,
               fc := { s.fc with shadow := (serveGoLive p s).1.fc.shadow } } := by
  unfold serveGoLive
  repeat' split
  all_goals rfl

/-! ## The field cycle's events (02) -/

theorem fieldOnly_mappedSlot : s.FieldOnly (mappedSlot s) := by
  unfold mappedSlot serveSlot
  dsimp only
  repeat' split
  all_goals rfl

theorem fieldOnly_openSlot : s.FieldOnly (openSlot s) := by
  unfold openSlot
  dsimp only
  repeat' split
  all_goals rfl

/-- The end of a reply window: the window is gone and a miss may be tallied, or the pass in flight is over and its
deferred reply handed (02, R34, R36). -/
theorem windowClose_cases :
    windowClose s = s ∨
      (∃ w m, s.fc.window = some w ∧ (w.target ≠ .pass ∨ s.fc.inFlight = none) ∧
        windowClose s = { s with fc := { s.fc with window := none, misses := m } }) ∨
      ∃ e st os, s.fc.inFlight = some e ∧
        windowClose s = ({ s with fc := { s.fc with window := none, inFlight := none } } : State).deferred e st os := by
  unfold windowClose
  split
  · exact .inl rfl
  next w hw =>
    refine .inr ?_
    dsimp only
    split
    next hpass _ =>
      unfold endPass
      dsimp only
      split
      next hflight => exact .inl ⟨w, s.fc.misses, hw, .inr hflight, rfl⟩
      next e hflight =>
        refine .inr ⟨e, ?_⟩
        split <;> exact ⟨_, _, hflight, rfl⟩
    · refine .inl ⟨w, _, hw, .inl ?_, rfl⟩
      assumption
    · refine .inl ⟨w, _, hw, .inl ?_, rfl⟩
      assumption

/-- What a good reply's owner takes is in its own record alone. -/
theorem handReply_frame {s t : State} {os : List Octet} {w : WindowTarget} (h : handReply s os w = some t) :
    t = { s with branches := t.branches, header := t.header, seq := t.seq } := by
  unfold handReply at h
  split at h
  · split at h
    · cases h; rfl
    · obtain ⟨r, -, rfl⟩ := Option.map_eq_some_iff.mp h; rfl
  · split at h
    · cases h; rfl
    · obtain ⟨r, -, rfl⟩ := Option.map_eq_some_iff.mp h; rfl
  · split at h
    · cases h; rfl
    · obtain ⟨r, -, rfl⟩ := Option.map_eq_some_iff.mp h; rfl
  · cases h; rfl

/-- A frame that arrives on the field line changes the verdict of the window, the tally and the record polled. -/
theorem fieldReply_frame (os : List Octet) :
    fieldReply os s =
      { s with branches := (fieldReply os s).branches, header := (fieldReply os s).header,
               seq := (fieldReply os s).seq,
               fc := { s.fc with window := (fieldReply os s).fc.window, good := (fieldReply os s).fc.good } } := by
  unfold fieldReply
  split
  · rfl
  · split
    · split
      · rfl
      · rfl
      · unfold takeGood
        dsimp only
        split
        next t ht =>
          rw [handReply_frame ht]
          rfl
        next => rfl
    · rfl
    · rfl

/-! ## Cycle start and cycle end -/

theorem startOnly_startCycle : s.StartOnly (startCycle s) := by
  have counted : s.StartOnly (countCycle s) := by
    unfold countCycle
    dsimp only
    split <;> rfl
  have fixed : ∀ u : State, u.StartOnly (fixPeriod u) := by
    intro u
    unfold fixPeriod
    dsimp only
    split_ifs <;> rfl
  have latched : ∀ u : State, u.StartOnly (latchCycle u) := fun _ => rfl
  exact (counted.trans (latched _)).trans (fixed _)

theorem startOnly_beginCycle : s.StartOnly (beginCycle s) :=
  (startOnly_startCycle s).trans (inputOnly_sampleSlow _).startOnly

theorem closingOnly_readingsClosed : s.ClosingOnly (readingsClosed s) := by
  have closed : s.ClosingOnly (closeTable s) := ⟨rfl, _, rfl⟩
  have metered : ∀ tc (u : State), u.ClosingOnly (meterTable tc u) := fun _ _ => ⟨rfl, _, rfl⟩
  have monitored : ∀ u : State, u.ClosingOnly (monitorTable u) := fun _ => ⟨rfl, _, rfl⟩
  have judged : ∀ u : State, u.ClosingOnly (pressureClosed u) := fun _ => ⟨rfl, _, rfl⟩
  have staged : ∀ u : State, u.ClosingOnly (sequencerClosed u) := fun _ => ⟨rfl, _, rfl⟩
  unfold readingsClosed
  exact ((((closed.trans (metered _ _)).trans (monitored _)).trans (judged _)).trans (staged _)).trans
    (storeOnly_storageClosed _ _ _).closingOnly

/-! ## Answers and the warm restart (11, R173, R178) -/

theorem answer_eq (p : Port) (tag kind : Octet) (x : State × Reply) :
    answer p tag kind x = x.1.hand p (replyFrame tag kind x.2.status x.2.content) := rfl

theorem deferred_frame (e : PassEntry) (st : Status) (os : List Octet) :
    s.deferred e st os =
      { s with supervisory := (s.deferred e st os).supervisory, panel := (s.deferred e st os).panel } := by
  unfold State.deferred
  cases e.port <;> rfl

/-- Handing the deferred replies of passes touches the ports alone. -/
theorem foldl_deferred_frame (st : Status) (es : List PassEntry) (s : State) :
    es.foldl (fun u e => u.deferred e st []) s =
      { s with supervisory := (es.foldl (fun u e => u.deferred e st []) s).supervisory,
               panel := (es.foldl (fun u e => u.deferred e st []) s).panel } := by
  induction es generalizing s with
  | nil => rfl
  | cons e es ih =>
    simp only [List.foldl_cons]
    refine Eq.trans (ih _) ?_
    rw [deferred_frame]

theorem abortPasses_frame :
    abortPasses s =
      { s with fc := { s.fc with inFlight := none, queue := [] }, supervisory := (abortPasses s).supervisory,
               panel := (abortPasses s).panel } := by
  unfold abortPasses
  exact foldl_deferred_frame _ _ _

theorem State.StoreOnly.restartOnly {s t : State} (h : s.StoreOnly t) : s.RestartOnly t := by
  refine h.frame.trans ?_
  rw [h.fc, show t.header = s.header from (congrArg State.header h.frame :),
    show t.seq = s.seq from (congrArg State.seq h.frame :),
    show t.inputs = s.inputs from (congrArg State.inputs h.frame :),
    show t.supervisory = s.supervisory from (congrArg State.supervisory h.frame :),
    show t.panel = s.panel from (congrArg State.panel h.frame :)]

theorem State.StartOnly.restartOnly {s t : State} (h : s.StartOnly t) : s.RestartOnly t := by
  refine Eq.trans h ?_
  rw [show t.store = s.store from (congrArg State.store h :),
    show t.supervisory = s.supervisory from (congrArg State.supervisory h :),
    show t.panel = s.panel from (congrArg State.panel h :)]

/-- A warm restart leaves the queue of commands, RST, the load, the snapshot, the limits and the pressure figures. -/
theorem restartOnly_warmRestart (p : Port) : s.RestartOnly (warmRestart p s) := by
  have noted : ∀ ns, s.RestartOnly (s.notes ns) := fun _ => rfl
  have table : ∀ u : State, u.RestartOnly (restartTable u) := fun _ => rfl
  have sequencer : ∀ u : State, u.RestartOnly (restartSequencer u) := fun _ => rfl
  have aborted : ∀ u : State, u.RestartOnly (abortPasses u) := by
    intro u
    refine Eq.trans (abortPasses_frame u) ?_
    rw [abortPasses_frame u]
  unfold warmRestart
  exact ((((noted _).trans (table _)).trans (sequencer _)).trans (storeOnly_evaluateMode _).restartOnly).trans
    ((aborted _).trans (startOnly_beginCycle _).restartOnly)

end

end Sys2Proof.Machine

/-! SUPPORT. The part as a whole (95; 11, R179): the queue of commands, which commands stop, what RST holds back, and
the part right after reset. -/

namespace Sys2Proof.Machine

/-- Settles O1: both halves are `step` read at a queue of one shape. -/
theorem stepRunsFrontCommand : Obligations.StepRunsFrontCommand := by
  refine ⟨fun c rest s => rfl, fun s h => ?_⟩
  unfold step
  rw [h]

/-! ## The queue of commands -/

/-- No request touches the queue of commands or RST. -/
theorem served_pending_rst {p : Port} {s : State} {r : State × Reply} (h : Served p s r) :
    r.1.pending = s.pending ∧ r.1.rst = s.rst := by
  cases h with
  | nothing h => rw [h]; exact ⟨rfl, rfl⟩
  | branch h => rw [(storeOnly_of_servedBranch s h).frame]; exact ⟨rfl, rfl⟩
  | schedule h => rw [(storeOnly_of_servedSchedule s h).frame]; exact ⟨rfl, rfl⟩
  | unit h => rw [(seqOnly_of_servedUnit s h).frame]; exact ⟨rfl, rfl⟩
  | input h => rw [(inputOnly_of_servedInput s h).frame]; exact ⟨rfl, rfl⟩
  | rotate o => rw [serveLadderRotate_frame]; exact ⟨rfl, rfl⟩
  | slotMap first count es => rw [serveSlotMapWrite_frame]; exact ⟨rfl, rfl⟩
  | cycleSet n => exact ⟨rfl, rfl⟩
  | fieldPass tag a os =>
    rcases serveFieldPass_cases s p tag a os with same | ⟨-, -, queued⟩
    · rw [same]; exact ⟨rfl, rfl⟩
    · rw [queued]; exact ⟨setPort_pending _ _ _, setPort_rst _ _ _⟩
  | limits b => rw [servePlantLimitsSet_frame]; exact ⟨rfl, rfl⟩
  | goLive => rw [serveGoLive_frame]; exact ⟨rfl, rfl⟩
  | snapshot => exact ⟨rfl, rfl⟩
  | readEvents => exact ⟨rfl, rfl⟩

theorem State.RestartOnly.pending_rst {s t : State} (h : s.RestartOnly t) : t.pending = s.pending ∧ t.rst = s.rst :=
  ⟨(congrArg State.pending h :), (congrArg State.rst h :)⟩

theorem taken_pending_rst {p : Port} {s t : State} (h : Taken p s t) : t.pending = s.pending ∧ t.rst = s.rst := by
  cases h with
  | answered tag kind h =>
    simp only [answer, hand_pending, hand_rst]
    exact served_pending_rst h
  | restarted tag =>
    obtain ⟨hpending, hrst⟩ := (restartOnly_warmRestart (answer p tag restartKind (s, ⟨.done, []⟩)) p).pending_rst
    exact ⟨hpending.trans (hand_pending _ _ _), hrst.trans (hand_rst _ _ _)⟩

/-- No event touches the queue of commands or RST. -/
theorem event_pending_rst {s t : State} (h : Event s t) : t.pending = s.pending ∧ t.rst = s.rst := by
  cases h with
  | cycleStart _ => rw [startOnly_beginCycle s]; exact ⟨rfl, rfl⟩
  | mappedSlot => rw [fieldOnly_mappedSlot s]; exact ⟨rfl, rfl⟩
  | fieldReply os => rw [fieldReply_frame s os]; exact ⟨rfl, rfl⟩
  | windowClose =>
    rcases windowClose_cases s with same | ⟨w, m, -, -, closed⟩ | ⟨e, st, os, -, ended⟩
    · rw [same]; exact ⟨rfl, rfl⟩
    · rw [closed]; exact ⟨rfl, rfl⟩
    · rw [ended]; exact ⟨deferred_pending _ _ _ _, deferred_rst _ _ _ _⟩
  | openSlot => rw [fieldOnly_openSlot s]; exact ⟨rfl, rfl⟩
  | cycleEnd _ => rw [(closingOnly_readingsClosed _).frame]; exact ⟨rfl, rfl⟩
  | secondMark => exact ⟨rfl, rfl⟩
  | proveExpiry _ _ => exact ⟨rfl, rfl⟩
  | stopExpiry _ _ => exact ⟨rfl, rfl⟩
  | runExpiry _ _ => exact ⟨rfl, rfl⟩
  | restExpiry _ _ => exact ⟨rfl, rfl⟩
  | upExpiry _ => exact ⟨rfl, rfl⟩
  | downExpiry _ => exact ⟨rfl, rfl⟩
  | windowBoundary _ => rw [(storeOnly_evaluateMode _).frame]; exact ⟨rfl, rfl⟩

theorem does_pending {s t : State} (h : Does s t) : t.pending = s.pending := by
  cases h with
  | idles => rfl
  | logs _ => exact setPort_pending _ _ _
  | takes _ _ _ taken => exact (taken_pending_rst taken).1.trans (setPort_pending _ _ _)
  | sends p => exact setPort_pending _ _ _
  | event _ h => exact (event_pending_rst h).1
  | edge n high => rw [(inputOnly_inputEdge s n high).frame]
  | coldReset => rfl
  | release shadow rate _ => rw [releaseReset, startOnly_beginCycle]

/-- Settles O2: by what a command can do, and for a step by the shape of the queue. -/
theorem commandsLeaveTheQueue : Obligations.CommandsLeaveTheQueue := by
  refine ⟨fun c s t h => does_pending (exec_does h), fun s t h => ?_⟩
  unfold step at h
  split at h
  next hq => rw [← Host.Outcome.next.inj h, hq]; rfl
  next c rest hq => rw [hq]; exact does_pending (exec_does h)

/-! ## Commands that stop (log 23) -/

theorem expiryAt_of_position {l : LadderId} {n : Nat} (h : 1 ≤ n ∧ n ≤ ladderSize l) (work : State → State) (s : State) :
    expiryAt l n work s = .next (unlessReset s work) := if_pos h

theorem expiryAt_of_noPosition {l : LadderId} {n : Nat} (h : n = 0 ∨ ladderSize l < n) (work : State → State)
    (s : State) : expiryAt l n work s = .fault .noSuchPosition := if_neg (by omega)

theorem position_of_wf {l : LadderId} {n : Nat} (h : wfPosition l n = true) : 1 ≤ n ∧ n ≤ ladderSize l := by
  simpa [wfPosition] using h

/-- A command completes, or stops with one of the two faults. -/
theorem exec_next_or_fault (c : Instr) (s : State) : (∃ t, exec c s = .next t) ∨ ∃ r, exec c s = .fault r := by
  have expiry : ∀ l n work, (∃ t, expiryAt l n work s = .next t) ∨ ∃ r, expiryAt l n work s = .fault r := by
    intro l n work
    unfold expiryAt
    split_ifs
    · exact .inl ⟨_, rfl⟩
    · exact .inr ⟨_, rfl⟩
  cases c with
  | proveExpiry l n => exact expiry l n _
  | stopExpiry l n => exact expiry l n _
  | runExpiry l n => exact expiry l n _
  | restExpiry l n => exact expiry l n _
  | inputEdge n high =>
    change (∃ t, execInputEdge n high s = _) ∨ ∃ r, execInputEdge n high s = _
    unfold execInputEdge
    split_ifs
    · exact .inl ⟨_, rfl⟩
    · exact .inr ⟨_, rfl⟩
  | _ => exact .inl ⟨_, rfl⟩

theorem exec_next_of_wf {c : Instr} (s : State) (h : c.wf = true) : ∃ t, exec c s = .next t := by
  cases c with
  | proveExpiry l n => exact ⟨_, expiryAt_of_position (position_of_wf h) _ _⟩
  | stopExpiry l n => exact ⟨_, expiryAt_of_position (position_of_wf h) _ _⟩
  | runExpiry l n => exact ⟨_, expiryAt_of_position (position_of_wf h) _ _⟩
  | restExpiry l n => exact ⟨_, expiryAt_of_position (position_of_wf h) _ _⟩
  | inputEdge n high => exact ⟨_, if_pos (by simpa [Instr.wf] using h)⟩
  | _ => exact ⟨_, rfl⟩

/-- Settles O3: the checks of position and input are the only stops. -/
theorem onlyImpossibleCommandsStop : Obligations.OnlyImpossibleCommandsStop := by
  refine ⟨fun c s h => exec_next_of_wf s h, fun c s r h => ?_, fun l n s h => ?_, fun n high s h => ?_⟩
  · obtain ⟨t, ht⟩ | ⟨q, hq⟩ := exec_next_or_fault c s
    · rw [ht] at h; cases h
    · rw [hq] at h; cases h
  · exact ⟨expiryAt_of_noPosition h _ _, expiryAt_of_noPosition h _ _, expiryAt_of_noPosition h _ _,
      expiryAt_of_noPosition h _ _⟩
  · exact if_neg (by omega)

/-! ## RST asserted (11, R179) -/

section
variable {s : State} (hrst : s.rst = true)
include hrst

theorem arrive_of_rst (p : Port) (f : RequestFrame) (work : State → State) : arrive p f work s = s := if_pos hrst

theorem request_of_rst (p : Port) (tag kind : Octet) (body : List Octet) (serve : State → State × Reply) :
    request p tag kind body serve s = .next s := congrArg _ (arrive_of_rst hrst p _ _)

theorem unlessReset_of_rst (work : State → State) : unlessReset s work = s := if_pos hrst

theorem exec_event_of_rst (work : State → State) :
    (.next (unlessReset s work) : Host.Outcome State Fault Refusal) = .next s :=
  congrArg _ (unlessReset_of_rst hrst work)

theorem expiryAt_of_rst {l : LadderId} {n : Nat} (h : wfPosition l n = true) (work : State → State) :
    expiryAt l n work s = .next s := by
  rw [expiryAt_of_position (position_of_wf h), unlessReset_of_rst hrst]

end

/-- Settles O6: a request does not arrive, an event does not happen. -/
theorem assertedResetTakesNothing : Obligations.AssertedResetTakesNothing := by
  intro c s hrst hwf hcold hrelease hsent hedge
  cases c with
  | coldReset => exact absurd rfl hcold
  | rstRelease a b => exact absurd rfl (hrelease a b)
  | transmitFrameSent p => exact absurd rfl (hsent p)
  | inputEdge n high => exact absurd rfl (hedge n high)
  | restart p tag => exact congrArg _ (arrive_of_rst hrst p _ _)
  | proveExpiry l n => exact expiryAt_of_rst hrst hwf _
  | stopExpiry l n => exact expiryAt_of_rst hrst hwf _
  | runExpiry l n => exact expiryAt_of_rst hrst hwf _
  | restExpiry l n => exact expiryAt_of_rst hrst hwf _
  | branchLoad => exact request_of_rst hrst _ _ _ _ _
  | branchRelease => exact request_of_rst hrst _ _ _ _ _
  | readBranch => exact request_of_rst hrst _ _ _ _ _
  | slotMapWrite => exact request_of_rst hrst _ _ _ _ _
  | cycleSet => exact request_of_rst hrst _ _ _ _ _
  | fieldPass => exact request_of_rst hrst _ _ _ _ _
  | goLive => exact request_of_rst hrst _ _ _ _ _
  | meterSnapshot => exact request_of_rst hrst _ _ _ _ _
  | readSnapshot => exact request_of_rst hrst _ _ _ _ _
  | plantLimitsSet => exact request_of_rst hrst _ _ _ _ _
  | readPlant => exact request_of_rst hrst _ _ _ _ _
  | unitLoad => exact request_of_rst hrst _ _ _ _ _
  | ladderRotate => exact request_of_rst hrst _ _ _ _ _
  | stageHold => exact request_of_rst hrst _ _ _ _ _
  | stageFree => exact request_of_rst hrst _ _ _ _ _
  | readUnit => exact request_of_rst hrst _ _ _ _ _
  | readLadder => exact request_of_rst hrst _ _ _ _ _
  | unitHand => exact request_of_rst hrst _ _ _ _ _
  | unitAuto => exact request_of_rst hrst _ _ _ _ _
  | unitClear => exact request_of_rst hrst _ _ _ _ _
  | unitDisable => exact request_of_rst hrst _ _ _ _ _
  | unitEnable => exact request_of_rst hrst _ _ _ _ _
  | timerPeriodSet => exact request_of_rst hrst _ _ _ _ _
  | timerReload => exact request_of_rst hrst _ _ _ _ _
  | timeSet => exact request_of_rst hrst _ _ _ _ _
  | windowSet => exact request_of_rst hrst _ _ _ _ _
  | windowReload => exact request_of_rst hrst _ _ _ _ _
  | readStorage => exact request_of_rst hrst _ _ _ _ _
  | channelSet => exact request_of_rst hrst _ _ _ _ _
  | readCapture => exact request_of_rst hrst _ _ _ _ _
  | releaseStop => exact request_of_rst hrst _ _ _ _ _
  | readEvents => exact request_of_rst hrst _ _ _ _ _
  | _ => exact exec_event_of_rst hrst _

/-! ## The part right after reset -/

theorem periodsInRange_reset : Periods.reset.InRange := by
  intro k
  cases k <;> decide

theorem timersInRange_reset (n : Nat) : (Ladder.reset n).TimersInRange where
  settings := periodsInRange_reset
  ladder := ⟨trivial, trivial⟩
  units u hu := by cases (List.mem_replicate.mp hu).2

/-- An emptied ladder has no unit at any position. -/
theorem unitAt_reset (n p : Nat) : (Ladder.reset n).unitAt p = none := by
  cases p with
  | zero => rfl
  | succ p =>
    by_cases h : p < n
    · simp [Ladder.unitAt, Ladder.reset, h]
    · simp [Ladder.unitAt, Ladder.reset, h]

theorem stackExact_reset (n : Nat) : (Ladder.reset n).StackExact where
  once := List.nodup_nil
  exact p := by rw [unitAt_reset]; simp [Ladder.reset]
  alone := by simp [Ladder.reset, List.countP_replicate]

theorem eventsInOrder_reset : EventsInOrder State.reset where
  few := Nat.zero_le _
  counted := Nat.zero_le _
  ordered := List.Pairwise.nil
  past _ hr := by cases hr

theorem passesOwed_reset : PassesOwed State.reset where
  owed p := by cases p <;> rfl
  few := Nat.zero_le _
  flight h := absurd rfl h
  gap _ := rfl
  map := rfl
  list _ hp := by cases hp
  reset _ := ⟨rfl, rfl⟩

theorem storage_reset : State.reset.storage = none := by decide +kernel

theorem storageLaw_reset : StorageLaw State.reset where
  single := by decide +kernel
  bound d hd := by rw [storage_reset] at hd; cases hd
  full := by rw [storage_reset]; rfl
  empty := by rw [storage_reset]; rfl
  absent _ := ⟨rfl, rfl⟩
  charge h := by cases h
  discharge h := by cases h

theorem flowKept_reset : FlowKept State.reset where
  live _ h := by revert h; decide
  tracked h := by cases h
  reset _ l u hu := by
    cases l with
    | chiller => exact (List.mem_replicate.mp hu).2
    | pump => exact (List.mem_replicate.mp hu).2

theorem limitsLawful_reset : Limits.reset.Lawful := by constructor <;> decide

/-- Settles O60: law by law. -/
theorem resetMeetsTheLaws : Obligations.ResetMeetsTheLaws :=
  ⟨eventsInOrder_reset, limitsLawful_reset, ⟨by decide, by decide⟩,
    ⟨timersInRange_reset _, timersInRange_reset _⟩, passesOwed_reset, Nat.zero_le _, Nat.zero_le _, storageLaw_reset,
    flowKept_reset, stackExact_reset _, stackExact_reset _, by unfold AddressesDistinct; decide +kernel⟩

end Sys2Proof.Machine

/-! SUPPORT. The event list (10, R166): every command appends events stamped with the count in progress, drains the list
from its head, or empties it; so it stays within its size and in order. -/

namespace Sys2Proof.Machine

/-! ## One list in order, up to a count -/

section
variable {s t : State}

/-- The law reads the event list and the cycle count alone. -/
theorem eventsInOrder_of_later (h : EventsInOrder s) (he : t.events = s.events)
    (hc : s.fc.count.toNat ≤ t.fc.count.toNat) : EventsInOrder t where
  few := he ▸ h.few
  counted := he ▸ h.counted
  ordered := he ▸ h.ordered
  past r hr := Nat.le_trans (h.past r (he ▸ hr)) hc

theorem eventsInOrder_congr (h : EventsInOrder s) (he : t.events = s.events) (hc : t.fc.count = s.fc.count) :
    EventsInOrder t := eventsInOrder_of_later h he (by rw [hc])

theorem append_discardedCount_le {e : EventList} (h : e.discardedCount ≤ Config.countMax) (r : EventRecord) :
    (e.append r).discardedCount ≤ Config.countMax := by
  unfold EventList.append
  split
  · exact h
  · exact bump_le _ _

/-- The records of a list after an append: a tail of what stood, then the new record. -/
theorem append_records (e : EventList) (r : EventRecord) : ∃ k, (e.append r).records = e.records.drop k ++ [r] := by
  unfold EventList.append
  split
  · exact ⟨0, rfl⟩
  · exact ⟨1, rfl⟩

theorem drop_map_ordered {rs : List EventRecord} (h : (rs.map fun r => r.count.toNat).Pairwise (· ≤ ·)) (k : Nat) :
    ((rs.drop k).map fun r => r.count.toNat).Pairwise (· ≤ ·) := by
  rw [List.map_drop]
  exact h.sublist (List.drop_sublist _ _)

/-- An event of the count in progress keeps the list in order. -/
theorem eventsInOrder_append {r : EventRecord} (h : EventsInOrder s) (he : t.events = s.events.append r)
    (hr : r.count = s.fc.count) (hc : t.fc.count = s.fc.count) : EventsInOrder t := by
  obtain ⟨k, hk⟩ := append_records s.events r
  have last : r.count.toNat ≤ s.fc.count.toNat := by rw [hr]
  constructor
  case few => rw [he]; exact append_length_le h.few r
  case counted => rw [he]; exact append_discardedCount_le h.counted r
  case ordered =>
    rw [he, hk, List.map_append, List.pairwise_append]
    refine ⟨drop_map_ordered h.ordered k, by simp, fun a ha b hb => ?_⟩
    obtain ⟨q, hq, rfl⟩ := List.mem_map.mp ha
    obtain rfl : b = r.count.toNat := by simpa using hb
    exact Nat.le_trans (h.past q (List.mem_of_mem_drop hq)) (by rw [hr])
  case past =>
    intro q hq
    rw [he, hk, List.mem_append, List.mem_singleton] at hq
    rw [hc]
    rcases hq with hq | rfl
    · exact h.past q (List.mem_of_mem_drop hq)
    · exact last

theorem eventsInOrder_notes (h : EventsInOrder s) (ns : List Note) : EventsInOrder (s.notes ns) := by
  induction ns generalizing s with
  | nil => exact h
  | cons n ns ih =>
    have one : EventsInOrder (s.notes [n]) := eventsInOrder_append h rfl rfl rfl
    exact eventsInOrder_congr (ih one) rfl rfl

/-- What has been told since keeps the list in order. -/
theorem eventsInOrder_told (h : EventsInOrder s) (told : s.Told t) (hc : t.fc.count = s.fc.count) : EventsInOrder t := by
  obtain ⟨ns, hns⟩ := told
  exact eventsInOrder_congr (eventsInOrder_notes h ns) hns hc

theorem eventsInOrder_drained (h : EventsInOrder s) (he : t.events = s.events.drained) (hc : t.fc.count = s.fc.count) :
    EventsInOrder t := by
  constructor
  case few => rw [he]; exact Nat.le_trans (drained_length_le _) h.few
  case counted => rw [he]; exact Nat.zero_le _
  case ordered => rw [he]; exact drop_map_ordered h.ordered _
  case past =>
    intro r hr
    rw [he] at hr
    rw [hc]
    exact h.past r (List.mem_of_mem_drop hr)

/-- A list just emptied is in order. -/
theorem eventsInOrder_cleared (e : EventList) (he : t.events = e.clear) : EventsInOrder t where
  few := by rw [he]; exact Nat.zero_le _
  counted := by rw [he]; exact Nat.min_le_left _ _
  ordered := by rw [he]; exact List.Pairwise.nil
  past r hr := by rw [he] at hr; cases hr

end

/-! ## Cycle start: the only work that moves the count (02, R29) -/

section
variable {s : State}

theorem countCycle_count (s : State) : (countCycle s).fc.count = s.fc.count + 1 := by rw [countCycle_fc]

theorem eventsInOrder_countCycle (h : EventsInOrder s) : EventsInOrder (countCycle s) := by
  unfold countCycle
  dsimp only
  split
  · exact eventsInOrder_notes (eventsInOrder_cleared s.events rfl) _
  next hwrap =>
    refine eventsInOrder_of_later h rfl ?_
    have hlt := s.fc.count.isLt
    have hne : (s.fc.count + 1).toNat ≠ 0 := fun hz => hwrap (BitVec.eq_of_toNat_eq hz)
    have one : (1 : CycleCount).toNat = 1 := rfl
    change s.fc.count.toNat ≤ (s.fc.count + 1).toNat
    rw [BitVec.toNat_add, one] at hne ⊢
    omega

theorem told_fixPeriod (s : State) : s.Told (fixPeriod s) := by
  unfold fixPeriod
  dsimp only
  split_ifs
  · exact ⟨_, rfl⟩
  · exact ⟨_, rfl⟩
  · exact told_refl s

theorem fixPeriod_count (s : State) : (fixPeriod s).fc.count = s.fc.count := by rw [fixPeriod_fc]

theorem eventsInOrder_startCycle (h : EventsInOrder s) : EventsInOrder (startCycle s) := by
  have latched : EventsInOrder (latchCycle (countCycle s)) :=
    eventsInOrder_congr (eventsInOrder_countCycle h) rfl rfl
  exact eventsInOrder_told latched (told_fixPeriod _) (fixPeriod_count _)

theorem InputOnly_keeps_eventsInOrder {t : State} (h : EventsInOrder s) (k : s.InputOnly t) : EventsInOrder t :=
  eventsInOrder_told h k.told (by rw [k.fc])

theorem eventsInOrder_beginCycle (h : EventsInOrder s) : EventsInOrder (beginCycle s) :=
  InputOnly_keeps_eventsInOrder (eventsInOrder_startCycle h) (inputOnly_sampleSlow _)

/-! ## Requests -/

theorem told_servePlantLimitsSet (s : State) (b : LimitsBody) : s.Told (servePlantLimitsSet b s).1 := by
  have header : ∀ (a : Octet) (u : State), u.Told (applyHeader a u) := by
    intro a u
    unfold applyHeader
    split
    · split_ifs
      · exact told_refl u
      · exact ⟨_, rfl⟩
    · split_ifs
      · exact ⟨_, rfl⟩
      · exact told_refl u
      · exact ⟨[], rfl⟩
      · exact ⟨_, rfl⟩
  unfold servePlantLimitsSet
  dsimp only
  split
  · exact told_refl s
  · split
    · exact told_refl s
    · obtain ⟨ns, hns⟩ := header b.headerAddress { s with limits := (carriedLimits b).ranged.related }
      refine ⟨ns, ?_⟩
      rw [applySetpoint_frame]
      exact hns

theorem told_serveGoLive (s : State) (p : Port) : s.Told (serveGoLive p s).1 := by
  unfold serveGoLive
  split_ifs
  · exact told_refl s
  · exact told_refl s
  · exact told_refl s
  · exact ⟨_, rfl⟩

/-- No request moves the count; it tells events, drains the list, or leaves it. -/
theorem served_told {p : Port} {s : State} {r : State × Reply} (h : Served p s r) :
    r.1.fc.count = s.fc.count ∧ (s.Told r.1 ∨ r.1.events = s.events.drained) := by
  cases h with
  | nothing h => rw [h]; exact ⟨rfl, .inl (told_refl s)⟩
  | branch h =>
    have only := storeOnly_of_servedBranch s h
    exact ⟨by rw [only.fc], .inl only.told⟩
  | schedule h =>
    have only := storeOnly_of_servedSchedule s h
    exact ⟨by rw [only.fc], .inl only.told⟩
  | unit h =>
    have only := seqOnly_of_servedUnit s h
    exact ⟨by rw [only.fc], .inl only.told⟩
  | input h =>
    have only := inputOnly_of_servedInput s h
    exact ⟨by rw [only.fc], .inl only.told⟩
  | rotate o => rw [serveLadderRotate_frame]; exact ⟨rfl, .inl ⟨[], rfl⟩⟩
  | slotMap first count es => rw [serveSlotMapWrite_frame]; exact ⟨rfl, .inl ⟨[], rfl⟩⟩
  | cycleSet n => exact ⟨rfl, .inl ⟨[], rfl⟩⟩
  | fieldPass tag a os =>
    rcases serveFieldPass_cases s p tag a os with same | ⟨-, -, queued⟩
    · rw [same]; exact ⟨rfl, .inl (told_refl s)⟩
    · rw [queued]
      exact ⟨by rw [State.queuePass, setPort_fc], .inl (told_of_events (setPort_events _ _ _))⟩
  | limits b => exact ⟨by rw [servePlantLimitsSet_frame], .inl (told_servePlantLimitsSet s b)⟩
  | goLive => exact ⟨by rw [serveGoLive_frame], .inl (told_serveGoLive s p)⟩
  | snapshot => exact ⟨rfl, .inl ⟨[], rfl⟩⟩
  | readEvents => exact ⟨rfl, .inr rfl⟩

theorem eventsInOrder_hand (h : EventsInOrder s) (p : Port) (f : TxFrame) : EventsInOrder (s.hand p f) :=
  eventsInOrder_congr h (hand_events _ _ _) (congrArg FieldCycle.count (hand_fc _ _ _))

theorem eventsInOrder_setPort (h : EventsInOrder s) (p : Port) (x : LinkPort) : EventsInOrder (s.setPort p x) :=
  eventsInOrder_congr h (setPort_events _ _ _) (congrArg FieldCycle.count (setPort_fc _ _ _))

theorem eventsInOrder_warmRestart (h : EventsInOrder s) (p : Port) : EventsInOrder (warmRestart p s) := by
  unfold warmRestart
  dsimp only
  apply eventsInOrder_beginCycle
  have restarted : EventsInOrder (restartSequencer (restartTable (s.notes [⟨.warmRestart, linkSubject, portNumber p⟩]))) :=
    eventsInOrder_congr (eventsInOrder_notes h _) rfl rfl
  have evaluated := storeOnly_evaluateMode
    (restartSequencer (restartTable (s.notes [⟨.warmRestart, linkSubject, portNumber p⟩])))
  refine eventsInOrder_congr (eventsInOrder_told restarted evaluated.told (by rw [evaluated.fc])) ?_ ?_ <;>
    rw [abortPasses_frame]

theorem eventsInOrder_taken {p : Port} {t : State} (h : EventsInOrder s) (taken : Taken p s t) : EventsInOrder t := by
  cases taken with
  | answered tag kind served =>
    obtain ⟨hc, told | drained⟩ := served_told served
    · exact eventsInOrder_hand (eventsInOrder_told h told hc) _ _
    · exact eventsInOrder_hand (eventsInOrder_drained h drained hc) _ _
  | restarted tag => exact eventsInOrder_warmRestart (eventsInOrder_hand h _ _) p

/-! ## Events and commands -/

theorem eventsInOrder_event {t : State} (h : EventsInOrder s) (event : Event s t) : EventsInOrder t := by
  have sequenced : ∀ f, EventsInOrder (s.sequence f) := fun f =>
    eventsInOrder_told h (seqOnly_sequence s f).told rfl
  cases event with
  | cycleStart _ => exact eventsInOrder_beginCycle h
  | mappedSlot =>
    unfold mappedSlot serveSlot
    dsimp only
    repeat' split
    all_goals exact eventsInOrder_congr h rfl rfl
  | fieldReply os => rw [fieldReply_frame]; exact eventsInOrder_congr h rfl rfl
  | windowClose =>
    rcases windowClose_cases s with same | ⟨w, m, -, -, closed⟩ | ⟨e, st, os, -, ended⟩
    · rw [same]; exact h
    · rw [closed]; exact eventsInOrder_congr h rfl rfl
    · rw [ended]
      exact eventsInOrder_congr h (deferred_events _ _ _ _) (by rw [deferred_fc])
  | openSlot =>
    unfold openSlot
    dsimp only
    repeat' split
    all_goals exact eventsInOrder_congr h rfl rfl
  | cycleEnd _ =>
    have ended : EventsInOrder (endCycle s) := eventsInOrder_congr h rfl rfl
    have closed := closingOnly_readingsClosed (endCycle s)
    exact eventsInOrder_told ended closed.told (by rw [closed.fc])
  | secondMark => exact eventsInOrder_congr h rfl rfl
  | proveExpiry _ _ => exact sequenced _
  | stopExpiry _ _ => exact sequenced _
  | runExpiry _ _ => exact sequenced _
  | restExpiry _ _ => exact sequenced _
  | upExpiry _ => exact sequenced _
  | downExpiry _ => exact sequenced _
  | windowBoundary _ =>
    have adopted : EventsInOrder ({ s with store := s.store.adopt } : State) := eventsInOrder_congr h rfl rfl
    have evaluated := storeOnly_evaluateMode ({ s with store := s.store.adopt } : State)
    exact eventsInOrder_told adopted evaluated.told (by rw [evaluated.fc])

theorem eventsInOrder_does {t : State} (h : EventsInOrder s) (does : Does s t) : EventsInOrder t := by
  cases does with
  | idles => exact h
  | logs _ => exact eventsInOrder_setPort h _ _
  | takes _ _ _ taken => exact eventsInOrder_taken (eventsInOrder_setPort h _ _) taken
  | sends p => exact eventsInOrder_setPort h _ _
  | event _ event => exact eventsInOrder_event h event
  | edge n high => exact InputOnly_keeps_eventsInOrder h (inputOnly_inputEdge s n high)
  | coldReset => exact eventsInOrder_congr eventsInOrder_reset rfl rfl
  | release shadow rate _ => exact eventsInOrder_beginCycle (eventsInOrder_congr h rfl rfl)

end

/-- Settles O53: the list changes only by events of the count in progress, by draining and by the wrap's clearing. -/
theorem eventsStayInOrder : Obligations.EventsStayInOrder := fun _ _ hs h =>
  step_keeps (fun _ _ h => eventsInOrder_congr h rfl rfl) (fun _ _ => eventsInOrder_does) hs h

end Sys2Proof.Machine

/-! SUPPORT. What the ports are owed, and what they hold to send (02, R35 to R37; 11, R174, R175): each command leaves the
owed counts at the passes queued or in flight, and hands an immediate reply only to a port that has none waiting. -/

namespace Sys2Proof.Machine

/-! ## Passes: what stands when the controller's pass fields do -/

section
variable {s t : State}

/-- The queue of passes, the pass in flight, the ports and RST stand. -/
structure State.PassesStand (s t : State) : Prop where
  queue  : t.fc.queue = s.fc.queue
  flight : t.fc.inFlight = s.fc.inFlight
  ports  : ∀ p, (t.port p).owed = (s.port p).owed
  rst    : t.rst = s.rst

theorem State.PassesStand.owed (h : s.PassesStand t) (k : PassesOwed s) (p : Port) :
    (t.port p).owed = t.passesOf p := by
  rw [h.ports, k.owed]
  unfold State.passesOf
  rw [h.queue, h.flight]

/-- The law over a change that leaves the passes: the window and the lists are what is left to see. -/
theorem passesOwed_of_stand (k : PassesOwed s) (h : s.PassesStand t)
    (window : s.fc.inFlight ≠ none → ∃ w, t.fc.window = some w ∧ w.target = .pass)
    (gap : t.fc.position = Config.gapPosition → t.fc.window = none)
    (map : t.fc.written.length = Config.slotCount) (list : ∀ p ∈ t.fc.serviceList, p < Config.slotCount) :
    PassesOwed t where
  owed := h.owed k
  few := h.queue ▸ k.few
  flight hf := window (h.flight ▸ hf)
  gap := gap
  map := map
  list := list
  reset hr := by rw [h.queue, h.flight]; exact k.reset (h.rst ▸ hr)

/-- The law reads the controller, the owed counts and RST alone. -/
theorem passesOwed_congr (k : PassesOwed s) (hfc : t.fc = s.fc) (hports : ∀ p, (t.port p).owed = (s.port p).owed)
    (hrst : t.rst = s.rst) : PassesOwed t :=
  passesOwed_of_stand k ⟨by rw [hfc], by rw [hfc], hports, hrst⟩ (hfc ▸ k.flight) (hfc ▸ k.gap) (hfc ▸ k.map)
    (hfc ▸ k.list)

theorem no_flight_of_no_window (k : PassesOwed s) (h : s.fc.window = none) : s.fc.inFlight = none := by
  by_contra hf
  obtain ⟨w, hw, -⟩ := k.flight hf
  rw [h] at hw
  cases hw

theorem between_window {fc : FieldCycle} (h : fc.between = true) : fc.window = none := by
  unfold FieldCycle.between at h
  simpa using (Bool.and_eq_true_iff.mp h).2

/-- The window moves to another unit or takes a verdict; a pass's window stays a pass's. -/
theorem passesOwed_of_retarget (k : PassesOwed s) (h : s.PassesStand t)
    (window : ∀ w, s.fc.window = some w → w.target = .pass → ∃ v, t.fc.window = some v ∧ v.target = .pass)
    (closed : s.fc.window = none → t.fc.window = none) (position : t.fc.position = s.fc.position)
    (map : t.fc.written = s.fc.written) (list : t.fc.serviceList = s.fc.serviceList) : PassesOwed t := by
  refine passesOwed_of_stand k h (fun hf => ?_) (fun hp => closed (k.gap (position ▸ hp))) (map ▸ k.map) (list ▸ k.list)
  obtain ⟨w, hw, target⟩ := k.flight hf
  exact window w hw target

end

/-! ## The lists a write of the map and a cycle start make -/

theorem rawSlots_length (os : List Octet) : (rawSlots os).length = os.length / 3 := by
  induction os using rawSlots.induct with
  | case1 a b c rest ih => simp only [rawSlots, List.length_cons, ih]; omega
  | case2 os short =>
    rw [rawSlots]
    · rcases os with _ | ⟨a, _ | ⟨b, _ | ⟨c, rest⟩⟩⟩
      · rfl
      · simp
      · simp
      · exact (short a b c rest rfl).elim
    · exact short

theorem allSome_length {α : Type} {xs : List (Option α)} {ys : List α} (h : allSome xs = some ys) :
    ys.length = xs.length := by
  induction xs generalizing ys with
  | nil => cases h; rfl
  | cons x xs ih =>
    cases x with
    | none => cases h
    | some a =>
      obtain ⟨zs, hzs, rfl⟩ := Option.map_eq_some_iff.mp h
      simp [ih hzs]

theorem writeSlots_length {map es : List SlotEntry} {first : Nat} (h : first + es.length ≤ map.length) :
    (writeSlots map first es).length = map.length := by
  simp only [writeSlots, List.length_append, List.length_take, List.length_drop]
  omega

theorem serveSlotMapWrite_length {s : State} (h : s.fc.written.length = Config.slotCount) (p : Port)
    (first count : Octet) (es : List Octet) :
    (serveSlotMapWrite p first count es s).1.fc.written.length = Config.slotCount := by
  unfold serveSlotMapWrite
  split_ifs with _ range octets _
  · exact h
  · exact h
  · exact h
  · exact h
  · split
    · exact h
    next entries decoded =>
      split_ifs
      · exact h
      · have len := allSome_length decoded
        rw [List.length_map, rawSlots_length] at len
        change (writeSlots _ _ _).length = _
        rw [writeSlots_length, h]
        rw [h]
        change _ ≤ 64
        omega

theorem serviceList_lt {s : State} {map : List SlotEntry} {p : Nat} (h : p ∈ serviceList s map) : p < map.length := by
  obtain ⟨x, hx, found⟩ := List.mem_filterMap.mp h
  split_ifs at found
  cases found
  exact (List.mem_zipIdx' hx).1

/-! ## Cycle start, and the restarts before one -/

section
variable {s : State}

/-- The records a binding names are the same in the counted cycle. -/
theorem serviceList_countCycle (s : State) (map : List SlotEntry) : serviceList (countCycle s) map = serviceList s map := by
  unfold countCycle
  dsimp only
  split <;> rfl

/-- The controller right after a cycle start (02, R25, R27, R29, R30). -/
theorem startCycle_fc (s : State) :
    (startCycle s).fc =
      { s.fc with
        count := s.fc.count + 1, runningMap := s.fc.written, serviceList := serviceList s s.fc.written, served := 0,
        openBegun := false, lineShadow := s.fc.shadow,
        position := (serviceList s s.fc.written).headD Config.openPosition, window := none, lineOut := [], good := 0,
        misses := 0, pEff := effectivePeriod s.fc.pCfg s.fc.rate (serviceList s s.fc.written).length,
        stretched := decide (s.fc.pCfg < effectivePeriod s.fc.pCfg s.fc.rate (serviceList s s.fc.written).length) } := by
  simp only [startCycle, fixPeriod_fc, latchCycle, serviceList_countCycle, countCycle_fc]

theorem beginCycle_fc (s : State) : (beginCycle s).fc = (startCycle s).fc := (inputOnly_sampleSlow _).fc

theorem beginCycle_port (s : State) (p : Port) : (beginCycle s).port p = s.port p := by
  rw [startOnly_beginCycle s]
  cases p <;> rfl

theorem beginCycle_rst (s : State) : (beginCycle s).rst = s.rst := by rw [startOnly_beginCycle s]

theorem beginCycle_stand (s : State) : s.PassesStand (beginCycle s) where
  queue := by rw [beginCycle_fc, startCycle_fc]
  flight := by rw [beginCycle_fc, startCycle_fc]
  ports p := by rw [beginCycle_port]
  rst := beginCycle_rst s

/-- A cycle start with no pass in flight keeps the law. -/
theorem passesOwed_beginCycle (h : PassesOwed s) (quiet : s.fc.inFlight = none) : PassesOwed (beginCycle s) := by
  refine passesOwed_of_stand h (beginCycle_stand s) (fun hf => absurd quiet hf) ?_ ?_ ?_
  · intro _
    rw [beginCycle_fc, startCycle_fc]
  · rw [beginCycle_fc, startCycle_fc]
    exact h.map
  · intro p hp
    rw [beginCycle_fc, startCycle_fc] at hp
    exact h.map ▸ serviceList_lt hp

/-! ## Deferred replies -/

theorem deferred_port_same (s : State) (e : PassEntry) (st : Status) (os : List Octet) :
    (s.deferred e st os).port e.port =
      { s.port e.port with tx := (s.port e.port).tx ++ [passReply e st os], owed := (s.port e.port).owed - 1 } :=
  port_setPort _ _ _

theorem deferred_port_other (s : State) {e : PassEntry} (st : Status) (os : List Octet) {p : Port} (h : p ≠ e.port) :
    (s.deferred e st os).port p = s.port p := port_setPort_of_ne _ _ h

/-- A deferred reply takes one from what its port is owed. -/
theorem deferred_owed (s : State) (e : PassEntry) (st : Status) (os : List Octet) (p : Port) :
    ((s.deferred e st os).port p).owed = (s.port p).owed - if e.port = p then 1 else 0 := by
  by_cases h : p = e.port
  · rw [h, deferred_port_same, if_pos rfl]
  · rw [deferred_port_other _ _ _ h, if_neg (fun heq => h heq.symm)]
    rfl

/-- The deferred replies of a list of passes take from each port what is its own in the list. -/
theorem foldl_deferred_owed (st : Status) (es : List PassEntry) (s : State) (p : Port) :
    ((es.foldl (fun u e => u.deferred e st []) s).port p).owed =
      (s.port p).owed - es.countP fun e => decide (e.port = p) := by
  induction es generalizing s with
  | nil => rfl
  | cons e es ih =>
    rw [List.foldl_cons, ih, deferred_owed, List.countP_cons]
    by_cases he : e.port = p <;> simp only [he, decide_true, decide_false, Bool.false_eq_true, if_true, if_false] <;> omega

theorem abortPasses_owed (h : PassesOwed s) (p : Port) : ((abortPasses s).port p).owed = 0 := by
  unfold abortPasses
  dsimp only
  rw [foldl_deferred_owed]
  have owed := h.owed p
  unfold State.passesOf at owed
  rw [← owed]
  cases p <;> exact Nat.sub_self _

/-- With every pass answered, nothing is owed and nothing waits. -/
theorem passesOwed_abortPasses (h : PassesOwed s) : PassesOwed (abortPasses s) := by
  have frame := abortPasses_frame s
  constructor
  case owed =>
    intro p
    rw [abortPasses_owed h, frame]
    rfl
  case few => rw [frame]; exact Nat.zero_le _
  case flight => rw [frame]; exact fun hf => absurd rfl hf
  case gap => rw [frame]; exact h.gap
  case map => rw [frame]; exact h.map
  case list => rw [frame]; exact h.list
  case reset => rw [frame]; exact fun _ => ⟨rfl, rfl⟩

theorem passesOwed_warmRestart (h : PassesOwed s) (p : Port) : PassesOwed (warmRestart p s) := by
  unfold warmRestart
  dsimp only
  have evaluated := storeOnly_evaluateMode
    (restartSequencer (restartTable (s.notes [⟨.warmRestart, linkSubject, portNumber p⟩])))
  have before : PassesOwed (restartSequencer (restartTable
      (s.notes [⟨.warmRestart, linkSubject, portNumber p⟩]))).evaluateMode := by
    refine passesOwed_congr h (by rw [evaluated.fc]; rfl) ?_ ?_
    · intro q
      rw [evaluated.frame]
      cases q <;> rfl
    · rw [evaluated.frame]
      rfl
  refine passesOwed_beginCycle (passesOwed_abortPasses before) ?_
  rw [abortPasses_frame]

/-! ## Requests -/

theorem passesOwed_setPort (h : PassesOwed s) {p : Port} {x : LinkPort} (hx : x.owed = (s.port p).owed) :
    PassesOwed (s.setPort p x) := by
  refine passesOwed_congr h (setPort_fc _ _ _) (fun q => ?_) (setPort_rst _ _ _)
  by_cases hq : q = p
  · rw [hq, port_setPort, hx]
  · rw [port_setPort_of_ne _ _ hq]

theorem passesOwed_hand (h : PassesOwed s) (p : Port) (f : TxFrame) : PassesOwed (s.hand p f) :=
  passesOwed_setPort h rfl

/-- A pass queued is one more owed to its port and one more waiting. -/
theorem passesOwed_queuePass (h : PassesOwed s) (hrst : s.rst = false) {e : PassEntry}
    (free : s.fc.queue.length < Config.passCapacity) : PassesOwed (s.queuePass e) := by
  have fc : (s.queuePass e).fc = { s.fc with queue := s.fc.queue ++ [e] } := setPort_fc _ _ _
  constructor
  case owed =>
    intro p
    have owed := h.owed p
    unfold State.passesOf at owed ⊢
    rw [fc]
    dsimp only
    rw [← List.append_assoc, List.countP_append, ← owed, List.countP_singleton]
    unfold State.queuePass
    by_cases hp : e.port = p
    · rw [← hp, port_setPort]
      simp
    · rw [port_setPort_of_ne _ _ (fun heq => hp heq.symm)]
      simp only [decide_eq_true_eq, hp, if_false, Nat.add_zero]
      cases p <;> rfl
  case few => rw [fc, List.length_append]; exact free
  case flight => rw [fc]; exact h.flight
  case gap => rw [fc]; exact h.gap
  case map => rw [fc]; exact h.map
  case list => rw [fc]; exact h.list
  case reset =>
    intro hr
    rw [State.queuePass, setPort_rst, hrst] at hr
    cases hr

theorem rotated_target {l : LadderId} {m : List (Nat × Nat)} {w : Window} (h : w.target = .pass) :
    (w.rotated l m).target = .pass := by
  unfold Window.rotated
  rw [h]
  exact h

theorem passesOwed_rotateLadder (h : PassesOwed s) (l : LadderId) : PassesOwed (rotateLadder l s) := by
  refine passesOwed_of_retarget h ⟨rfl, rfl, fun p => by cases p <;> rfl, rfl⟩ ?_ ?_ rfl rfl rfl
  · intro w hw target
    refine ⟨_, ?_, rotated_target (l := l) (m := rotation (s.seq.ladder l).occupied) target⟩
    unfold rotateLadder
    rw [hw]
    rfl
  · intro hw
    unfold rotateLadder
    rw [hw]
    rfl

theorem passesOwed_serveLadderRotate (h : PassesOwed s) (p : Port) (o : Octet) :
    PassesOwed (serveLadderRotate p o s).1 := by
  unfold serveLadderRotate
  split
  · exact h
  · dsimp only
    split_ifs
    · exact h
    · exact h
    · exact passesOwed_rotateLadder h _

theorem passesOwed_served {p : Port} {r : State × Reply} (h : PassesOwed s) (hrst : s.rst = false)
    (served : Served p s r) : PassesOwed r.1 := by
  cases served with
  | nothing hr => rw [hr]; exact h
  | branch hr => rw [(storeOnly_of_servedBranch s hr).frame]; exact passesOwed_congr h rfl (by rintro (_ | _) <;> rfl) rfl
  | schedule hr =>
    rw [(storeOnly_of_servedSchedule s hr).frame]; exact passesOwed_congr h rfl (by rintro (_ | _) <;> rfl) rfl
  | unit hr => rw [(seqOnly_of_servedUnit s hr).frame]; exact passesOwed_congr h rfl (by rintro (_ | _) <;> rfl) rfl
  | input hr => rw [(inputOnly_of_servedInput s hr).frame]; exact passesOwed_congr h rfl (by rintro (_ | _) <;> rfl) rfl
  | rotate o => exact passesOwed_serveLadderRotate h p o
  | slotMap first count es =>
    have written := serveSlotMapWrite_length h.map p first count es
    rw [serveSlotMapWrite_frame]
    exact passesOwed_of_stand h ⟨rfl, rfl, by rintro (_ | _) <;> rfl, rfl⟩ h.flight h.gap written h.list
  | cycleSet n => exact passesOwed_of_stand h ⟨rfl, rfl, by rintro (_ | _) <;> rfl, rfl⟩ h.flight h.gap h.map h.list
  | fieldPass tag a os =>
    rcases serveFieldPass_cases s p tag a os with same | ⟨-, free, queued⟩
    · rw [same]; exact h
    · rw [queued]; exact passesOwed_queuePass h hrst free
  | limits b => rw [servePlantLimitsSet_frame]; exact passesOwed_congr h rfl (by rintro (_ | _) <;> rfl) rfl
  | goLive =>
    rw [serveGoLive_frame]
    exact passesOwed_of_stand h ⟨rfl, rfl, by rintro (_ | _) <;> rfl, rfl⟩ h.flight h.gap h.map h.list
  | snapshot => exact passesOwed_congr h rfl (by rintro (_ | _) <;> rfl) rfl
  | readEvents => exact passesOwed_congr h rfl (by rintro (_ | _) <;> rfl) rfl

theorem passesOwed_taken {p : Port} {t : State} (h : PassesOwed s) (hrst : s.rst = false) (taken : Taken p s t) :
    PassesOwed t := by
  cases taken with
  | answered tag kind served => exact passesOwed_hand (passesOwed_served h hrst served) _ _
  | restarted tag => exact passesOwed_warmRestart (passesOwed_hand h _ _) p

/-! ## The field cycle's events -/

theorem config_slots_before_gap {p : Nat} (h : p < Config.slotCount) : p ≠ Config.gapPosition :=
  Nat.ne_of_lt (Nat.lt_trans h (by decide))

theorem passesOwed_mappedSlot (h : PassesOwed s) : PassesOwed (mappedSlot s) := by
  unfold mappedSlot
  split
  next between =>
    have quiet := no_flight_of_no_window h (between_window between)
    split
    next position found =>
      have lt := h.list _ (List.mem_of_getElem? found)
      have stand : s.PassesStand (serveSlot position s) := by
        unfold serveSlot
        dsimp only
        split <;> exact ⟨rfl, rfl, by rintro (_ | _) <;> rfl, rfl⟩
      have moved : (serveSlot position s).fc.position = position ∧
          (serveSlot position s).fc.written = s.fc.written ∧
          (serveSlot position s).fc.serviceList = s.fc.serviceList := by
        unfold serveSlot
        dsimp only
        split <;> exact ⟨rfl, rfl, rfl⟩
      obtain ⟨hposition, hwritten, hlist⟩ := moved
      refine passesOwed_of_stand h stand (fun hf => absurd quiet hf) ?_ (hwritten ▸ h.map) (hlist ▸ h.list)
      exact fun hp => absurd (hposition.symm.trans hp) (config_slots_before_gap lt)
    · exact h
  · exact h

/-- The head of the queue goes into flight with its window: the passes are the same. -/
theorem passesOwed_openSlot (h : PassesOwed s) : PassesOwed (openSlot s) := by
  have away : Config.openPosition ≠ Config.gapPosition := by decide
  unfold openSlot
  split
  next due =>
    have between : s.fc.between = true := by
      unfold FieldCycle.openDue at due
      simp only [Bool.and_eq_true] at due
      exact due.1.1
    have quiet := no_flight_of_no_window h (between_window between)
    have begun : ∀ u : State, s.PassesStand u → u.fc.position = Config.openPosition → u.fc.written = s.fc.written →
        u.fc.serviceList = s.fc.serviceList → PassesOwed u := fun u stand hp hw hl =>
      passesOwed_of_stand h stand (fun hf => absurd quiet hf) (fun hg => absurd (hp.symm.trans hg) away) (hw ▸ h.map)
        (hl ▸ h.list)
    dsimp only
    split
    · exact begun _ ⟨rfl, rfl, by rintro (_ | _) <;> rfl, rfl⟩ rfl rfl rfl
    · split
      next empty => exact begun _ ⟨rfl, rfl, by rintro (_ | _) <;> rfl, rfl⟩ rfl rfl rfl
      next e rest queued =>
        have len := h.few
        rw [queued] at len
        constructor
        case owed =>
          intro p
          have owed := h.owed p
          unfold State.passesOf at owed ⊢
          rw [quiet, queued] at owed
          rw [show (∀ q x, ({ s with fc := x } : State).port q = s.port q) from by rintro (_ | _) x <;> rfl]
          exact owed
        case few => exact Nat.le_of_succ_le len
        case flight => exact fun _ => ⟨_, rfl, rfl⟩
        case gap => exact fun hg => absurd hg away
        case map => exact h.map
        case list => exact h.list
        case reset =>
          intro hr
          have := (h.reset hr).2
          rw [queued] at this
          cases this
  · exact h

theorem setVerdict_window (u : State) (w : Window) (v : Verdict) :
    (u.setVerdict w v).fc.window = some { w with verdict := v } := rfl

/-- A frame on the field line leaves the window closed, or open for the same record. -/
theorem fieldReply_window (s : State) (os : List Octet) :
    (fieldReply os s).fc.window = s.fc.window ∨
      ∃ w v, s.fc.window = some w ∧ (fieldReply os s).fc.window = some { w with verdict := v } := by
  unfold fieldReply
  split
  · exact .inl rfl
  next w hw =>
    split
    · split
      · exact .inl rfl
      · exact .inr ⟨w, _, hw, rfl⟩
      · unfold takeGood
        dsimp only
        split
        · exact .inr ⟨w, _, hw, rfl⟩
        · exact .inr ⟨w, _, hw, rfl⟩
    · exact .inl rfl
    · exact .inl rfl

theorem passesOwed_fieldReply (h : PassesOwed s) (os : List Octet) : PassesOwed (fieldReply os s) := by
  have window := fieldReply_window s os
  rw [fieldReply_frame]
  refine passesOwed_of_retarget h ⟨rfl, rfl, by rintro (_ | _) <;> rfl, rfl⟩ ?_ ?_ rfl rfl rfl
  · intro w hw target
    rcases window with same | ⟨w', v, hw', set⟩
    · exact ⟨w, same.trans hw, target⟩
    · rw [hw] at hw'
      cases hw'
      exact ⟨_, set, target⟩
  · intro hw
    rcases window with same | ⟨w', v, hw', set⟩
    · exact same.trans hw
    · rw [hw] at hw'
      cases hw'

theorem passesOwed_windowClose (h : PassesOwed s) : PassesOwed (windowClose s) := by
  rcases windowClose_cases s with same | ⟨w, m, hw, other, closed⟩ | ⟨e, st, os, flight, ended⟩
  · rw [same]; exact h
  · have quiet : s.fc.inFlight = none := by
      rcases other with target | quiet
      · by_contra hf
        obtain ⟨v, hv, pass⟩ := h.flight hf
        rw [hw] at hv
        cases hv
        exact target pass
      · exact quiet
    rw [closed]
    exact passesOwed_of_stand h ⟨rfl, rfl, by rintro (_ | _) <;> rfl, rfl⟩ (fun hf => absurd quiet hf) (fun _ => rfl)
      h.map h.list
  · rw [ended]
    constructor
    case owed =>
      intro p
      have owed := h.owed p
      rw [deferred_owed]
      unfold State.passesOf at owed ⊢
      rw [flight] at owed
      simp only [Option.toList, List.cons_append, List.nil_append, List.countP_cons, decide_eq_true_eq] at owed
      rw [show (∀ q x, ({ s with fc := x } : State).port q = s.port q) from by rintro (_ | _) x <;> rfl, owed,
        deferred_fc]
      exact Nat.add_sub_cancel _ _
    case few => rw [deferred_fc]; exact h.few
    case flight => rw [deferred_fc]; exact fun hf => absurd rfl hf
    case gap => rw [deferred_fc]; exact fun _ => rfl
    case map => rw [deferred_fc]; exact h.map
    case list => rw [deferred_fc]; exact h.list
    case reset =>
      intro hr
      have := (h.reset (by rwa [deferred_rst] at hr)).1
      rw [flight] at this
      cases this

theorem passesOwed_endCycle (h : PassesOwed s) (due : s.fc.endDue = true) : PassesOwed (endCycle s) := by
  have closed := between_window (Bool.and_eq_true_iff.mp due).1
  exact passesOwed_of_stand h ⟨rfl, rfl, by rintro (_ | _) <;> rfl, rfl⟩
    (fun hf => absurd (no_flight_of_no_window h closed) hf) (fun _ => closed) h.map h.list

theorem passesOwed_event {t : State} (h : PassesOwed s) (event : Event s t) : PassesOwed t := by
  have sequenced : ∀ f, PassesOwed (s.sequence f) := fun f => passesOwed_congr h rfl (by rintro (_ | _) <;> rfl) rfl
  cases event with
  | cycleStart gap => exact passesOwed_beginCycle h (no_flight_of_no_window h (h.gap gap))
  | mappedSlot => exact passesOwed_mappedSlot h
  | fieldReply os => exact passesOwed_fieldReply h os
  | windowClose => exact passesOwed_windowClose h
  | openSlot => exact passesOwed_openSlot h
  | cycleEnd due =>
    rw [(closingOnly_readingsClosed (endCycle s)).frame]
    exact passesOwed_congr (passesOwed_endCycle h due) rfl (by rintro (_ | _) <;> rfl) rfl
  | secondMark => exact passesOwed_congr h rfl (by rintro (_ | _) <;> rfl) rfl
  | proveExpiry _ _ => exact sequenced _
  | stopExpiry _ _ => exact sequenced _
  | runExpiry _ _ => exact sequenced _
  | restExpiry _ _ => exact sequenced _
  | upExpiry _ => exact sequenced _
  | downExpiry _ => exact sequenced _
  | windowBoundary _ =>
    rw [(storeOnly_evaluateMode ({ s with store := s.store.adopt } : State)).frame]
    exact passesOwed_congr h rfl (by rintro (_ | _) <;> rfl) rfl

theorem passesOwed_coldReset (s : State) : PassesOwed (coldReset s) where
  owed p := by cases p <;> rfl
  few := Nat.zero_le _
  flight h := absurd rfl h
  gap _ := rfl
  map := rfl
  list _ hp := by cases hp
  reset _ := ⟨rfl, rfl⟩

/-- Under RST nothing waits, so ports that start afresh are owed what there is. -/
theorem passesOwed_release (h : PassesOwed s) (hrst : s.rst = true) (shadow : Bool) (rate : BitVec 2) :
    PassesOwed (releaseReset shadow rate s) := by
  obtain ⟨flight, queue⟩ := h.reset hrst
  refine passesOwed_beginCycle ?_ flight
  constructor
  case owed =>
    intro p
    unfold State.passesOf
    dsimp only
    rw [flight, queue]
    cases p <;> rfl
  case few => exact h.few
  case flight => exact h.flight
  case gap => exact h.gap
  case map => exact h.map
  case list => exact h.list
  case reset => exact fun hr => by cases hr

theorem passesOwed_does {t : State} (h : PassesOwed s) (does : Does s t) : PassesOwed t := by
  cases does with
  | idles => exact h
  | logs kept => exact passesOwed_setPort h kept.2
  | takes kept hrst _ taken => exact passesOwed_taken (passesOwed_setPort h kept.2) (by rw [setPort_rst, hrst]) taken
  | sends p => exact passesOwed_setPort h rfl
  | event _ event => exact passesOwed_event h event
  | edge n high =>
    rw [(inputOnly_inputEdge s n high).frame]
    exact passesOwed_congr h rfl (by rintro (_ | _) <;> rfl) rfl
  | coldReset => exact passesOwed_coldReset s
  | release shadow rate hrst => exact passesOwed_release h hrst shadow rate

/-- Both ports together are owed the passes there are: one in flight and four waiting at most. -/
theorem owed_le_five (h : PassesOwed s) : s.supervisory.owed + s.panel.owed ≤ 5 := by
  have supervisory := h.owed .supervisory
  have panel := h.owed .panel
  have all : s.passesOf .supervisory + s.passesOf .panel = (s.fc.inFlight.toList ++ s.fc.queue).length := by
    unfold State.passesOf
    rw [List.length_eq_countP_add_countP (fun e : PassEntry => decide (e.port = .supervisory))]
    congr 1
    refine List.countP_congr fun e _ => ?_
    cases e.port <;> decide
  have flight : s.fc.inFlight.toList.length ≤ 1 := by cases s.fc.inFlight <;> simp
  have few : s.fc.queue.length ≤ 4 := h.few
  change s.supervisory.owed = _ at supervisory
  change s.panel.owed = _ at panel
  rw [List.length_append] at all
  omega

/-! ## Immediate replies waiting (11, R174) -/

/-- Each transmit queue holds at most one immediate reply. -/
def State.OneReplyEach (s : State) : Prop := ∀ p, (s.port p).OneReply

theorem oneReplyEach_iff (s : State) : s.OneReplyEach ↔ s.supervisory.OneReply ∧ s.panel.OneReply :=
  ⟨fun h => ⟨h .supervisory, h .panel⟩, fun h p => by cases p; exacts [h.1, h.2]⟩

/-- The immediate replies waiting at a port. -/
def State.replies (s : State) (p : Port) : Nat := (s.port p).tx.countP (·.immediate)

theorem oneReplyEach_of_le {t : State} (h : s.OneReplyEach) (le : ∀ p, t.replies p ≤ s.replies p) : t.OneReplyEach :=
  fun p => Nat.le_trans (le p) (h p)

theorem replies_setPort_le (s : State) {p : Port} {x : LinkPort}
    (h : x.tx.countP (·.immediate) ≤ (s.port p).tx.countP (·.immediate)) (q : Port) :
    (s.setPort p x).replies q ≤ s.replies q := by
  unfold State.replies
  by_cases hq : q = p
  · rw [hq, port_setPort]; exact h
  · rw [port_setPort_of_ne _ _ hq]

theorem replies_deferred (s : State) (e : PassEntry) (st : Status) (os : List Octet) (p : Port) :
    (s.deferred e st os).replies p ≤ s.replies p :=
  replies_setPort_le s (by simp [List.countP_append]) p

theorem replies_foldl_deferred (st : Status) (es : List PassEntry) (s : State) (p : Port) :
    (es.foldl (fun u e => u.deferred e st []) s).replies p ≤ s.replies p := by
  induction es generalizing s with
  | nil => exact Nat.le_refl _
  | cons e es ih => exact Nat.le_trans (ih _) (replies_deferred s e st [] p)

theorem replies_congr {t : State} (hs : t.supervisory = s.supervisory) (hp : t.panel = s.panel) (p : Port) :
    t.replies p ≤ s.replies p := by
  unfold State.replies
  cases p
  · exact le_of_eq (congrArg (fun x : LinkPort => x.tx.countP (·.immediate)) hs)
  · exact le_of_eq (congrArg (fun x : LinkPort => x.tx.countP (·.immediate)) hp)

theorem replies_abortPasses (s : State) (p : Port) : (abortPasses s).replies p ≤ s.replies p :=
  Nat.le_trans (replies_foldl_deferred .aborted _ _ p) (replies_congr rfl rfl p)

theorem replies_beginCycle (s : State) (p : Port) : (beginCycle s).replies p ≤ s.replies p := by
  unfold State.replies
  rw [beginCycle_port]

theorem replies_evaluateMode (s : State) (p : Port) : s.evaluateMode.replies p ≤ s.replies p := by
  rw [(storeOnly_evaluateMode s).frame]
  exact replies_congr rfl rfl p

theorem replies_restarted (s : State) (ns : List Note) (p : Port) :
    (restartSequencer (restartTable (s.notes ns))).replies p ≤ s.replies p := replies_congr rfl rfl p

theorem replies_warmRestart (s : State) (p q : Port) : (warmRestart p s).replies q ≤ s.replies q := by
  unfold warmRestart
  exact Nat.le_trans (replies_beginCycle _ q) <| Nat.le_trans (replies_abortPasses _ q) <|
    Nat.le_trans (replies_evaluateMode _ q) (replies_restarted s _ q)

theorem replies_served {p : Port} {r : State × Reply} (served : Served p s r) (q : Port) :
    r.1.replies q ≤ s.replies q := by
  cases served with
  | nothing hr => rw [hr]
  | branch hr => rw [(storeOnly_of_servedBranch s hr).frame]; exact replies_congr rfl rfl q
  | schedule hr => rw [(storeOnly_of_servedSchedule s hr).frame]; exact replies_congr rfl rfl q
  | unit hr => rw [(seqOnly_of_servedUnit s hr).frame]; exact replies_congr rfl rfl q
  | input hr => rw [(inputOnly_of_servedInput s hr).frame]; exact replies_congr rfl rfl q
  | rotate o => rw [serveLadderRotate_frame]; exact replies_congr rfl rfl q
  | slotMap first count es => rw [serveSlotMapWrite_frame]; exact replies_congr rfl rfl q
  | cycleSet n => exact replies_congr rfl rfl q
  | fieldPass tag a os =>
    rcases serveFieldPass_cases s p tag a os with same | ⟨-, -, queued⟩
    · rw [same]
    · rw [queued]
      exact Nat.le_trans (replies_setPort_le _ (by cases p <;> exact Nat.le_refl _) q) (replies_congr rfl rfl q)
  | limits b => rw [servePlantLimitsSet_frame]; exact replies_congr rfl rfl q
  | goLive => rw [serveGoLive_frame]; exact replies_congr rfl rfl q
  | snapshot => exact replies_congr rfl rfl q
  | readEvents => exact replies_congr rfl rfl q

/-- A port with no immediate reply waiting takes one. -/
theorem oneReplyEach_hand {t : State} (h : s.OneReplyEach) (le : ∀ q, t.replies q ≤ s.replies q) {p : Port}
    (free : s.replies p = 0) (f : TxFrame) : (t.hand p f).OneReplyEach := by
  intro q
  by_cases hq : q = p
  · have none : t.replies p = 0 := Nat.le_zero.mp (free ▸ le p)
    unfold State.replies at none
    rw [hq, port_hand]
    unfold LinkPort.OneReply
    rw [List.countP_append, none, Nat.zero_add]
    exact List.countP_le_length
  · rw [State.hand, port_setPort_of_ne _ _ hq]
    exact Nat.le_trans (le q) (h q)

theorem oneReplyEach_taken {p : Port} {t : State} (h : s.OneReplyEach) (free : s.replies p = 0) (taken : Taken p s t) :
    t.OneReplyEach := by
  cases taken with
  | answered tag kind served => exact oneReplyEach_hand h (replies_served served) free _
  | restarted tag =>
    exact oneReplyEach_of_le (oneReplyEach_hand h (fun _ => Nat.le_refl _) free _) (replies_warmRestart _ p)

theorem replies_event {t : State} (event : Event s t) (p : Port) : t.replies p ≤ s.replies p := by
  cases event with
  | cycleStart _ => rw [startOnly_beginCycle s]; exact replies_congr rfl rfl p
  | mappedSlot => rw [fieldOnly_mappedSlot s]; exact replies_congr rfl rfl p
  | fieldReply os => rw [fieldReply_frame s os]; exact replies_congr rfl rfl p
  | windowClose =>
    rcases windowClose_cases s with same | ⟨w, m, -, -, closed⟩ | ⟨e, st, os, -, ended⟩
    · rw [same]
    · rw [closed]; exact replies_congr rfl rfl p
    · rw [ended]; exact Nat.le_trans (replies_deferred _ e st os p) (replies_congr rfl rfl p)
  | openSlot => rw [fieldOnly_openSlot s]; exact replies_congr rfl rfl p
  | cycleEnd _ => rw [(closingOnly_readingsClosed _).frame]; exact replies_congr rfl rfl p
  | secondMark => exact replies_congr rfl rfl p
  | proveExpiry _ _ => exact replies_congr rfl rfl p
  | stopExpiry _ _ => exact replies_congr rfl rfl p
  | runExpiry _ _ => exact replies_congr rfl rfl p
  | restExpiry _ _ => exact replies_congr rfl rfl p
  | upExpiry _ => exact replies_congr rfl rfl p
  | downExpiry _ => exact replies_congr rfl rfl p
  | windowBoundary _ => rw [(storeOnly_evaluateMode _).frame]; exact replies_congr rfl rfl p

theorem oneReplyEach_does {t : State} (h : s.OneReplyEach) (does : Does s t) : t.OneReplyEach := by
  cases does with
  | idles => exact h
  | logs kept => exact oneReplyEach_of_le h (replies_setPort_le s (by rw [kept.1]))
  | @takes p x _ kept _ free taken =>
    refine oneReplyEach_taken (oneReplyEach_of_le h (replies_setPort_le s (by rw [kept.1]))) ?_ taken
    unfold State.replies
    rw [port_setPort, List.countP_eq_zero]
    unfold LinkPort.busy at free
    exact fun f hf hi => by simpa [hi] using List.any_eq_false.mp free f hf
  | sends p =>
    exact oneReplyEach_of_le h (replies_setPort_le s (List.drop_sublist 1 _).countP_le)
  | event _ event => exact oneReplyEach_of_le h (replies_event event)
  | edge n high =>
    rw [(inputOnly_inputEdge s n high).frame]
    exact oneReplyEach_of_le h (replies_congr rfl rfl)
  | coldReset => exact oneReplyEach_of_le h (fun q => by cases q <;> exact Nat.le_refl _)
  | release shadow rate _ =>
    refine oneReplyEach_of_le (s := State.reset) (fun q => by cases q <;> exact Nat.zero_le _) (fun q => ?_)
    rw [releaseReset, startOnly_beginCycle]
    exact replies_congr rfl rfl q

end

/-- Settles O55: pass by pass and reply by reply, over what a command does. -/
theorem linksKept : Obligations.LinksKept := by
  intro s t h
  refine ⟨fun owed => ?_, fun one => ?_⟩
  · have kept : PassesOwed t := step_keeps (fun u q k => passesOwed_congr k rfl (by rintro (_ | _) <;> rfl) rfl)
      (fun _ _ => passesOwed_does) owed h
    exact ⟨kept, owed_le_five kept⟩
  · have kept : t.OneReplyEach := step_keeps (fun u q k => oneReplyEach_of_le k (replies_congr rfl rfl))
      (fun _ _ => oneReplyEach_does) ((oneReplyEach_iff s).mpr one) h
    exact (oneReplyEach_iff t).mp kept

end Sys2Proof.Machine

/-! SUPPORT. Station addresses (01, R6): only the loads, the rotation and the plant limits touch the address of a record,
and each of them checks it against the others first. -/

namespace Sys2Proof.Machine

/-! ## The sequencer's other work keeps the frame of every unit -/

section
variable (e : SeqEnv) (l : LadderId) (p : Nat) (w : Work)

@[simp] theorem enter_id_frame (st : UnitState) (d : Option Demand) : (w.enter e l p st d id).frame = w.frame :=
  enter_frame e l p w st d fun _ => rfl

@[simp] theorem stopAll_frame : (w.stopAll e).frame = w.frame := by
  unfold Work.stopAll
  split
  · rfl
  · dsimp only
    rw [foldl_frame _ (fun v n => stopUnit_frame e .chiller n v), foldl_frame _ (fun v n => stopUnit_frame e .pump n v)]

theorem handTimers_frame (d : Demand) (x : Periods) (u : PlantUnit) : (handTimers d x u).frame = u.frame := by
  unfold handTimers
  cases d with
  | run => rfl
  | stop =>
    dsimp only
    split <;> rfl

/-- The state, the demand and the intent are no part of the frame. -/
theorem frame_of_blank {u v : PlantUnit} (h : v.frame = u.frame) (st : UnitState) (c : Option UnitCmd) :
    ({ v with state := st, next := c } : PlantUnit).frame = u.frame := h

@[simp] theorem takeInHand_frame (x : NamedUnit) (d : Demand) : (w.takeInHand e x d).frame = w.frame := by
  have entered : ∀ ns, (((w.onUnit x.ladder x.position fun u =>
      { handTimers d (w.seq.ladder x.ladder).periods u with
        state := .hand d, next := some ⟨d, e.setpoint x.ladder⟩ }).onLadder x.ladder
          (·.remove x.position)).say ns).frame = w.frame := by
    intro ns
    rw [say_frame, onLadder_frame, onUnit_frame]
    · exact fun u => frame_of_blank (handTimers_frame d _ u) _ _
    · exact fun _ => rfl
  unfold Work.takeInHand
  dsimp only
  split
  · rw [pumpServes_frame, entered]
  · rw [afterLeaving_frame, entered]
  · exact entered _

@[simp] theorem takeOutOfHand_frame (x : NamedUnit) : (w.takeOutOfHand e x).frame = w.frame := by
  unfold Work.takeOutOfHand
  dsimp only
  split_ifs
  · rw [afterLeaving_frame, enter_frame]
    exact fun _ => rfl
  · rw [afterLeaving_frame, stopOne_frame]
  · exact takeIntoService_frame e _ _ w

@[simp] theorem clearTrip_frame (x : NamedUnit) : (w.clearTrip e x).frame = w.frame :=
  enter_frame e _ _ w _ _ fun _ => rfl

@[simp] theorem enable_frame (x : NamedUnit) : (w.enable e x).frame = w.frame := by
  unfold Work.enable
  split <;> simp

@[simp] theorem proveExpired_frame (u : PlantUnit) : (w.proveExpired e l p u).frame = w.frame := by
  unfold Work.proveExpired
  split
  · rfl
  · dsimp only
    split_ifs
    · rw [say_frame, onUnit_frame]
      exact fun _ => rfl
    · simp
    · simp

@[simp] theorem stopExpired_frame (u : PlantUnit) : (w.stopExpired e l p u).frame = w.frame := by
  unfold Work.stopExpired
  dsimp only
  rw [ite_frame _ (trip_frame e l p _ _), onUnit_frame]
  exact fun _ => rfl

@[simp] theorem tryDown_frame : (w.tryDown e l).frame = w.frame := ite_frame w (actDown_frame e l w)

@[simp] theorem runExpired_frame (u : PlantUnit) : (w.runExpired e l p u).frame = w.frame := by
  unfold Work.runExpired
  dsimp only
  rw [ite_frame _ (tryDown_frame e l _), onUnit_frame]
  exact fun _ => rfl

@[simp] theorem restExpired_frame (u : PlantUnit) : (w.restExpired e l p u).frame = w.frame := by
  unfold Work.restExpired
  dsimp only
  rw [ite_frame _ (enter_id_frame e l p _ _ _), onUnit_frame]
  exact fun _ => rfl

theorem goLive_ladder_frame (L : Ladder) : L.goLive.frame = L.frame :=
  map_units_frame (f := PlantUnit.goLive L.periods.run) (fun _ => rfl) L

@[simp] theorem sequencer_goLive_frame :
    ({ w with seq := { w.seq with chillers := w.seq.chillers.goLive, pumps := w.seq.pumps.goLive } } : Work).frame =
      w.frame := by
  funext m
  cases m
  · exact goLive_ladder_frame _
  · exact goLive_ladder_frame _

end

/-! ## Work that keeps every address -/

/-- Every branch record, the header and every ladder carries the addresses it carried. -/
structure State.SameAddresses (s t : State) : Prop where
  branches : t.branches.map (·.map (·.desc.address)) = s.branches.map (·.map (·.desc.address))
  header   : t.header.map (·.address) = s.header.map (·.address)
  units    : ∀ l, (t.seq.ladder l).stations = (s.seq.ladder l).stations

section
variable {s t u : State}

theorem State.SameAddresses.trans (h : s.SameAddresses t) (k : t.SameAddresses u) : s.SameAddresses u :=
  ⟨k.branches.trans h.branches, k.header.trans h.header, fun l => (k.units l).trans (h.units l)⟩

theorem State.SameAddresses.after (k : t.SameAddresses u) (h : s.SameAddresses t) : s.SameAddresses u := h.trans k

/-- The branches' addresses as they are read. -/
theorem branchStations_eq (bs : List (Option Branch)) :
    (bs.filterMap fun b => b.map (·.desc.address)) = (bs.map (·.map (·.desc.address))).filterMap id := by
  rw [List.filterMap_map]
  rfl

theorem ladderStations_eq (L : Ladder) : L.stations = (L.units.map (·.map (·.address))).filterMap id := by
  rw [List.filterMap_map]
  rfl

theorem stations_of_same (h : s.SameAddresses t) : t.stations = s.stations := by
  have header : t.header.toList.map (·.address) = s.header.toList.map (·.address) := by
    rw [← Option.toList_map, ← Option.toList_map, h.header]
  unfold State.stations
  rw [branchStations_eq, branchStations_eq, h.branches, header, show t.seq.chillers.stations = _ from h.units .chiller,
    show t.seq.pumps.stations = _ from h.units .pump]
  rfl

theorem addressesDistinct_of_same (h : AddressesDistinct s) (same : s.SameAddresses t) : AddressesDistinct t := by
  unfold AddressesDistinct
  rw [stations_of_same same]
  exact h

theorem sameAddresses_refl (s : State) : s.SameAddresses s := ⟨rfl, rfl, fun _ => rfl⟩

/-- The law reads the branch records, the header and the sequencer alone. -/
theorem sameAddresses_of_eq (hb : t.branches = s.branches) (hh : t.header = s.header) (hq : t.seq = s.seq) :
    s.SameAddresses t := ⟨by rw [hb], by rw [hh], fun l => by rw [hq]⟩

theorem stations_of_frame {L M : Ladder} (h : L.frame = M.frame) : L.stations = M.stations := by
  have read : ∀ K : Ladder, K.stations = K.frame.filterMap fun u => u.map (·.address) := by
    intro K
    unfold Ladder.stations Ladder.frame
    rw [List.filterMap_map]
    congr 1
    funext u
    cases u <;> rfl
  rw [read, read, h]

/-- Work that keeps the frames keeps the addresses. -/
theorem sameAddresses_sequence (s : State) {f : SeqEnv → Work → Work} (h : ∀ e w, (f e w).frame = w.frame) :
    s.SameAddresses (s.sequence f) :=
  ⟨rfl, rfl, fun l => stations_of_frame (congrFun (h s.seqEnv ⟨s.seq, []⟩) l)⟩

theorem map_address_set {bs : List (Option Branch)} {i : Nat} {b c : Branch} (h : bs[i]?.join = some b)
    (hc : c.desc.address = b.desc.address) :
    (bs.set i (some c)).map (·.map (·.desc.address)) = bs.map (·.map (·.desc.address)) := by
  apply List.ext_getElem?
  intro j
  rw [List.getElem?_map, List.getElem?_map, List.getElem?_set]
  by_cases hij : i = j
  · subst hij
    rcases hb : bs[i]? with _ | _ | x
    · rw [hb] at h; cases h
    · rw [hb] at h; cases h
    · rw [hb] at h
      cases h
      have hlt : i < bs.length := (List.getElem?_eq_some_iff.mp hb).1
      simp [hlt, hc]
  · rw [if_neg hij]

theorem sameAddresses_setBranch {i : Nat} {b c : Branch} (h : s.branch? i = some b)
    (hc : c.desc.address = b.desc.address) : s.SameAddresses (s.setBranch i (some c)) :=
  ⟨map_address_set h hc, rfl, fun _ => rfl⟩

theorem sameAddresses_writeStorageCmd (s : State) : s.SameAddresses s.writeStorageCmd := by
  unfold State.writeStorageCmd
  split
  next x hx =>
    split
    · exact sameAddresses_refl s
    · refine sameAddresses_setBranch (branch?_of_storage hx) ?_
      exact congrArg BranchDesc.address (congrArg Prod.fst (withStorageCmd_frame _ x.2))
  · exact sameAddresses_refl s

theorem sameAddresses_evaluateMode (s : State) : s.SameAddresses s.evaluateMode := by
  unfold State.evaluateMode
  exact (sameAddresses_writeStorageCmd _).after (sameAddresses_of_eq rfl rfl rfl)

theorem sameAddresses_storageReleased (s : State) : s.SameAddresses (storageReleased s) := by
  unfold storageReleased
  exact (sameAddresses_evaluateMode _).after (sameAddresses_of_eq rfl rfl rfl)

theorem sameAddresses_of_servedSchedule {p : Port} {r : State × Reply} (h : ServedSchedule p s r) :
    s.SameAddresses r.1 := by
  have stored : ∀ q : Scheduler, s.SameAddresses ({ s with store := q } : State).evaluateMode := fun q =>
    (sameAddresses_of_eq rfl rfl rfl : s.SameAddresses ({ s with store := q } : State)).trans
      (sameAddresses_evaluateMode _)
  cases h with
  | timeSet m o => exact stored _
  | windowSet n ws =>
    unfold serveWindowSet placeSchedule
    repeat' split
    any_goals exact sameAddresses_refl s
    · exact stored _
    · exact sameAddresses_of_eq rfl rfl rfl
  | windowReload =>
    unfold serveWindowReload
    repeat' split
    any_goals exact sameAddresses_refl s
    exact stored _

/-! ## The ladders -/

theorem map_units_address {f : PlantUnit → PlantUnit} (h : ∀ u, (f u).address = u.address) (L : Ladder) :
    ({ L with units := L.units.map (·.map f) } : Ladder).stations = L.stations := by
  unfold Ladder.stations
  rw [List.filterMap_map]
  congr 1
  funext u
  cases u with
  | none => rfl
  | some u => exact congrArg some (h u)

theorem setUnit_stations {L : Ladder} {n : Nat} {u v : PlantUnit} (h : L.unitAt n = some u)
    (hv : v.address = u.address) : (L.setUnit n (some v)).stations = L.stations := by
  cases n with
  | zero => rfl
  | succ p =>
    rw [ladderStations_eq, ladderStations_eq]
    congr 1
    apply List.ext_getElem?
    intro j
    change ((L.units.set p (some v)).map _)[j]? = _
    rw [List.getElem?_map, List.getElem?_map, List.getElem?_set]
    by_cases hij : p = j
    · subst hij
      change L.units[p]?.join = some u at h
      rcases hb : L.units[p]? with _ | _ | x
      · rw [hb] at h; cases h
      · rw [hb] at h; cases h
      · rw [hb] at h
        cases h
        have hlt : p < L.units.length := (List.getElem?_eq_some_iff.mp hb).1
        simp [hlt, hv]
    · rw [if_neg hij]

theorem sameAddresses_setLadder (s : State) {l : LadderId} {L : Ladder} (h : L.stations = (s.seq.ladder l).stations) :
    s.SameAddresses { s with seq := s.seq.setLadder l L } := by
  refine ⟨rfl, rfl, fun m => ?_⟩
  dsimp only
  by_cases hm : m = l
  · rw [hm, ladder_setLadder, h]
  · rw [ladder_setLadder_of_ne _ _ hm]

theorem sameAddresses_ladders (s : State) {x y : Ladder} (hx : x.stations = s.seq.chillers.stations)
    (hy : y.stations = s.seq.pumps.stations) :
    s.SameAddresses { s with seq := { s.seq with chillers := x, pumps := y } } :=
  ⟨rfl, rfl, fun l => by cases l; exacts [hx, hy]⟩

theorem setTimer_address (u : PlantUnit) (k : TimerKind) (t : Timer) : (u.setTimer k t).address = u.address := by
  cases k <;> rfl

/-- Every request on units but UNIT_LOAD keeps the addresses. -/
theorem sameAddresses_of_servedUnit {p : Port} {r : State × Reply} (h : ServedUnit p s r)
    (notLoad : ∀ b, r ≠ serveUnitLoad p b s) : s.SameAddresses r.1 := by
  cases h with
  | load b => exact absurd rfl (notLoad b)
  | stageHold o =>
    unfold serveStageHold
    split
    · exact sameAddresses_refl s
    · exact sameAddresses_ladders s (by split_ifs <;> rfl) (by split_ifs <;> rfl)
  | stageFree o =>
    unfold serveStageFree
    split
    · exact sameAddresses_refl s
    · exact sameAddresses_ladders s (by split_ifs <;> rfl) (by split_ifs <;> rfl)
  | hand l q d =>
    unfold serveUnitHand
    repeat' split
    any_goals exact sameAddresses_refl s
    all_goals exact sameAddresses_sequence s fun e w => takeInHand_frame e w _ _
  | auto l q =>
    unfold serveUnitAuto
    repeat' split
    any_goals exact sameAddresses_refl s
    all_goals exact sameAddresses_sequence s fun e w => takeOutOfHand_frame e w _
  | clear l q =>
    unfold serveUnitClear
    repeat' split
    any_goals exact sameAddresses_refl s
    all_goals exact sameAddresses_sequence s fun e w => clearTrip_frame e w _
  | disable l q =>
    unfold serveUnitDisable
    repeat' split
    any_goals exact sameAddresses_refl s
    all_goals exact sameAddresses_sequence s fun e w => enter_id_frame e _ _ w _ _
  | enable l q =>
    unfold serveUnitEnable
    repeat' split
    any_goals exact sameAddresses_refl s
    all_goals exact sameAddresses_sequence s fun e w => enable_frame e w _
  | periodSet l k n =>
    unfold serveTimerPeriodSet
    repeat' split
    any_goals exact sameAddresses_refl s
    exact sameAddresses_setLadder s rfl
  | reload l q k =>
    unfold serveTimerReload reloadLadderTimer reloadUnitTimer
    dsimp only
    repeat' split
    any_goals exact sameAddresses_refl s
    · exact sameAddresses_setLadder s rfl
    · exact sameAddresses_setLadder s rfl
    next hu _ _ => exact sameAddresses_setLadder s (setUnit_stations hu (setTimer_address _ _ _))

/-! ## The inputs -/

theorem sameAddresses_setLatch (s : State) (n : Nat) (d : Int) : s.SameAddresses (s.setLatch n d) := by
  unfold State.setLatch
  split
  · exact sameAddresses_refl s
  · exact (sameAddresses_sequence _ fun e w => stopAll_frame e w).after (sameAddresses_of_eq rfl rfl rfl)

/-- The hold flag is no part of a ladder. -/
theorem sameAddresses_updateHold (h : s.SameAddresses t) : s.SameAddresses t.updateHold :=
  ⟨h.branches, h.header, fun l => by cases l; exacts [h.units .chiller, h.units .pump]⟩

theorem sameAddresses_takeEdge (s : State) (n : Nat) (c : Channel) (high : Bool) (position : Option Nat) :
    s.SameAddresses (takeEdge n c high position s) := by
  unfold takeEdge
  dsimp only
  split
  · exact (sameAddresses_setLatch _ _ _).after (sameAddresses_updateHold (sameAddresses_of_eq rfl rfl rfl))
  · exact sameAddresses_updateHold (sameAddresses_of_eq rfl rfl rfl)

theorem sameAddresses_takeLevel (s : State) (n : Nat) (high : Bool) (position : Option Nat) :
    s.SameAddresses (takeLevel n high position s) := by
  unfold takeLevel
  split
  · exact sameAddresses_refl s
  · split_ifs
    · exact sameAddresses_refl s
    · exact sameAddresses_takeEdge s _ _ _ _
    · exact sameAddresses_updateHold (sameAddresses_of_eq rfl rfl rfl)

theorem sameAddresses_sampleSlow (s : State) : s.SameAddresses (sampleSlow s) :=
  (sameAddresses_takeLevel s _ _ _).trans (sameAddresses_takeLevel _ _ _ _)

theorem sameAddresses_inputEdge (s : State) (n : Nat) (high : Bool) : s.SameAddresses (inputEdge n high s) := by
  unfold inputEdge
  dsimp only
  split
  · exact sameAddresses_of_eq rfl rfl rfl
  · exact (sameAddresses_takeLevel _ _ _ _).after (sameAddresses_of_eq rfl rfl rfl)

theorem sameAddresses_of_servedInput {p : Port} {r : State × Reply} (h : ServedInput p s r) : s.SameAddresses r.1 := by
  cases h with
  | channelSet n e a =>
    unfold serveChannelSet
    repeat' split
    any_goals exact sameAddresses_refl s
    dsimp only
    split
    · exact (sameAddresses_setLatch _ _ _).after (sameAddresses_updateHold (sameAddresses_of_eq rfl rfl rfl))
    · exact sameAddresses_updateHold (sameAddresses_of_eq rfl rfl rfl)
  | readCapture n =>
    unfold serveReadCapture
    repeat' split
    all_goals exact sameAddresses_of_eq rfl rfl rfl
  | releaseStop =>
    unfold serveReleaseStop
    split_ifs
    all_goals exact sameAddresses_of_eq rfl rfl rfl

/-! ## Cycle start, warm restart, the field line, cycle end -/

theorem map_branches_address {f : Branch → Branch} (h : ∀ b, (f b).desc.address = b.desc.address)
    (bs : List (Option Branch)) :
    (bs.map (·.map f)).map (·.map (·.desc.address)) = bs.map (·.map (·.desc.address)) := by
  rw [List.map_map]
  refine List.map_congr_left fun b _ => ?_
  cases b with
  | none => rfl
  | some b => exact congrArg some (h b)

theorem sameAddresses_latchCycle (s : State) : s.SameAddresses (latchCycle s) := by
  refine ⟨map_branches_address (f := Branch.cycleStart) (fun _ => rfl) s.branches, ?_, fun l => ?_⟩
  · change (s.header.map _).map _ = _
    cases s.header <;> rfl
  · cases l
    · exact map_units_address (f := PlantUnit.cycleStart) (fun _ => rfl) s.seq.chillers
    · exact map_units_address (f := PlantUnit.cycleStart) (fun _ => rfl) s.seq.pumps

theorem sameAddresses_beginCycle (s : State) : s.SameAddresses (beginCycle s) := by
  have counted : s.SameAddresses (countCycle s) := by
    unfold countCycle
    dsimp only
    split <;> exact sameAddresses_of_eq rfl rfl rfl
  have fixed : ∀ u : State, u.SameAddresses (fixPeriod u) := by
    intro u
    unfold fixPeriod
    dsimp only
    split_ifs <;> exact sameAddresses_of_eq rfl rfl rfl
  exact ((counted.trans (sameAddresses_latchCycle _)).trans (fixed _)).trans (sameAddresses_sampleSlow _)

theorem sameAddresses_restarted (s : State) : s.SameAddresses (restartSequencer (restartTable s)) := by
  have unit : ∀ shadow x (u : PlantUnit), (u.restart shadow x).address = u.address := by
    intro shadow x u
    unfold PlantUnit.restart
    split <;> rfl
  refine ⟨map_branches_address (f := Branch.restart) (fun _ => rfl) s.branches, ?_, fun l => ?_⟩
  · change (s.header.map _).map _ = _
    cases s.header <;> rfl
  · cases l
    · exact map_units_address (unit _ _) s.seq.chillers
    · exact map_units_address (unit _ _) s.seq.pumps

theorem sameAddresses_abortPasses (s : State) : s.SameAddresses (abortPasses s) := by
  rw [abortPasses_frame]
  exact sameAddresses_of_eq rfl rfl rfl

theorem sameAddresses_warmRestart (s : State) (p : Port) : s.SameAddresses (warmRestart p s) := by
  unfold warmRestart
  have noted : ∀ ns, s.SameAddresses (s.notes ns) := fun _ => sameAddresses_of_eq rfl rfl rfl
  exact (((noted _).trans (sameAddresses_restarted _)).trans (sameAddresses_evaluateMode _)).trans
    ((sameAddresses_abortPasses _).trans (sameAddresses_beginCycle _))

theorem sameAddresses_handReply {os : List Octet} {w : WindowTarget} (h : handReply s os w = some t) :
    s.SameAddresses t := by
  unfold handReply at h
  split at h
  · split at h
    · cases h; exact sameAddresses_refl s
    next hb =>
      obtain ⟨r, -, rfl⟩ := Option.map_eq_some_iff.mp h
      exact sameAddresses_setBranch hb rfl
  · split at h
    · cases h; exact sameAddresses_refl s
    next hu =>
      obtain ⟨r, -, rfl⟩ := Option.map_eq_some_iff.mp h
      exact sameAddresses_setLadder s (setUnit_stations hu rfl)
  · split at h
    · cases h; exact sameAddresses_refl s
    next hh =>
      obtain ⟨r, -, rfl⟩ := Option.map_eq_some_iff.mp h
      exact ⟨rfl, by rw [hh]; rfl, fun _ => rfl⟩
  · cases h; exact sameAddresses_refl s

theorem sameAddresses_fieldReply (s : State) (os : List Octet) : s.SameAddresses (fieldReply os s) := by
  unfold fieldReply
  split
  · exact sameAddresses_refl s
  · split
    · split
      · exact sameAddresses_refl s
      · exact sameAddresses_of_eq rfl rfl rfl
      · unfold takeGood
        dsimp only
        split
        next u hu =>
          have handed := sameAddresses_handReply hu
          have verdict : ∀ w v, u.SameAddresses (u.setVerdict w v) := fun _ _ => sameAddresses_of_eq rfl rfl rfl
          exact (handed.trans (verdict _ _)).after (sameAddresses_of_eq rfl rfl rfl)
        · exact sameAddresses_of_eq rfl rfl rfl
    · exact sameAddresses_refl s
    · exact sameAddresses_refl s

/-- A block's work through the table keeps the addresses when its work on one record does. -/
theorem map_worked_address {f : Nat → Branch → Branch × List Note}
    (h : ∀ i b, (f i b).1.desc.address = b.desc.address) (bs : List (Option Branch)) :
    ((bs.zipIdx.map fun x => x.1.map (f x.2)).map fun x => x.map Prod.fst).map (·.map (·.desc.address)) =
      bs.map (·.map (·.desc.address)) := by
  apply List.ext_getElem?
  intro i
  rcases hb : bs[i]? with _ | _ | b <;> simp [hb, h]

theorem sameAddresses_readingsClosed (s : State) : s.SameAddresses (readingsClosed s) := by
  have closed : s.SameAddresses (closeTable s) := by
    refine ⟨map_worked_address (fun _ _ => rfl) s.branches, ?_, fun _ => rfl⟩
    rw [header_closeTable]
    cases s.header <;> rfl
  have metered : ∀ tc (u : State), u.SameAddresses (meterTable tc u) := fun tc u =>
    ⟨map_worked_address (fun i b => congrArg (fun x => x.1.address) (meterBranch_frame tc i b)) u.branches, rfl,
      fun _ => rfl⟩
  have monitored : ∀ u : State, u.SameAddresses (monitorTable u) := fun u =>
    ⟨map_worked_address (fun i b => congrArg (fun x => x.1.address) (monitorBranch_frame i b)) u.branches, rfl,
      fun _ => rfl⟩
  have judged : ∀ u : State, u.SameAddresses (pressureClosed u) := fun u =>
    ⟨rfl, rfl, fun l => stations_of_frame (pressureClosed_frame u l)⟩
  have staged : ∀ u : State, u.SameAddresses (sequencerClosed u) := fun u =>
    ⟨rfl, rfl, fun l => (stations_of_frame (sequencerClosed_frame u l)).trans
      (map_units_address (f := PlantUnit.close u.limits) (fun _ => rfl) (u.seq.ladder l))⟩
  have stored : ∀ tc was (u : State), u.SameAddresses (storageClosed tc was u) := by
    intro tc was u
    unfold storageClosed
    split
    · exact sameAddresses_refl u
    · split
      · exact sameAddresses_refl u
      · dsimp only
        refine State.SameAddresses.trans ?_ (sameAddresses_writeStorageCmd _)
        split <;> exact sameAddresses_of_eq rfl rfl rfl
  unfold readingsClosed
  exact ((((closed.trans (metered _ _)).trans (monitored _)).trans (judged _)).trans (staged _)).trans (stored _ _ _)

theorem sameAddresses_event (event : Event s t) : s.SameAddresses t := by
  cases event with
  | cycleStart _ => exact sameAddresses_beginCycle s
  | mappedSlot => rw [fieldOnly_mappedSlot s]; exact sameAddresses_of_eq rfl rfl rfl
  | fieldReply os => exact sameAddresses_fieldReply s os
  | windowClose =>
    rcases windowClose_cases s with same | ⟨w, m, -, -, closed⟩ | ⟨e, st, os, -, ended⟩
    · rw [same]; exact sameAddresses_refl s
    · rw [closed]; exact sameAddresses_of_eq rfl rfl rfl
    · rw [ended, deferred_frame]; exact sameAddresses_of_eq rfl rfl rfl
  | openSlot => rw [fieldOnly_openSlot s]; exact sameAddresses_of_eq rfl rfl rfl
  | cycleEnd _ =>
    exact (sameAddresses_of_eq rfl rfl rfl : s.SameAddresses (endCycle s)).trans (sameAddresses_readingsClosed _)
  | secondMark =>
    exact ⟨rfl, rfl, fun l => by
      cases l
      · exact map_units_address (f := PlantUnit.tick) (fun _ => rfl) s.seq.chillers
      · exact map_units_address (f := PlantUnit.tick) (fun _ => rfl) s.seq.pumps⟩
  | proveExpiry _ _ => exact sameAddresses_sequence s fun e w => proveExpired_frame e _ _ w _
  | stopExpiry _ _ => exact sameAddresses_sequence s fun e w => stopExpired_frame e _ _ w _
  | runExpiry _ _ => exact sameAddresses_sequence s fun e w => runExpired_frame e _ _ w _
  | restExpiry _ _ => exact sameAddresses_sequence s fun e w => restExpired_frame e _ _ w _
  | upExpiry _ =>
    refine sameAddresses_sequence s fun e w => ?_
    rw [raiseUp_frame, onLadder_frame]
    exact fun _ => rfl
  | downExpiry _ =>
    refine sameAddresses_sequence s fun e w => ?_
    rw [actDown_frame, onLadder_frame]
    exact fun _ => rfl
  | windowBoundary _ =>
    exact (sameAddresses_of_eq rfl rfl rfl : s.SameAddresses ({ s with store := s.store.adopt } : State)).trans
      (sameAddresses_evaluateMode _)

end

/-! ## Loads: one address put in the place of another -/

/-- One optional place of a list holds an address that no other place and neither side has. -/
theorem nodup_set {α : Type} {f : α → Nat} {xs : List (Option α)} {i : Nat} {c : α} {P S : List Nat}
    (h : (P ++ (xs.filterMap fun x => x.map f) ++ S).Nodup) (hP : f c ∉ P) (hS : f c ∉ S)
    (hx : ∀ j b, j ≠ i → xs[j]? = some (some b) → f b ≠ f c) :
    (P ++ ((xs.set i (some c)).filterMap fun x => x.map f) ++ S).Nodup := by
  by_cases hi : i < xs.length
  swap
  · rw [List.set_eq_of_length_le (Nat.le_of_not_lt hi)]
    exact h
  have split : xs = xs.take i ++ xs[i] :: xs.drop (i + 1) := by
    rw [← List.drop_eq_getElem_cons hi, List.take_append_drop]
  have low : f c ∉ (xs.take i).filterMap fun x => x.map f := by
    intro hm
    obtain ⟨x, hxm, hxf⟩ := List.mem_filterMap.mp hm
    obtain ⟨b, rfl, hb⟩ := Option.map_eq_some_iff.mp hxf
    obtain ⟨j, hj, hget⟩ := List.mem_iff_getElem.mp hxm
    rw [List.length_take] at hj
    rw [List.getElem_take] at hget
    exact hx j b (by omega) (by rw [List.getElem?_eq_getElem (by omega), hget]) hb
  have high : f c ∉ (xs.drop (i + 1)).filterMap fun x => x.map f := by
    intro hm
    obtain ⟨x, hxm, hxf⟩ := List.mem_filterMap.mp hm
    obtain ⟨b, rfl, hb⟩ := Option.map_eq_some_iff.mp hxf
    obtain ⟨j, hj, hget⟩ := List.mem_iff_getElem.mp hxm
    rw [List.length_drop] at hj
    rw [List.getElem_drop] at hget
    exact hx (i + 1 + j) b (by omega) (by rw [List.getElem?_eq_getElem (by omega), hget]) hb
  have rest : (P ++ ((xs.take i).filterMap (fun x => x.map f) ++ (xs.drop (i + 1)).filterMap fun x => x.map f) ++
      S).Nodup := by
    refine h.sublist ?_
    refine List.Sublist.append_right (List.Sublist.append_left ?_ _) _
    conv => rhs; rw [split]
    rw [List.filterMap_append]
    exact List.Sublist.append_left ((List.sublist_cons_self _ _).filterMap _) _
  rw [List.set_eq_take_append_cons_drop, if_pos hi, List.filterMap_append,
    List.filterMap_cons_some (f := fun x : Option α => x.map f) (a := some c) rfl]
  have perm : (P ++ ((xs.take i).filterMap (fun x => x.map f) ++ f c :: (xs.drop (i + 1)).filterMap fun x => x.map f) ++
      S).Perm (f c :: (P ++ ((xs.take i).filterMap (fun x => x.map f) ++
        (xs.drop (i + 1)).filterMap fun x => x.map f) ++ S)) := by
    have inner := (List.perm_middle (a := f c) (l₁ := (xs.take i).filterMap fun x => x.map f)
      (l₂ := (xs.drop (i + 1)).filterMap fun x => x.map f))
    refine ((inner.append_left P).append_right S).trans ?_
    rw [List.append_assoc, List.append_assoc, List.cons_append]
    exact List.perm_middle
  refine perm.nodup_iff.mpr (List.nodup_cons.mpr ⟨?_, rest⟩)
  simp only [List.mem_append, not_or]
  exact ⟨⟨hP, low, high⟩, hS⟩

theorem nodup_set_none {α : Type} {f : α → Nat} {xs : List (Option α)} (i : Nat) {P S : List Nat}
    (h : (P ++ (xs.filterMap fun x => x.map f) ++ S).Nodup) :
    (P ++ ((xs.set i none).filterMap fun x => x.map f) ++ S).Nodup := by
  by_cases hi : i < xs.length
  swap
  · rw [List.set_eq_of_length_le (Nat.le_of_not_lt hi)]
    exact h
  refine h.sublist (List.Sublist.append_right (List.Sublist.append_left ?_ _) _)
  have split : xs = xs.take i ++ xs[i] :: xs.drop (i + 1) := by
    rw [← List.drop_eq_getElem_cons hi, List.take_append_drop]
  rw [List.set_eq_take_append_cons_drop, if_pos hi, List.filterMap_append]
  conv => rhs; rw [split, List.filterMap_append]
  refine List.Sublist.append_left ?_ _
  rw [List.filterMap_cons_none rfl]
  exact (List.sublist_cons_self _ _).filterMap _

/-! ## What the address checks see -/

theorem branchHolds_false {s : State} {a : Nat} {i : Option Nat} (h : s.branchHolds a i = false) :
    ∀ j b, some j ≠ i → s.branches[j]? = some (some b) → b.desc.address ≠ a := by
  intro j b hj hb ha
  have := List.any_eq_false.mp h (some b, j) (List.mem_zipIdx_iff_getElem?.mpr hb)
  simp [ha, hj] at this

theorem holds_false {L : Ladder} {a : Nat} {i : Option Nat} (h : L.holds a i = false) :
    ∀ j u, some (j + 1) ≠ i → L.units[j]? = some (some u) → u.address ≠ a := by
  intro j u hj hu ha
  have := List.any_eq_false.mp h (some u, j) (List.mem_zipIdx_iff_getElem?.mpr hu)
  simp [ha, hj] at this

theorem not_mem_stations_of_holds {L : Ladder} {a : Nat} (h : L.holds a none = false) : a ∉ L.stations := by
  intro hm
  obtain ⟨x, hx, hxf⟩ := List.mem_filterMap.mp hm
  obtain ⟨u, rfl, hu⟩ := Option.map_eq_some_iff.mp hxf
  obtain ⟨j, hj⟩ := List.mem_iff_getElem?.mp hx
  exact holds_false h j u (by simp) hj hu

theorem not_mem_branches_of_holds {s : State} {a : Nat} (h : s.branchHolds a none = false) :
    a ∉ s.branches.filterMap fun b => b.map (·.desc.address) := by
  intro hm
  obtain ⟨x, hx, hxf⟩ := List.mem_filterMap.mp hm
  obtain ⟨b, rfl, hb⟩ := Option.map_eq_some_iff.mp hxf
  obtain ⟨j, hj⟩ := List.mem_iff_getElem?.mp hx
  exact branchHolds_false h j b (by simp) hj hb

theorem not_mem_header_of_holds {s : State} {a : Nat} (h : s.headerHolds a = false) :
    a ∉ s.header.toList.map (·.address) := by
  unfold State.headerHolds at h
  cases hh : s.header with
  | none => simp
  | some x =>
    rw [hh] at h
    simp only [Option.any_some, decide_eq_false_iff_not] at h
    simpa using fun ha => h ha.symm

theorem unitHolds_false {s : State} {a : Nat} (h : s.unitHolds a none = false) :
    a ∉ s.seq.chillers.stations ∧ a ∉ s.seq.pumps.stations := by
  unfold State.unitHolds at h
  rw [Bool.or_eq_false_iff] at h
  exact ⟨not_mem_stations_of_holds h.1, not_mem_stations_of_holds h.2⟩

section
variable {s : State}

/-- A branch record at an address no other record has. -/
theorem addressesDistinct_setBranch (h : AddressesDistinct s) {i : Nat} {c : Branch}
    (hb : s.branchHolds c.desc.address (some i) = false) (hu : s.unitHolds c.desc.address none = false)
    (hh : s.headerHolds c.desc.address = false) : AddressesDistinct (s.setBranch i (some c)) := by
  unfold AddressesDistinct State.stations at h ⊢
  rw [List.append_assoc, List.append_assoc] at h ⊢
  have := nodup_set (f := fun b : Branch => b.desc.address) (P := []) (i := i) (c := c) h (by simp) ?_ ?_
  · exact this
  · simp only [List.mem_append, not_or]
    exact ⟨not_mem_header_of_holds hh, unitHolds_false hu⟩
  · intro j b hj hget
    exact branchHolds_false hb j b (by simpa using hj) hget

theorem addressesDistinct_clearBranch (h : AddressesDistinct s) (i : Nat) : AddressesDistinct (s.setBranch i none) := by
  unfold AddressesDistinct State.stations at h ⊢
  rw [List.append_assoc, List.append_assoc] at h ⊢
  exact nodup_set_none (f := fun b : Branch => b.desc.address) (P := []) i h

theorem addressesDistinct_nullLoad (h : AddressesDistinct s) (i : Nat) : AddressesDistinct (nullLoad i s) := by
  unfold nullLoad
  split
  · exact h
  · have cleared : ∀ ns, AddressesDistinct ((s.setBranch i none).notes ns) := fun _ => addressesDistinct_clearBranch h i
    dsimp only
    split
    · exact addressesDistinct_of_same (cleared _) (sameAddresses_storageReleased _)
    · exact cleared _

/-- What checks 4 to 6 of R7 let through names an address no other record has. -/
theorem branchChecks_free {b : BranchLoadBody} {r : BranchRequest} (h : branchChecks b s = .ok r) :
    s.branchHolds r.desc.address (some b.index.toNat) = false ∧ s.unitHolds r.desc.address none = false ∧
      s.headerHolds r.desc.address = false := by
  unfold branchChecks at h
  split at h
  · cases h
  · split_ifs at h with inUse
    cases h
    simp only [Bool.not_eq_true, Bool.or_eq_false_iff] at inUse
    exact ⟨inUse.1.1, inUse.1.2, inUse.2⟩

theorem addressesDistinct_serveBranchLoad (h : AddressesDistinct s) (p : Port) (b : BranchLoadBody) :
    AddressesDistinct (serveBranchLoad p b s).1 := by
  unfold serveBranchLoad
  split_ifs
  · exact h
  · exact h
  · exact h
  · exact addressesDistinct_nullLoad h _
  · split
    · exact h
    next r passed =>
      obtain ⟨hb, hu, hh⟩ := branchChecks_free passed
      dsimp only
      split
      · have put : ∀ ns, AddressesDistinct ((s.setBranch b.index.toNat (some r.clamped.fill)).notes ns) := fun _ =>
          addressesDistinct_setBranch (c := r.clamped.fill) h hb hu hh
        unfold loadBranch
        dsimp only
        split
        · exact addressesDistinct_of_same (put [branchStateNote b.index.toNat (some .awaiting)])
            (sameAddresses_of_eq rfl rfl rfl)
        · exact put _
      next x _ =>
        have put := addressesDistinct_setBranch (c := r.clamped.reload x) (i := b.index.toNat) h hb hu hh
        unfold reloadBranch
        dsimp only
        split
        · exact addressesDistinct_of_same put (sameAddresses_of_eq rfl rfl rfl)
        · exact put

theorem addressesDistinct_of_servedBranch {p : Port} {r : State × Reply} (h : AddressesDistinct s)
    (served : ServedBranch p s r) : AddressesDistinct r.1 := by
  cases served with
  | load b => exact addressesDistinct_serveBranchLoad h p b
  | release i =>
    unfold serveBranchRelease
    split_ifs
    · exact h
    · exact h
    · exact addressesDistinct_nullLoad h _

/-! ## Units -/

/-- A unit at an address no other record has. -/
theorem addressesDistinct_setUnit (h : AddressesDistinct s) {l : LadderId} {n : Nat} {c : PlantUnit}
    (hb : s.branchHolds c.address none = false) (hu : s.unitHolds c.address (some (l, n)) = false)
    (hh : s.headerHolds c.address = false) : AddressesDistinct (s.setUnit l n (some c)) := by
  have branches := not_mem_branches_of_holds hb
  have header := not_mem_header_of_holds hh
  cases n with
  | zero => exact addressesDistinct_of_same h ⟨rfl, rfl, fun m => by cases l <;> cases m <;> rfl⟩
  | succ n =>
    unfold State.unitHolds at hu
    rw [Bool.or_eq_false_iff] at hu
    obtain ⟨chillers, pumps⟩ := hu
    unfold AddressesDistinct at h ⊢
    cases l with
    | chiller =>
      have := nodup_set (f := fun u : PlantUnit => u.address) (i := n) (c := c) (xs := s.seq.chillers.units)
        (P := (s.branches.filterMap fun b => b.map (·.desc.address)) ++ s.header.toList.map (·.address))
        (S := s.seq.pumps.stations) h ?_ (not_mem_stations_of_holds pumps) ?_
      · exact this
      · rw [List.mem_append, not_or]; exact ⟨branches, header⟩
      · intro j u hj hget
        exact holds_false chillers j u (by simpa using hj) hget
    | pump =>
      have := nodup_set (f := fun u : PlantUnit => u.address) (i := n) (c := c) (xs := s.seq.pumps.units)
        (P := (s.branches.filterMap fun b => b.map (·.desc.address)) ++ s.header.toList.map (·.address) ++
          s.seq.chillers.stations) (S := []) (by rw [List.append_nil]; exact h) ?_ (by simp) ?_
      · rw [List.append_nil] at this; exact this
      · rw [List.mem_append, List.mem_append, not_or, not_or]
        exact ⟨⟨branches, header⟩, not_mem_stations_of_holds chillers⟩
      · intro j u hj hget
        exact holds_false pumps j u (by simpa using hj) hget

theorem addressesDistinct_clearUnit (h : AddressesDistinct s) (l : LadderId) (n : Nat) :
    AddressesDistinct (s.setUnit l n none) := by
  cases n with
  | zero => exact addressesDistinct_of_same h ⟨rfl, rfl, fun m => by cases l <;> cases m <;> rfl⟩
  | succ n =>
    unfold AddressesDistinct at h ⊢
    cases l with
    | chiller =>
      exact nodup_set_none (f := fun u : PlantUnit => u.address) (xs := s.seq.chillers.units) n h
    | pump =>
      have := nodup_set_none (f := fun u : PlantUnit => u.address) (xs := s.seq.pumps.units) (S := []) n
        (by rw [List.append_nil]; exact h)
      rw [List.append_nil] at this
      exact this

/-- What checks 4 to 6 of R97 let through names an address no other record has. -/
theorem unitChecks_free {l : LadderId} {n : Nat} {b : UnitLoadBody} {r : UnitRequest} (h : unitChecks l n b s = .ok r) :
    s.branchHolds r.address none = false ∧ s.unitHolds r.address (some (l, n)) = false ∧
      s.headerHolds r.address = false := by
  unfold unitChecks at h
  split at h
  · cases h
  · split_ifs at h with inUse
    cases h
    simp only [Bool.not_eq_true, Bool.or_eq_false_iff] at inUse
    exact ⟨inUse.1.1, inUse.2, inUse.1.2⟩

theorem clamped_address (l : LadderId) (r : UnitRequest) : (r.clamped l).address = r.address := by cases l <;> rfl

theorem addressesDistinct_serveUnitLoad (h : AddressesDistinct s) (p : Port) (b : UnitLoadBody) :
    AddressesDistinct (serveUnitLoad p b s).1 := by
  unfold serveUnitLoad
  split
  · exact h
  · split
    · exact h
    next l n _ =>
      split_ifs
      · exact h
      · dsimp only
        unfold emptyUnit
        split
        · exact h
        · exact addressesDistinct_clearUnit h l n
      · exact h
      · split
        · exact h
        next r passed =>
          have free := unitChecks_free passed
          rw [← clamped_address l r] at free
          obtain ⟨hb, hu, hh⟩ := free
          dsimp only
          unfold applyUnit
          split
          · exact addressesDistinct_setUnit (c := (r.clamped l).fill) h hb hu hh
          next u _ => exact addressesDistinct_setUnit (c := (r.clamped l).reload u) h hb hu hh

end

end Sys2Proof.Machine

/-! SUPPORT. LADDER_ROTATE (06, R107): the rotation takes the unit at each occupied position to one occupied position,
and no two to the same; so the ladder holds the same units as before, and the stack names the same ones. -/

namespace Sys2Proof.Machine

/-! ## Where a rotation takes the occupied positions -/

/-- The positions the rotation of `ps` takes its elements to, in the order of `ps`. -/
def rotatedTo (ps : List Nat) : List Nat :=
  match ps.getLast? with
  | none => []
  | some last => last :: ps.dropLast

theorem rotation_eq (ps : List Nat) : rotation ps = ps.zip (rotatedTo ps) := by
  unfold rotation rotatedTo
  cases ps.getLast? with
  | none => exact List.zip_nil_right.symm
  | some last => rfl

theorem rotatedTo_perm (ps : List Nat) : (rotatedTo ps).Perm ps := by
  unfold rotatedTo
  split
  next h => rw [List.getLast?_eq_none_iff.mp h]
  next last h =>
    have split : ps.dropLast ++ [last] = ps := List.dropLast_append_getLast? last h
    calc (last :: ps.dropLast).Perm (ps.dropLast ++ [last]) := (List.perm_append_singleton _ _).symm
      _ = ps := split

theorem rotatedTo_length (ps : List Nat) : (rotatedTo ps).length = ps.length := (rotatedTo_perm ps).length_eq

/-- In a list of pairs with distinct firsts, the pair of a first is found. -/
theorem find_zip_fst {ps qs : List Nat} (h : ps.Nodup) (len : qs.length = ps.length) {k : Nat} (hk : k < ps.length) :
    (ps.zip qs).find? (fun x => decide (x.1 = ps[k])) = some (ps[k], qs[k]) := by
  induction ps generalizing qs k with
  | nil => cases hk
  | cons p ps ih =>
    obtain ⟨hp, nodup⟩ := List.nodup_cons.mp h
    cases qs with
    | nil => cases len
    | cons q qs =>
      cases k with
      | zero => simp
      | succ k =>
        have hne : p ≠ ps[k]'(Nat.lt_of_succ_lt_succ hk) := fun heq => hp (heq ▸ List.getElem_mem _)
        simp only [List.zip_cons_cons, List.getElem_cons_succ]
        rw [List.find?_cons_of_neg (by simpa using hne)]
        exact ih nodup (Nat.succ.inj len) (Nat.lt_of_succ_lt_succ hk)

/-- In a list of pairs with distinct seconds, the pair of a second is found. -/
theorem find_zip_snd {ps qs : List Nat} (h : qs.Nodup) (len : qs.length = ps.length) {k : Nat} (hk : k < ps.length) :
    (ps.zip qs).find? (fun x => decide (x.2 = qs[k])) = some (ps[k], qs[k]) := by
  induction qs generalizing ps k with
  | nil => rw [← len] at hk; cases hk
  | cons q qs ih =>
    obtain ⟨hq, nodup⟩ := List.nodup_cons.mp h
    cases ps with
    | nil => cases len
    | cons p ps =>
      cases k with
      | zero => simp
      | succ k =>
        have hlt : k < qs.length := by rw [Nat.succ.inj len]; exact Nat.lt_of_succ_lt_succ hk
        have hne : q ≠ qs[k] := fun heq => hq (heq ▸ List.getElem_mem _)
        simp only [List.zip_cons_cons, List.getElem_cons_succ]
        rw [List.find?_cons_of_neg (by simpa using hne)]
        exact ih nodup (Nat.succ.inj len) (Nat.lt_of_succ_lt_succ hk)

section
variable {ps : List Nat} (nodup : ps.Nodup)
include nodup

theorem rotatedTo_nodup : (rotatedTo ps).Nodup := (rotatedTo_perm ps).nodup_iff.mpr nodup

theorem movedTo_getElem {k : Nat} (hk : k < ps.length) :
    movedTo (rotation ps) ps[k] = (rotatedTo ps)[k]'(by rwa [rotatedTo_length]) := by
  unfold movedTo
  rw [rotation_eq, find_zip_fst nodup (rotatedTo_length ps) hk]
  rfl

theorem map_movedTo : ps.map (movedTo (rotation ps)) = rotatedTo ps := by
  apply List.ext_getElem
  · rw [List.length_map, rotatedTo_length]
  · intro k hk _
    rw [List.length_map] at hk
    rw [List.getElem_map, movedTo_getElem nodup hk]

theorem movedTo_mem {p : Nat} (h : p ∈ ps) : movedTo (rotation ps) p ∈ ps := by
  rw [← (rotatedTo_perm ps).mem_iff, ← map_movedTo nodup]
  exact List.mem_map_of_mem h

theorem movedTo_injOn {p q : Nat} (hp : p ∈ ps) (hq : q ∈ ps)
    (h : movedTo (rotation ps) p = movedTo (rotation ps) q) : p = q := by
  have inj := rotatedTo_nodup nodup
  rw [← map_movedTo nodup] at inj
  exact List.inj_on_of_nodup_map inj hp hq h

theorem exists_movedTo {q : Nat} (h : q ∈ ps) : ∃ p ∈ ps, movedTo (rotation ps) p = q := by
  rw [← (rotatedTo_perm ps).mem_iff, ← map_movedTo nodup] at h
  exact List.mem_map.mp h

/-- The pair that goes to where a position goes is the position's own. -/
theorem find_movedTo {p : Nat} (h : p ∈ ps) :
    (rotation ps).find? (fun x => decide (x.2 = movedTo (rotation ps) p)) = some (p, movedTo (rotation ps) p) := by
  obtain ⟨k, hk, rfl⟩ := List.mem_iff_getElem.mp h
  rw [movedTo_getElem nodup hk, rotation_eq]
  exact find_zip_snd (rotatedTo_nodup nodup) (rotatedTo_length ps) hk

end

theorem find_rotation_of_not_mem {ps : List Nat} {q : Nat} (h : q ∉ ps) :
    (rotation ps).find? (fun x => decide (x.2 = q)) = none := by
  rw [List.find?_eq_none]
  intro x hx hq
  rw [rotation_eq] at hx
  have := (List.of_mem_zip hx).2
  rw [(rotatedTo_perm ps).mem_iff] at this
  exact h (of_decide_eq_true hq ▸ this)

theorem movedTo_of_not_mem {ps : List Nat} {p : Nat} (h : p ∉ ps) : movedTo (rotation ps) p = p := by
  unfold movedTo
  rw [List.find?_eq_none.mpr]
  · rfl
  · intro x hx hp
    rw [rotation_eq] at hx
    exact h (of_decide_eq_true hp ▸ (List.of_mem_zip hx).1)

/-! ## The positions of a ladder -/

theorem mem_positions {n p : Nat} : p ∈ positions n ↔ 1 ≤ p ∧ p ≤ n := by
  unfold positions
  rw [List.mem_map]
  constructor
  · rintro ⟨k, hk, rfl⟩
    rw [List.mem_range] at hk
    omega
  · intro h
    exact ⟨p - 1, List.mem_range.mpr (by omega), by omega⟩

theorem positions_nodup (n : Nat) : (positions n).Nodup :=
  List.Nodup.map (fun _ _ h => Nat.succ.inj h) List.nodup_range

theorem positions_getElem? {n k : Nat} (h : k < n) : (positions n)[k]? = some (k + 1) := by
  unfold positions
  rw [List.getElem?_map, List.getElem?_range h]
  rfl

theorem unitAt_isSome_le {L : Ladder} {p : Nat} {u : PlantUnit} (h : L.unitAt p = some u) :
    1 ≤ p ∧ p ≤ L.units.length := by
  cases p with
  | zero => cases h
  | succ k =>
    refine ⟨Nat.succ_pos k, ?_⟩
    by_contra hge
    simp only [Ladder.unitAt, List.getElem?_eq_none (by omega : L.units.length ≤ k)] at h
    cases h

theorem mem_occupied {L : Ladder} {p : Nat} : p ∈ L.occupied ↔ ∃ u, L.unitAt p = some u := by
  unfold Ladder.occupied
  rw [List.mem_filter, mem_positions, Option.isSome_iff_exists]
  exact ⟨fun h => h.2, fun h => ⟨unitAt_isSome_le h.choose_spec, h⟩⟩

theorem occupied_nodup (L : Ladder) : L.occupied.Nodup := (positions_nodup _).filter _

/-! ## The rotated ladder, position by position -/

section
variable (L : Ladder)

theorem rotate_length : L.rotate.units.length = L.units.length := by
  simp [Ladder.rotate, positions]

theorem unitAt_rotate {q : Nat} (h : 1 ≤ q ∧ q ≤ L.units.length) :
    L.rotate.unitAt q = match (rotation L.occupied).find? fun x => decide (x.2 = q) with
      | some x => L.unitAt x.1
      | none => none := by
  obtain ⟨k, rfl⟩ : ∃ k, q = k + 1 := ⟨q - 1, by omega⟩
  simp only [Ladder.unitAt, Ladder.rotate, List.getElem?_map, positions_getElem? (show k < L.units.length by omega),
    Option.map_some]
  rfl

theorem unitAt_rotate_movedTo {p : Nat} (h : p ∈ L.occupied) :
    L.rotate.unitAt (movedTo (rotation L.occupied) p) = L.unitAt p := by
  have moved := movedTo_mem (occupied_nodup L) h
  obtain ⟨u, hu⟩ := mem_occupied.mp moved
  rw [unitAt_rotate L (unitAt_isSome_le hu), find_movedTo (occupied_nodup L) h]

theorem unitAt_rotate_of_not_mem {q : Nat} (h : q ∉ L.occupied) : L.rotate.unitAt q = none := by
  by_cases hq : 1 ≤ q ∧ q ≤ L.units.length
  · rw [unitAt_rotate L hq, find_rotation_of_not_mem h]
  · cases hr : L.rotate.unitAt q with
    | none => rfl
    | some u =>
      have := unitAt_isSome_le hr
      rw [rotate_length] at this
      exact absurd this hq

/-- The units of a ladder, the empty positions left out. -/
def Ladder.loaded (L : Ladder) : List PlantUnit := L.units.filterMap id

theorem loaded_eq_filterMap_unitAt : L.loaded = (positions L.units.length).filterMap L.unitAt := by
  have units : L.units = (positions L.units.length).map L.unitAt := by
    apply List.ext_getElem?
    intro k
    by_cases hk : k < L.units.length
    · rw [List.getElem?_map, positions_getElem? hk, Option.map_some, List.getElem?_eq_getElem hk]
      simp [Ladder.unitAt, hk]
    · rw [List.getElem?_eq_none (by omega), List.getElem?_eq_none (by simp [positions]; omega)]
  unfold Ladder.loaded
  conv => lhs; rw [units]
  rw [List.filterMap_map]
  rfl

theorem filterMap_occupied (L : Ladder) : L.loaded = L.occupied.filterMap L.unitAt := by
  rw [loaded_eq_filterMap_unitAt, Ladder.occupied, List.filterMap_filter]
  congr 1
  funext p
  cases L.unitAt p <;> rfl

/-- The rotated ladder holds the same units. -/
theorem loaded_rotate_perm : L.rotate.loaded.Perm L.loaded := by
  have kept : L.rotate.occupied.Perm L.occupied := by
    refine (List.perm_ext_iff_of_nodup (occupied_nodup _) (occupied_nodup L)).mpr fun q => ?_
    constructor
    · intro hq
      by_contra hnot
      obtain ⟨u, hu⟩ := mem_occupied.mp hq
      rw [unitAt_rotate_of_not_mem L hnot] at hu
      cases hu
    · intro hq
      obtain ⟨p, hp, rfl⟩ := exists_movedTo (occupied_nodup L) hq
      obtain ⟨u, hu⟩ := mem_occupied.mp hp
      exact mem_occupied.mpr ⟨u, (unitAt_rotate_movedTo L hp).trans hu⟩
  have moved : (L.occupied.map (movedTo (rotation L.occupied))).filterMap L.rotate.unitAt = L.loaded := by
    rw [filterMap_occupied, List.filterMap_map]
    exact List.filterMap_congr fun p hp => unitAt_rotate_movedTo L hp
  calc L.rotate.loaded = L.rotate.occupied.filterMap L.rotate.unitAt := filterMap_occupied _
    List.Perm _ (L.occupied.filterMap L.rotate.unitAt) := kept.filterMap _
    List.Perm _ ((L.occupied.map (movedTo (rotation L.occupied))).filterMap L.rotate.unitAt) := by
        rw [map_movedTo (occupied_nodup L)]
        exact (rotatedTo_perm L.occupied).symm.filterMap _
    _ = L.loaded := moved

theorem stations_eq_loaded : L.stations = L.loaded.map (·.address) := by
  unfold Ladder.stations Ladder.loaded
  rw [List.map_filterMap]
  congr 1

theorem stations_rotate_perm : L.rotate.stations.Perm L.stations := by
  rw [stations_eq_loaded, stations_eq_loaded]
  exact (loaded_rotate_perm L).map _

end

/-! ## The law of distinct addresses -/

section
variable {s t : State}

theorem addressesDistinct_rotateLadder (h : AddressesDistinct s) (l : LadderId) :
    AddressesDistinct (rotateLadder l s) := by
  unfold AddressesDistinct at h ⊢
  refine (List.Perm.nodup_iff ?_).mpr h
  unfold State.stations
  cases l with
  | chiller => exact ((stations_rotate_perm s.seq.chillers).append_left _).append_right _
  | pump => exact (stations_rotate_perm s.seq.pumps).append_left _

theorem addressesDistinct_serveLadderRotate (h : AddressesDistinct s) (p : Port) (o : Octet) :
    AddressesDistinct (serveLadderRotate p o s).1 := by
  unfold serveLadderRotate
  split
  · exact h
  · dsimp only
    split_ifs
    · exact h
    · exact h
    · exact addressesDistinct_rotateLadder h _

/-- The header at an address no other record has, or at none. -/
theorem addressesDistinct_setHeader (h : AddressesDistinct s) {x : Option Header}
    (free : ∀ y, x = some y → s.branchHolds y.address none = false ∧ s.unitHolds y.address none = false) :
    AddressesDistinct { s with header := x } := by
  unfold AddressesDistinct State.stations at h ⊢
  have without : ((s.branches.filterMap fun b => b.map (·.desc.address)) ++ s.seq.chillers.stations ++
      s.seq.pumps.stations).Nodup := by
    refine h.sublist ?_
    refine List.Sublist.append_right (List.Sublist.append_right ?_ _) _
    exact List.sublist_append_left _ _
  cases x with
  | none => simpa using without
  | some y =>
    obtain ⟨hb, hu⟩ := free y rfl
    obtain ⟨chillers, pumps⟩ := unitHolds_false hu
    have branches := not_mem_branches_of_holds hb
    have perm : ((s.branches.filterMap fun b => b.map (·.desc.address)) ++ [y.address] ++ s.seq.chillers.stations ++
        s.seq.pumps.stations).Perm (y.address :: ((s.branches.filterMap fun b => b.map (·.desc.address)) ++
          s.seq.chillers.stations ++ s.seq.pumps.stations)) := by
      rw [List.append_assoc, List.append_assoc, List.append_assoc, List.cons_append, List.nil_append]
      exact List.perm_middle
    refine perm.nodup_iff.mpr (List.nodup_cons.mpr ⟨?_, without⟩)
    simp only [List.mem_append, not_or]
    exact ⟨⟨branches, chillers⟩, pumps⟩

theorem sameAddresses_applySetpoint (s : State) : s.SameAddresses (applySetpoint s) := by
  unfold applySetpoint
  dsimp only
  split
  · exact sameAddresses_refl s
  · exact ⟨rfl, rfl, fun l => by
      cases l
      · rfl
      · exact stations_of_frame (writeSetpoint_frame _ s.seq.pumps)⟩

theorem addressesDistinct_applyHeader (h : AddressesDistinct s) {a : Octet} (free : headerAddressBars a s = none) :
    AddressesDistinct (applyHeader a s) := by
  have put : a ≠ 0 → ∀ recent, AddressesDistinct { s with header := some (freshHeader a.toNat recent) } := by
    intro ha recent
    refine addressesDistinct_setHeader h fun y hy => ?_
    cases hy
    unfold headerAddressBars at free
    split_ifs at free with hzero _ inUse
    · exact absurd hzero ha
    · simpa [freshHeader] using inUse
  unfold applyHeader
  split
  · split_ifs with ha
    · exact h
    · exact addressesDistinct_of_same (put ha true) (sameAddresses_of_eq rfl rfl rfl)
  next x _ =>
    split_ifs with ha
    · have cleared : AddressesDistinct { s with header := none } := addressesDistinct_setHeader h fun y hy => by cases hy
      exact addressesDistinct_of_same cleared (sameAddresses_of_eq rfl rfl rfl)
    · exact h
    · exact addressesDistinct_of_same (put ha x.recent) (sameAddresses_of_eq rfl rfl rfl)
    · exact addressesDistinct_of_same (put ha x.recent) (sameAddresses_of_eq rfl rfl rfl)

theorem addressesDistinct_servePlantLimitsSet (h : AddressesDistinct s) (b : LimitsBody) :
    AddressesDistinct (servePlantLimitsSet b s).1 := by
  unfold servePlantLimitsSet
  dsimp only
  split
  · exact h
  · split
    · exact h
    next free =>
      have limits : AddressesDistinct { s with limits := (carriedLimits b).ranged.related } := h
      exact addressesDistinct_of_same (addressesDistinct_applyHeader limits free) (sameAddresses_applySetpoint _)

theorem sameAddresses_goLive (s : State) : s.SameAddresses (goLive s) := by
  unfold goLive
  refine (sameAddresses_sequence _ fun e w => ?_).after (sameAddresses_of_eq rfl rfl rfl)
  dsimp only
  split
  · rw [stopAll_frame, sequencer_goLive_frame]
  · rw [sequencer_goLive_frame]

theorem addressesDistinct_served {p : Port} {r : State × Reply} (h : AddressesDistinct s) (served : Served p s r) :
    AddressesDistinct r.1 := by
  cases served with
  | nothing hr => rw [hr]; exact h
  | branch hr => exact addressesDistinct_of_servedBranch h hr
  | schedule hr => exact addressesDistinct_of_same h (sameAddresses_of_servedSchedule hr)
  | unit hr =>
    by_cases load : ∃ b, r = serveUnitLoad p b s
    · obtain ⟨b, rfl⟩ := load
      exact addressesDistinct_serveUnitLoad h p b
    · exact addressesDistinct_of_same h (sameAddresses_of_servedUnit hr fun b hb => load ⟨b, hb⟩)
  | input hr => exact addressesDistinct_of_same h (sameAddresses_of_servedInput hr)
  | rotate o => exact addressesDistinct_serveLadderRotate h p o
  | slotMap first count es => rw [serveSlotMapWrite_frame]; exact h
  | cycleSet n => exact h
  | fieldPass tag a os =>
    rcases serveFieldPass_cases s p tag a os with same | ⟨-, -, queued⟩
    · rw [same]; exact h
    · rw [queued]
      exact addressesDistinct_of_same h (sameAddresses_of_eq (setPort_branches _ _ _) (setPort_header _ _ _)
        (setPort_seq _ _ _))
  | limits b => exact addressesDistinct_servePlantLimitsSet h b
  | goLive =>
    unfold serveGoLive
    split_ifs
    · exact h
    · exact h
    · exact h
    · exact addressesDistinct_of_same h (sameAddresses_goLive s)
  | snapshot =>
    exact addressesDistinct_of_same h ⟨map_branches_address
      (f := fun b => { b with meter := { b.meter with rollover := false } }) (fun _ => rfl) s.branches, rfl, fun _ => rfl⟩
  | readEvents => exact h

theorem addressesDistinct_setPort (h : AddressesDistinct s) (p : Port) (x : LinkPort) :
    AddressesDistinct (s.setPort p x) :=
  addressesDistinct_of_same h (sameAddresses_of_eq (setPort_branches _ _ _) (setPort_header _ _ _) (setPort_seq _ _ _))

theorem addressesDistinct_taken {p : Port} (h : AddressesDistinct s) (taken : Taken p s t) : AddressesDistinct t := by
  cases taken with
  | answered tag kind served => exact addressesDistinct_setPort (addressesDistinct_served h served) _ _
  | restarted tag =>
    exact addressesDistinct_of_same (addressesDistinct_setPort h p _) (sameAddresses_warmRestart _ p)

theorem addressesDistinct_does (h : AddressesDistinct s) (does : Does s t) : AddressesDistinct t := by
  cases does with
  | idles => exact h
  | logs _ => exact addressesDistinct_setPort h _ _
  | takes _ _ _ taken => exact addressesDistinct_taken (addressesDistinct_setPort h _ _) taken
  | sends p => exact addressesDistinct_setPort h _ _
  | event _ event => exact addressesDistinct_of_same h (sameAddresses_event event)
  | edge n high => exact addressesDistinct_of_same h (sameAddresses_inputEdge s n high)
  | coldReset =>
    obtain ⟨-, -, -, -, -, -, -, -, -, -, -, distinct⟩ := resetMeetsTheLaws
    exact addressesDistinct_of_same distinct (sameAddresses_of_eq rfl rfl rfl)
  | release shadow rate _ =>
    unfold releaseReset
    refine addressesDistinct_of_same ?_ (sameAddresses_beginCycle _)
    exact h

end

/-- Settles O59: a load puts in an address that no other record has, a rotation permutes, the rest keeps. -/
theorem addressesStayDistinct : Obligations.AddressesStayDistinct := fun _ _ hs h =>
  step_keeps (fun _ _ k => k) (fun _ _ => addressesDistinct_does) hs h

end Sys2Proof.Machine

/-! SUPPORT. The sequencer's work, move by move (07): whatever the sequencer does to the ladders is a run of moves of six
kinds. A law of the ladders that each kind keeps is kept by all of its work. -/

namespace Sys2Proof.Machine

/-! ## One unit of a ladder -/

section
variable (L : Ladder)

theorem unitAt_setUnit (p q : Nat) (o : Option PlantUnit) :
    (L.setUnit p o).unitAt q = if q = p ∧ 1 ≤ p ∧ p ≤ L.units.length then o else L.unitAt q := by
  cases p with
  | zero =>
    rw [if_neg (by omega)]
    rfl
  | succ p =>
    cases q with
    | zero => simp [Ladder.unitAt]
    | succ q =>
      by_cases hq : q = p
      · subst hq
        by_cases hlt : q < L.units.length
        · simp [Ladder.unitAt, Ladder.setUnit, hlt, Nat.succ_le_of_lt hlt]
        · simp [Ladder.unitAt, Ladder.setUnit, hlt, show ¬ q + 1 ≤ L.units.length by omega]
      · have : ¬ p = q := fun h => hq h.symm
        simp [Ladder.unitAt, Ladder.setUnit, hq, this]

theorem unitAt_modUnit_same (p : Nat) (f : PlantUnit → PlantUnit) :
    (L.modUnit p f).unitAt p = (L.unitAt p).map f := by
  unfold Ladder.modUnit
  rw [unitAt_setUnit]
  split_ifs with h
  · rfl
  · cases hu : L.unitAt p with
    | none => rfl
    | some u => exact absurd ⟨rfl, unitAt_isSome_le hu⟩ h

theorem unitAt_modUnit_other {p q : Nat} (h : q ≠ p) (f : PlantUnit → PlantUnit) :
    (L.modUnit p f).unitAt q = L.unitAt q := by
  unfold Ladder.modUnit
  rw [unitAt_setUnit, if_neg (fun hp => h hp.1)]

theorem unitAt_modUnit (p q : Nat) (f : PlantUnit → PlantUnit) :
    (L.modUnit p f).unitAt q = if q = p then (L.unitAt q).map f else L.unitAt q := by
  split_ifs with h
  · rw [h, unitAt_modUnit_same]
  · exact unitAt_modUnit_other L h f

theorem unitAt_map (f : PlantUnit → PlantUnit) (p : Nat) :
    ({ L with units := L.units.map (·.map f) } : Ladder).unitAt p = (L.unitAt p).map f := by
  cases p with
  | zero => rfl
  | succ k => rcases h : L.units[k]? with _ | _ | u <;> simp [Ladder.unitAt, h]

@[simp] theorem modUnit_stack (p : Nat) (f : PlantUnit → PlantUnit) : (L.modUnit p f).stack = L.stack := by
  cases p <;> rfl

@[simp] theorem modUnit_periods (p : Nat) (f : PlantUnit → PlantUnit) : (L.modUnit p f).periods = L.periods := by
  cases p <;> rfl

@[simp] theorem modUnit_requestHold (p : Nat) (f : PlantUnit → PlantUnit) :
    (L.modUnit p f).requestHold = L.requestHold := by
  cases p <;> rfl

@[simp] theorem modUnit_up (p : Nat) (f : PlantUnit → PlantUnit) : (L.modUnit p f).up = L.up := by cases p <;> rfl

@[simp] theorem modUnit_down (p : Nat) (f : PlantUnit → PlantUnit) : (L.modUnit p f).down = L.down := by cases p <;> rfl

/-- What stands on a ladder, read by position. -/
theorem mem_units_iff {u : PlantUnit} : some u ∈ L.units ↔ ∃ p, L.unitAt p = some u := by
  constructor
  · intro h
    obtain ⟨k, hk⟩ := List.mem_iff_getElem?.mp h
    exact ⟨k + 1, by simp [Ladder.unitAt, hk]⟩
  · rintro ⟨p, hp⟩
    cases p with
    | zero => cases hp
    | succ k =>
      rcases h : L.units[k]? with _ | _ | v
      · simp [Ladder.unitAt, h] at hp
      · simp [Ladder.unitAt, h] at hp
      · obtain rfl : v = u := by simpa [Ladder.unitAt, h] using hp
        exact List.mem_of_getElem? h

theorem any_units_iff (test : PlantUnit → Bool) :
    (L.units.any fun u => u.any test) = true ↔ ∃ p u, L.unitAt p = some u ∧ test u = true := by
  rw [List.any_eq_true]
  constructor
  · rintro ⟨o, ho, ht⟩
    obtain ⟨u, rfl, hu⟩ := Option.any_eq_true _ _ |>.mp ht
    obtain ⟨p, hp⟩ := (mem_units_iff L).mp ho
    exact ⟨p, u, hp, hu⟩
  · rintro ⟨p, u, hp, hu⟩
    exact ⟨some u, (mem_units_iff L).mpr ⟨p, hp⟩, hu⟩

theorem hasStarting_iff : L.hasStarting = true ↔ ∃ p u, L.unitAt p = some u ∧ u.state = .starting := by
  unfold Ladder.hasStarting
  rw [any_units_iff]
  simp only [decide_eq_true_eq]

/-- The first unit that meets a test meets it. -/
theorem first_spec {L : Ladder} {test : PlantUnit → Bool} {p : Nat} (h : L.first test = some p) :
    ∃ u, L.unitAt p = some u ∧ test u = true := by
  unfold Ladder.first at h
  have met : (L.unitAt p).any test = true := List.find?_some (p := fun p => (L.unitAt p).any test) h
  exact (Option.any_eq_true _ _).mp met

end

/-! ## The moves -/

/-- A timer after a move: as it was, cancelled, started with its ladder's setting, or on its second pass (08, R136,
R140). -/
inductive Timer.Follows (period : Nat) (t : Timer) : Timer → Prop
  | kept : Follows period t t
  | idle : Follows period t .idle
  | started : Follows period t (.start period)
  | again {r l q : Nat} (h : t = .counting r l q) : Follows period t (.counting l l 2)

theorem follows_startIfIdle (period : Nat) (t : Timer) : Timer.Follows period t (t.startIfIdle period) := by
  unfold Timer.startIfIdle
  split
  · exact .kept
  · exact .started

/-- A unit's four timers after a move. -/
structure PlantUnit.TimersFollow (x : Periods) (u v : PlantUnit) : Prop where
  prove : Timer.Follows x.prove u.prove v.prove
  stop  : Timer.Follows x.stop u.stop v.stop
  run   : Timer.Follows x.run u.run v.run
  rest  : Timer.Follows x.rest u.rest v.rest

/-- A move of a ladder: its flags and timers; every unit alike, in place; one unit in place; one unit off the stack; one
unit onto the stack. -/
inductive Ladder.Move (L : Ladder) : Ladder → Prop
  | flags {M : Ladder} (units : M.units = L.units) (stack : M.stack = L.stack) (periods : M.periods = L.periods)
      (hold : M.requestHold = L.requestHold) (up : Timer.Follows L.periods.up L.up M.up)
      (down : Timer.Follows L.periods.down L.down M.down) : Move L M
  | each (f : PlantUnit → PlantUnit) (timers : ∀ u : PlantUnit, u.TimersFollow L.periods (f u)) (state : ∀ u, (f u).state = u.state) :
      Move L { L with units := L.units.map (·.map f) }
  | stays (p : Nat) (f : PlantUnit → PlantUnit) (timers : ∀ u : PlantUnit, u.TimersFollow L.periods (f u))
      (stack : ∀ u, L.unitAt p = some u →
        (f u).stacked = u.stacked ∧ ((f u).state = .starting → u.state = .starting)) : Move L (L.modUnit p f)
  | leaves (p : Nat) (f : PlantUnit → PlantUnit) (timers : ∀ u : PlantUnit, u.TimersFollow L.periods (f u))
      (gone : ∀ u, (f u).stacked = false) : Move L ((L.modUnit p f).remove p)
  | enters (p : Nat) (f : PlantUnit → PlantUnit) (timers : ∀ u : PlantUnit, u.TimersFollow L.periods (f u)) {u : PlantUnit}
      (unit : L.unitAt p = some u) (off : u.stacked = false) (on : (f u).stacked = true)
      (alone : (f u).state = .starting → L.hasStarting = false) : Move L ((L.modUnit p f).push p)

/-- A move of the sequencer: of one ladder, or of the waiting flag. -/
inductive Sequencer.Move (q : Sequencer) : Sequencer → Prop
  | ladder (l : LadderId) {M : Ladder} (h : (q.ladder l).Move M) : Move q (q.setLadder l M)
  | waits (b : Bool) : Move q { q with waiting := b }

/-- Work that leads from one sequencer to another by moves. -/
def Work.Leads (w v : Work) : Prop := Relation.ReflTransGen Sequencer.Move w.seq v.seq

section
variable {e : SeqEnv} {l : LadderId} {p : Nat} {w v x : Work}

theorem leads_refl (w : Work) : w.Leads w := Relation.ReflTransGen.refl

theorem Work.Leads.trans (h : w.Leads v) (k : v.Leads x) : w.Leads x := Relation.ReflTransGen.trans h k

/-- The other order: what follows first, then what it follows. -/
theorem Work.Leads.after (k : v.Leads x) (h : w.Leads v) : w.Leads x := h.trans k

theorem leads_onLadder {f : Ladder → Ladder} (h : (w.seq.ladder l).Move (f (w.seq.ladder l))) :
    w.Leads (w.onLadder l f) := Relation.ReflTransGen.single (.ladder l h)

theorem leads_waiting (w : Work) (b : Bool) : w.Leads { w with seq := { w.seq with waiting := b } } :=
  Relation.ReflTransGen.single (.waits b)

theorem leads_say (h : w.Leads v) (ns : List Note) : w.Leads (v.say ns) := h

theorem leads_ite {c : Prop} [Decidable c] (h : c → w.Leads v) (k : ¬ c → w.Leads x) : w.Leads (if c then v else x) := by
  split_ifs with hc
  · exact h hc
  · exact k hc

theorem leads_foldl {f : Work → Nat → Work} (h : ∀ (v : Work) n, v.Leads (f v n)) (ns : List Nat) (w : Work) :
    w.Leads (ns.foldl f w) := by
  induction ns generalizing w with
  | nil => exact leads_refl w
  | cons n ns ih => exact (h w n).trans (ih _)

/-! ## The moves of one unit -/

@[simp] theorem ladder_onLadder (w : Work) (l : LadderId) (f : Ladder → Ladder) :
    (w.onLadder l f).seq.ladder l = f (w.seq.ladder l) := ladder_setLadder _ _ _

theorem ladder_onLadder_of_ne (w : Work) {l m : LadderId} (h : m ≠ l) (f : Ladder → Ladder) :
    (w.onLadder l f).seq.ladder m = w.seq.ladder m := ladder_setLadder_of_ne _ _ h

theorem onLadder_onLadder (w : Work) (l : LadderId) (f g : Ladder → Ladder) :
    (w.onLadder l f).onLadder l g = w.onLadder l fun L => g (f L) := by
  cases l <;> rfl

theorem unit_onUnit_same (w : Work) (l : LadderId) (p : Nat) (f : PlantUnit → PlantUnit) :
    (w.onUnit l p f).unit l p = (w.unit l p).map f := by
  unfold Work.unit Work.onUnit
  rw [ladder_onLadder, unitAt_modUnit_same]

/-- What an entry into a state makes of the unit. -/
def PlantUnit.entered (e : SeqEnv) (l : LadderId) (st : UnitState) (d : Option Demand) (f : PlantUnit → PlantUnit)
    (u : PlantUnit) : PlantUnit :=
  { f u with
    state := st,
    next := match d with
      | some d => some ⟨d, e.setpoint l⟩
      | none => u.next }

theorem enter_seq (st : UnitState) (d : Option Demand) (f : PlantUnit → PlantUnit) :
    (w.enter e l p st d f).seq = (w.onUnit l p (PlantUnit.entered e l st d f)).seq := rfl

theorem entered_state (st : UnitState) (d : Option Demand) (f : PlantUnit → PlantUnit) (u : PlantUnit) :
    (PlantUnit.entered e l st d f u).state = st := rfl

/-- The timers are those the entry leaves. -/
theorem entered_timers {X : Periods} {f : PlantUnit → PlantUnit} (h : ∀ u : PlantUnit, u.TimersFollow X (f u)) (st : UnitState)
    (d : Option Demand) (u : PlantUnit) : u.TimersFollow X (PlantUnit.entered e l st d f u) :=
  ⟨(h u).prove, (h u).stop, (h u).run, (h u).rest⟩

theorem timersFollow_refl (X : Periods) (u : PlantUnit) : u.TimersFollow X u := ⟨.kept, .kept, .kept, .kept⟩

theorem stacked_of_state {u : PlantUnit} {st : UnitState} (h : u.state = st) :
    u.stacked = (decide (st = .starting) || decide (st = .running)) := by
  unfold PlantUnit.stacked
  rw [h]

/-- A unit moves and keeps its place on the stack, or off it. -/
theorem leads_stay {f : PlantUnit → PlantUnit} (timers : ∀ u : PlantUnit, u.TimersFollow (w.seq.ladder l).periods (f u))
    (stack : ∀ u, w.unit l p = some u → (f u).stacked = u.stacked ∧ ((f u).state = .starting → u.state = .starting)) :
    w.Leads (w.onUnit l p f) := leads_onLadder (f := fun L => L.modUnit p f) (.stays p f timers stack)

/-- A change of one unit that moves neither its state nor, wrongly, its timers. -/
theorem leads_onUnit {f : PlantUnit → PlantUnit} (timers : ∀ u : PlantUnit, u.TimersFollow (w.seq.ladder l).periods (f u))
    (state : ∀ u, (f u).state = u.state) : w.Leads (w.onUnit l p f) := by
  refine leads_stay timers fun u _ => ⟨?_, fun h => (state u) ▸ h⟩
  unfold PlantUnit.stacked
  rw [state]

/-- An entry into a state that keeps the unit's place on the stack, or off it. -/
theorem leads_enter_stay {st : UnitState} {d : Option Demand} {f : PlantUnit → PlantUnit}
    (timers : ∀ u : PlantUnit, u.TimersFollow (w.seq.ladder l).periods (f u))
    (place : ∀ u, w.unit l p = some u → (decide (st = .starting) || decide (st = .running)) = u.stacked)
    (hs : st ≠ .starting) : w.Leads (w.enter e l p st d f) :=
  leads_say (leads_stay (f := PlantUnit.entered e l st d f) (entered_timers timers st d) fun u hu =>
    ⟨place u hu, fun h => absurd h hs⟩) _

/-- A unit off the stack enters a state that is off the stack. -/
theorem leads_enter_off {st : UnitState} {d : Option Demand} {f : PlantUnit → PlantUnit}
    (timers : ∀ u : PlantUnit, u.TimersFollow (w.seq.ladder l).periods (f u))
    (off : ∀ u, w.unit l p = some u → u.stacked = false) (hs : st ≠ .starting) (hr : st ≠ .running) :
    w.Leads (w.enter e l p st d f) :=
  leads_enter_stay timers (fun u hu => by simp [off u hu, hs, hr]) hs

/-- A unit leaves the stack, if it stands there, for a state off it. -/
theorem leads_leave {st : UnitState} {d : Option Demand} {f : PlantUnit → PlantUnit}
    (timers : ∀ u : PlantUnit, u.TimersFollow (w.seq.ladder l).periods (f u)) (hs : st ≠ .starting) (hr : st ≠ .running) :
    w.Leads ((w.enter e l p st d f).onLadder l (·.remove p)) := by
  change w.Leads ((w.onLadder l fun L => L.modUnit p (PlantUnit.entered e l st d f)).onLadder l (·.remove p))
  rw [onLadder_onLadder]
  refine leads_onLadder (.leaves p _ (entered_timers timers st d) fun u => ?_)
  change (decide (st = .starting) || decide (st = .running)) = false
  simp [hs, hr]

/-- A unit off the stack enters RUNNING, or STARTING when no other is there, and stands on the stack's top. -/
theorem leads_push {st : UnitState} {d : Option Demand} {f : PlantUnit → PlantUnit}
    (timers : ∀ u : PlantUnit, u.TimersFollow (w.seq.ladder l).periods (f u)) {u : PlantUnit} (unit : w.unit l p = some u)
    (off : u.stacked = false) (on : st = .running ∨ st = .starting ∧ (w.seq.ladder l).hasStarting = false) :
    w.Leads ((w.enter e l p st d f).onLadder l (·.push p)) := by
  change w.Leads ((w.onLadder l fun L => L.modUnit p (PlantUnit.entered e l st d f)).onLadder l (·.push p))
  rw [onLadder_onLadder]
  refine leads_onLadder (.enters p _ (entered_timers timers st d) unit off ?_ ?_)
  · change (decide (st = .starting) || decide (st = .running)) = true
    rcases on with rfl | ⟨rfl, -⟩ <;> rfl
  · intro h
    rcases on with rfl | ⟨-, alone⟩
    · cases h
    · exact alone

/-! ## The flags of a ladder -/

theorem leads_flags {f : Ladder → Ladder} (units : ∀ L, (f L).units = L.units) (stack : ∀ L, (f L).stack = L.stack)
    (periods : ∀ L, (f L).periods = L.periods) (hold : ∀ L, (f L).requestHold = L.requestHold)
    (up : ∀ L, Timer.Follows L.periods.up L.up (f L).up) (down : ∀ L, Timer.Follows L.periods.down L.down (f L).down) :
    w.Leads (w.onLadder l f) :=
  leads_onLadder (.flags (units _) (stack _) (periods _) (hold _) (up _) (down _))

theorem leads_upDone (w : Work) (l : LadderId) : w.Leads (w.onLadder l Ladder.upDone) :=
  leads_flags (fun _ => rfl) (fun _ => rfl) (fun _ => rfl) (fun _ => rfl) (fun _ => .idle) (fun _ => .kept)

theorem leads_downDone (w : Work) (l : LadderId) : w.Leads (w.onLadder l Ladder.downDone) :=
  leads_flags (fun _ => rfl) (fun _ => rfl) (fun _ => rfl) (fun _ => rfl) (fun _ => .kept) (fun _ => .idle)

theorem leads_clearShort (w : Work) (l : LadderId) : w.Leads (w.clearShort l) := by
  unfold Work.clearShort
  refine leads_ite (fun _ => leads_say ?_ _) fun _ => leads_refl w
  exact leads_flags (fun _ => rfl) (fun _ => rfl) (fun _ => rfl) (fun _ => rfl) (fun _ => .kept) (fun _ => .kept)

theorem leads_setShort (w : Work) (l : LadderId) : w.Leads (w.setShort l) := by
  unfold Work.setShort
  refine leads_ite (fun _ => leads_refl w) fun _ => leads_say ?_ _
  exact leads_flags (fun _ => rfl) (fun _ => rfl) (fun _ => rfl) (fun _ => rfl) (fun _ => .kept) (fun _ => .kept)

/-! ## Stops, starts, intents (07, R115, R125, R130) -/

theorem leads_stopOne (w : Work) (e : SeqEnv) (l : LadderId) (p : Nat) : w.Leads (w.stopOne e l p) :=
  leads_leave (fun _ => ⟨.idle, .started, .idle, .kept⟩) (by decide) (by decide)

theorem leads_startUnit {u : PlantUnit} (unit : w.unit l p = some u) (off : u.state = .off)
    (alone : (w.seq.ladder l).hasStarting = false) : w.Leads (w.startUnit e l p) := by
  unfold Work.startUnit
  refine (leads_clearShort _ _).after ?_
  rw [← onLadder_onLadder _ _ (Ladder.push p) Ladder.upDone]
  refine (leads_upDone _ _).after ?_
  exact leads_push (fun _ => ⟨.started, .kept, .kept, .kept⟩) unit (stacked_of_state off) (.inr ⟨rfl, alone⟩)

theorem leads_intend (w : Work) (e : SeqEnv) (l : LadderId) (p : Nat) (i : Intent) : w.Leads (w.intend e l p i) := by
  unfold Work.intend
  refine leads_say (Work.Leads.after (v := w.onUnit l p fun u => { u with intent := some i }) ?_ ?_) _
  · exact leads_flags (fun _ => rfl) (fun _ => rfl) (fun _ => rfl) (fun _ => rfl) (fun _ => .kept) (fun _ => .kept)
  · exact leads_onUnit (fun _ => ⟨.kept, .kept, .kept, .kept⟩) fun _ => rfl

/-! ## Staging up (07, R125, R126) -/

theorem leads_actUpWith {interlock : Work → Work} (h : ∀ v : Work, v.Leads (interlock v)) (w : Work) (e : SeqEnv)
    (l : LadderId) : w.Leads (w.actUpWith e l interlock) := by
  unfold Work.actUpWith
  refine leads_ite (fun _ => leads_refl w) fun _ => leads_ite (fun _ => leads_refl w) fun alone => ?_
  split
  · exact leads_setShort w l
  next p found =>
    obtain ⟨u, unit, off⟩ := first_spec found
    refine leads_ite (fun _ => ?_) fun _ => leads_ite (fun _ => h w) fun _ => ?_
    · exact (leads_clearShort _ _).after ((leads_upDone _ _).after (leads_intend w e l p .start))
    · exact leads_startUnit unit (by simpa using off) (by simpa using alone)

theorem leads_actUpPump (w : Work) (e : SeqEnv) : w.Leads (w.actUpPump e) := leads_actUpWith leads_refl w e .pump

theorem leads_interlock (w : Work) (e : SeqEnv) : w.Leads (w.interlock e) := by
  have flagged : w.Leads ({ (w.onLadder .chiller fun L => { L with upPending := false }).onLadder .pump fun L =>
      { L with upPending := true } with
        seq := { ((w.onLadder .chiller fun L => { L with upPending := false }).onLadder .pump fun L =>
          { L with upPending := true }).seq with waiting := true } } : Work) := by
    refine (leads_waiting _ true).after (Work.Leads.after (v := w.onLadder .chiller fun L =>
      { L with upPending := false }) ?_ ?_)
    · exact leads_flags (fun _ => rfl) (fun _ => rfl) (fun _ => rfl) (fun _ => rfl) (fun _ => .kept) (fun _ => .kept)
    · exact leads_flags (fun _ => rfl) (fun _ => rfl) (fun _ => rfl) (fun _ => rfl) (fun _ => .kept) (fun _ => .kept)
  exact (leads_actUpPump _ e).after flagged

theorem leads_actUp (w : Work) (e : SeqEnv) (l : LadderId) : w.Leads (w.actUp e l) := by
  cases l with
  | chiller => exact leads_actUpWith (fun v => leads_interlock v e) w e .chiller
  | pump => exact leads_actUpPump w e

theorem leads_raiseUp (w : Work) (e : SeqEnv) (l : LadderId) : w.Leads (w.raiseUp e l) :=
  (leads_actUp _ e l).after
    (leads_flags (fun _ => rfl) (fun _ => rfl) (fun _ => rfl) (fun _ => rfl) (fun _ => .kept) (fun _ => .kept))

theorem leads_tryUp (w : Work) (e : SeqEnv) (l : LadderId) : w.Leads (w.tryUp e l) :=
  leads_ite (fun _ => leads_actUp w e l) fun _ => leads_refl w

theorem leads_pumpServes (w : Work) (e : SeqEnv) : w.Leads (w.pumpServes e) :=
  leads_ite (fun _ => (leads_raiseUp _ e .chiller).after (leads_waiting w false)) fun _ => leads_refl w

/-! ## Leaving a state (07, R115, R116, R127, R128) -/

theorem leads_flowLoss (w : Work) (e : SeqEnv) : w.Leads (w.flowLoss e) := by
  have stopped : w.Leads (w.seq.chillers.stoppables.foldl (fun v p => v.stopOne e .chiller p)
      (w.say [⟨.flowLossStop, ladderSubject .pump, w.seq.chillers.stoppables.length⟩])) :=
    (leads_foldl (fun v n => leads_stopOne v e .chiller n) _ _).after (leads_say (leads_refl w) _)
  exact leads_ite (fun _ => (leads_tryUp _ e .chiller).after stopped) fun _ => stopped

theorem leads_afterLeaving (w : Work) (e : SeqEnv) (l : LadderId) (before : PlantUnit) :
    w.Leads (w.afterLeaving e l before) := by
  unfold Work.afterLeaving
  have flowed := leads_ite (c := (decide (l = .pump) && before.inService && !w.seq.pumps.serves) = true)
    (fun _ => leads_flowLoss w e) fun _ => leads_refl w
  exact leads_ite (fun _ => (leads_tryUp _ e l).after flowed) fun _ => flowed

theorem leads_stopUnit (w : Work) (e : SeqEnv) (l : LadderId) (p : Nat) : w.Leads (w.stopUnit e l p) := by
  unfold Work.stopUnit
  split
  · exact leads_refl w
  · exact (leads_afterLeaving _ e l _).after (leads_stopOne w e l p)

theorem leads_stopAll (w : Work) (e : SeqEnv) : w.Leads (w.stopAll e) :=
  leads_ite (fun _ => leads_refl w) fun _ =>
    (leads_foldl (fun v n => leads_stopUnit v e .pump n) _ w).trans
      (leads_foldl (fun v n => leads_stopUnit v e .chiller n) _ _)

theorem leads_actDown (w : Work) (e : SeqEnv) (l : LadderId) : w.Leads (w.actDown e l) := by
  unfold Work.actDown
  split
  · exact leads_flags (fun _ => rfl) (fun _ => rfl) (fun _ => rfl) (fun _ => rfl) (fun _ => .kept) (fun _ => .kept)
  · refine leads_ite (fun _ => leads_refl w) fun _ => leads_ite (fun _ => leads_refl w) fun _ =>
      leads_ite (fun _ => ?_) fun _ => ?_
    · exact (leads_downDone _ l).after (leads_intend w e l _ .stop)
    · exact (leads_stopUnit _ e l _).after (leads_downDone w l)

theorem leads_tryDown (w : Work) (e : SeqEnv) (l : LadderId) : w.Leads (w.tryDown e l) :=
  leads_ite (fun _ => leads_actDown w e l) fun _ => leads_refl w

theorem leads_trip (w : Work) (e : SeqEnv) (l : LadderId) (p : Nat) (cause : TripCause) :
    w.Leads (w.trip e l p cause) := by
  unfold Work.trip
  split
  · exact leads_refl w
  · have entered : w.Leads (((w.enter e l p (.tripped cause false) (some .stop) fun u =>
        { u with prove := .idle, stop := .idle, run := .idle }).onLadder l (·.remove p)).say
          [⟨.unitTrip, ladderSubject l + p, cause.code⟩]) :=
      leads_leave (fun _ => ⟨.idle, .idle, .idle, .kept⟩) (by simp) (by simp)
    have flowed := fun c : Bool => entered.trans (leads_ite (c := c = true) (fun _ => leads_flowLoss _ e) fun _ =>
      leads_refl _)
    exact leads_ite (fun _ => (leads_raiseUp _ e l).after (flowed _)) fun _ => flowed _

/-! ## Judging (07, R113, R114, R117, R118) -/

theorem leads_proved (starting : ∀ u, w.unit l p = some u → u.state = .starting) : w.Leads (w.proved e l p) := by
  unfold Work.proved
  have entered : w.Leads (w.enter e l p .running none fun u =>
      { u with prove := .idle, run := .start (w.seq.ladder l).periods.run }) := by
    refine leads_enter_stay (fun _ => ⟨.idle, .kept, .started, .kept⟩) (fun u hu => ?_) (by decide)
    rw [stacked_of_state (starting u hu)]
    rfl
  refine (leads_tryUp _ e l).after (entered.trans ?_)
  exact leads_ite (fun _ => leads_pumpServes _ e) fun _ => leads_refl _

theorem leads_toResting (off : ∀ u, w.unit l p = some u → u.stacked = false) : w.Leads (w.toResting e l p) :=
  leads_enter_off (fun _ => ⟨.kept, .idle, .kept, .started⟩) off (by decide) (by decide)

theorem leads_toLocal (w : Work) (e : SeqEnv) (l : LadderId) (p : Nat) : w.Leads (w.toLocal e l p) := by
  unfold Work.toLocal
  split
  · exact leads_refl w
  · exact (leads_afterLeaving _ e l _).after
      (leads_leave (fun _ => ⟨.idle, .idle, .idle, .idle⟩) (by decide) (by decide))

theorem leads_takeIntoService {u : PlantUnit} (unit : w.unit l p = some u) (off : u.stacked = false) :
    w.Leads (w.takeIntoService e l p) := by
  unfold Work.takeIntoService
  have entered := leads_push (e := e) (st := .running) (d := some .run)
    (f := fun u => { u with prove := .idle, run := .start (w.seq.ladder l).periods.run })
    (fun _ => ⟨.idle, .kept, .started, .kept⟩) unit off (.inl rfl)
  exact entered.trans (leads_ite (fun _ => leads_pumpServes _ e) fun _ => leads_refl _)

theorem leads_fromLocal {u : PlantUnit} (unit : w.unit l p = some u) (off : u.stacked = false) (proof : Bool) :
    w.Leads (w.fromLocal e l p proof) := by
  unfold Work.fromLocal
  refine leads_ite (fun _ => leads_toResting fun v hv => ?_) fun _ => leads_ite (fun _ => leads_stopOne w e l p) fun _ => ?_
  · rw [unit] at hv
    cases hv
    exact off
  · exact (leads_takeIntoService unit off).trans (leads_ite (fun _ => leads_flowLoss _ e) fun _ => leads_refl _)

theorem leads_proofLate (off : ∀ u, w.unit l p = some u → u.stacked = false) : w.Leads (w.proofLate l p) := by
  unfold Work.proofLate
  refine leads_say (v := w.onUnit l p fun u => { u with state := .tripped .noProof true }) ?_ _
  refine leads_stay (fun _ => ⟨.kept, .kept, .kept, .kept⟩) fun u hu => ?_
  rw [off u hu]
  exact ⟨rfl, fun h => by cases h⟩

theorem leads_cancelProve (w : Work) (l : LadderId) (p : Nat) :
    w.Leads (w.onUnit l p fun u => { u with prove := .idle }) :=
  leads_onUnit (fun _ => ⟨.idle, .kept, .kept, .kept⟩) fun _ => rfl

/-- Every row of R113's table is a run of moves, for the unit that stands at the position. -/
theorem leads_judgeOne {u : PlantUnit} (unit : w.unit l p = some u) (c : CycleClass) :
    w.Leads (w.judgeOne e l p u c) := by
  have here : ∀ {P : PlantUnit → Prop}, P u → ∀ v, w.unit l p = some v → P v := by
    intro P hu v hv
    rw [unit] at hv
    cases hv
    exact hu
  unfold Work.judgeOne
  split
  case h_1 => exact leads_toLocal w e l p
  case h_2 => exact leads_toLocal w e l p
  case h_3 => exact leads_toLocal w e l p
  case h_4 => exact leads_toLocal w e l p
  case h_5 => exact leads_toLocal w e l p
  case h_6 hst => exact leads_ite (fun _ => leads_proved (here hst)) fun _ => leads_refl w
  case h_7 => exact leads_ite (fun _ => leads_refl w) fun _ => leads_trip w e l p _
  case h_8 hst =>
    exact leads_ite (fun _ => leads_refl w) fun _ => leads_toResting (here (stacked_of_state hst))
  case h_9 hst => exact leads_fromLocal unit (stacked_of_state hst) _
  case h_10 hst => exact leads_ite (fun _ => leads_proofLate (here (stacked_of_state hst))) fun _ => leads_refl w
  case h_11 =>
    exact leads_ite (fun _ => leads_ite (fun _ => leads_cancelProve w l p) fun _ => leads_refl w) fun _ =>
      leads_ite (fun _ => leads_refl w) fun _ => leads_trip w e l p _
  case h_12 => exact leads_trip w e l p _
  case h_13 => exact leads_trip w e l p _
  case h_14 => exact leads_trip w e l p _
  case h_15 => exact leads_refl w

theorem leads_trackOne {u : PlantUnit} (unit : w.unit l p = some u) : w.Leads (w.trackOne e l p u) := by
  unfold Work.trackOne
  split
  case h_1 hst =>
    refine leads_ite (fun _ => ?_) fun _ => leads_refl w
    have entered := leads_push (e := e) (st := .running) (d := some .run) (f := fun u => { u with intent := none })
      (fun _ => ⟨.kept, .kept, .kept, .kept⟩) unit (stacked_of_state hst) (.inl rfl)
    exact entered.trans (leads_ite (fun _ => leads_pumpServes _ e) fun _ => leads_refl _)
  case h_2 =>
    refine leads_ite (fun _ => leads_refl w) fun _ => ?_
    exact leads_leave (fun _ => ⟨.kept, .kept, .kept, .kept⟩) (by decide) (by decide)
  case h_3 => exact leads_refl w

theorem leads_judgeAt (before : Sequencer) (w : Work) (e : SeqEnv) (l : LadderId) (p : Nat) :
    w.Leads (w.judgeAt e before l p) := by
  unfold Work.judgeAt
  split
  next unit =>
    exact leads_ite (fun _ => leads_refl w) fun _ => leads_ite (fun _ => leads_trackOne unit) fun _ =>
      leads_judgeOne unit _
  · exact leads_refl w

theorem leads_judgeAll (before : Sequencer) (w : Work) (e : SeqEnv) : w.Leads (w.judgeAll e before) :=
  (leads_foldl (fun v n => leads_judgeAt before v e .pump n) _ w).trans
    (leads_foldl (fun v n => leads_judgeAt before v e .chiller n) _ _)

/-! ## The evaluation (07, R122 to R124) -/

theorem leads_driveUp (w : Work) (e : SeqEnv) (l : LadderId) (holds : Bool) : w.Leads (w.driveUp e l holds) := by
  unfold Work.driveUp
  refine leads_ite (fun _ => leads_ite (fun _ => leads_actUp w e l) fun _ => ?_) fun _ => ?_
  · exact leads_flags (fun _ => rfl) (fun _ => rfl) (fun _ => rfl) (fun _ => rfl) (fun _ => follows_startIfIdle _ _)
      (fun _ => .kept)
  · exact (leads_clearShort _ l).after ((leads_waiting _ _).after (leads_upDone w l))

theorem leads_driveDown (w : Work) (e : SeqEnv) (l : LadderId) (holds : Bool) : w.Leads (w.driveDown e l holds) := by
  unfold Work.driveDown
  refine leads_ite (fun _ => leads_ite (fun _ => leads_actDown w e l) fun _ => ?_) fun _ => leads_downDone w l
  exact leads_flags (fun _ => rfl) (fun _ => rfl) (fun _ => rfl) (fun _ => rfl) (fun _ => .kept)
    (fun _ => follows_startIfIdle _ _)

theorem leads_drive (w : Work) (e : SeqEnv) (l : LadderId) (f : Figures) : w.Leads (w.drive e l f) := by
  unfold Work.drive
  refine Work.Leads.after ?_ ((leads_driveUp w e l f.up).trans (leads_driveDown _ e l f.down))
  exact leads_flags (fun _ => rfl) (fun _ => rfl) (fun _ => rfl) (fun _ => rfl) (fun _ => .kept) (fun _ => .kept)

theorem leads_evaluate (w : Work) (e : SeqEnv) (x : LoadInput) : w.Leads (w.evaluate e x) := by
  unfold Work.evaluate
  have chillers := leads_ite (c := w.held .chiller = true) (fun _ => leads_refl w) fun _ =>
    leads_drive w e .chiller (chillerFigures e x w.seq.chillers)
  exact leads_ite (fun _ => chillers) fun _ => chillers.trans (leads_drive _ e .pump _)

/-! ## Every unit at once -/

theorem leads_each {f : PlantUnit → PlantUnit} (timers : ∀ u : PlantUnit, u.TimersFollow (w.seq.ladder l).periods (f u))
    (state : ∀ u, (f u).state = u.state) :
    w.Leads (w.onLadder l fun L => { L with units := L.units.map (·.map f) }) := leads_onLadder (.each f timers state)

theorem leads_writeSupply (w : Work) (supply : Nat) : w.Leads (w.onLadder .chiller (·.writeSupply supply)) :=
  leads_each (fun _ => ⟨.kept, .kept, .kept, .kept⟩) fun _ => rfl

theorem leads_closeUnits (w : Work) (lim : Limits) : w.Leads (w.closeUnits lim) := by
  have chillers : w.Leads (w.onLadder .chiller (·.close lim)) :=
    leads_each (fun _ => ⟨.kept, .kept, .kept, .kept⟩) fun _ => rfl
  have pumps : (w.onLadder .chiller (·.close lim)).Leads ((w.onLadder .chiller (·.close lim)).onLadder .pump (·.close lim)) :=
    leads_each (fun _ => ⟨.kept, .kept, .kept, .kept⟩) fun _ => rfl
  exact chillers.trans pumps

theorem goLive_timers (x : Periods) (u : PlantUnit) : u.TimersFollow x (u.goLive x.run) := by
  refine ⟨.kept, .kept, ?_, .kept⟩
  change Timer.Follows _ _ (if u.state = .running then Timer.start x.run else u.run)
  split_ifs
  · exact .started
  · exact .kept

theorem leads_goLive (w : Work) :
    w.Leads { w with seq := { w.seq with chillers := w.seq.chillers.goLive, pumps := w.seq.pumps.goLive } } := by
  have chillers : w.Leads (w.onLadder .chiller Ladder.goLive) :=
    leads_each (f := PlantUnit.goLive (w.seq.ladder .chiller).periods.run) (goLive_timers _) fun _ => rfl
  have pumps : (w.onLadder .chiller Ladder.goLive).Leads
      ((w.onLadder .chiller Ladder.goLive).onLadder .pump Ladder.goLive) :=
    leads_each (f := PlantUnit.goLive (w.seq.ladder .pump).periods.run) (goLive_timers _) fun _ => rfl
  exact chillers.trans pumps

/-! ## Hand control, clearing, disabling, enabling (07, R119 to R121) -/

theorem handTimers_follow (d : Demand) (x : Periods) (u : PlantUnit) : u.TimersFollow x (handTimers d x u) := by
  unfold handTimers
  cases d with
  | run =>
    refine ⟨?_, .kept, .idle, .kept⟩
    dsimp only
    split
    · exact .idle
    · exact .started
  | stop =>
    dsimp only
    split
    · exact ⟨.idle, .kept, .idle, follows_startIfIdle _ _⟩
    · exact ⟨.kept, .kept, .idle, .kept⟩

theorem leads_takeInHand (w : Work) (e : SeqEnv) (x : NamedUnit) (d : Demand) : w.Leads (w.takeInHand e x d) := by
  have entered : ∀ ns, w.Leads (((w.onUnit x.ladder x.position fun u =>
      { handTimers d (w.seq.ladder x.ladder).periods u with
        state := .hand d, next := some ⟨d, e.setpoint x.ladder⟩ }).onLadder x.ladder
          (·.remove x.position)).say ns) := by
    intro ns
    refine leads_say ?_ ns
    unfold Work.onUnit
    rw [onLadder_onLadder]
    refine leads_onLadder (.leaves x.position _ (fun u => ?_) fun _ => rfl)
    have follow := handTimers_follow d (w.seq.ladder x.ladder).periods u
    exact ⟨follow.prove, follow.stop, follow.run, follow.rest⟩
  unfold Work.takeInHand
  dsimp only
  split
  · exact (leads_pumpServes _ e).after (entered _)
  · exact (leads_afterLeaving _ e .pump _).after (entered _)
  · exact entered _

section
variable {y : NamedUnit} (unit : w.unit y.ladder y.position = some y.unit)
include unit

/-- The unit a request names, off the stack, enters a state off the stack. -/
theorem leads_enter_named {st : UnitState} {d : Option Demand} {f : PlantUnit → PlantUnit}
    (timers : ∀ u : PlantUnit, u.TimersFollow (w.seq.ladder y.ladder).periods (f u)) (off : y.unit.stacked = false)
    (hs : st ≠ .starting) (hr : st ≠ .running) : w.Leads (w.enter e y.ladder y.position st d f) := by
  refine leads_enter_off timers (fun u hu => ?_) hs hr
  rw [unit] at hu
  cases hu
  exact off

theorem leads_takeOutOfHand (off : y.unit.stacked = false) : w.Leads (w.takeOutOfHand e y) := by
  unfold Work.takeOutOfHand
  refine leads_ite (fun _ => ?_) fun _ => leads_ite (fun _ => ?_) fun _ => leads_takeIntoService unit off
  · exact (leads_afterLeaving _ e _ _).after (leads_enter_named unit
      (fun _ => ⟨.idle, .kept, .kept, follows_startIfIdle _ _⟩) off (by decide) (by decide))
  · exact (leads_afterLeaving _ e _ _).after (leads_stopOne w e _ _)

theorem leads_clearTrip (off : y.unit.stacked = false) : w.Leads (w.clearTrip e y) :=
  leads_enter_named unit (fun _ => ⟨.kept, .kept, .kept, .started⟩) off (by decide) (by decide)

theorem leads_disable (off : y.unit.stacked = false) : w.Leads (w.enter e y.ladder y.position .out none id) :=
  leads_enter_named unit (timersFollow_refl _) off (by decide) (by decide)

theorem leads_enable (off : y.unit.stacked = false) : w.Leads (w.enable e y) :=
  leads_ite (fun _ => leads_enter_named unit (timersFollow_refl _) off (by decide) (by decide)) fun _ =>
    leads_enter_named unit (timersFollow_refl _) off (by decide) (by decide)

end

/-! ## Expiries (07, R114, R115, R124) -/

theorem leads_proveExpired {u : PlantUnit} (unit : w.unit l p = some u) : w.Leads (w.proveExpired e l p u) := by
  unfold Work.proveExpired
  split
  · exact leads_refl w
  next r latched pass counting =>
    have idle : w.Leads (w.onUnit l p fun v => { v with prove := .idle }) := leads_cancelProve w l p
    dsimp only
    refine leads_ite (fun _ => leads_ite (fun _ => leads_say ?_ _) fun _ => ?_) fun _ => idle
    · have same : (w.onUnit l p fun v => { v with prove := .counting latched latched 2 }).seq =
          (w.onUnit l p fun v => { v with prove :=
            if v.prove = u.prove then .counting latched latched 2 else v.prove }).seq := by
        unfold Work.onUnit Work.onLadder
        dsimp only
        congr 1
        unfold Ladder.modUnit
        rw [show (w.seq.ladder l).unitAt p = some u from unit]
        simp
      change Relation.ReflTransGen Sequencer.Move w.seq _
      rw [same]
      refine leads_onUnit (fun v => ⟨?_, .kept, .kept, .kept⟩) fun _ => rfl
      dsimp only
      split_ifs with hv
      · exact .again (hv.trans counting)
      · exact .kept
    · exact (leads_trip _ e l p .noProof).after idle

theorem leads_stopExpired (w : Work) (e : SeqEnv) (l : LadderId) (p : Nat) (u : PlantUnit) :
    w.Leads (w.stopExpired e l p u) := by
  have idle : w.Leads (w.onUnit l p fun v => { v with stop := .idle }) :=
    leads_onUnit (fun _ => ⟨.kept, .idle, .kept, .kept⟩) fun _ => rfl
  exact leads_ite (fun _ => (leads_trip _ e l p .noStop).after idle) fun _ => idle

theorem leads_runExpired (w : Work) (e : SeqEnv) (l : LadderId) (p : Nat) (u : PlantUnit) :
    w.Leads (w.runExpired e l p u) := by
  have idle : w.Leads (w.onUnit l p fun v => { v with run := .idle }) :=
    leads_onUnit (fun _ => ⟨.kept, .kept, .idle, .kept⟩) fun _ => rfl
  exact leads_ite (fun _ => (leads_tryDown _ e l).after idle) fun _ => idle

theorem leads_restExpired {u : PlantUnit} (unit : w.unit l p = some u) : w.Leads (w.restExpired e l p u) := by
  have idle : w.Leads (w.onUnit l p fun v => { v with rest := .idle }) :=
    leads_onUnit (fun _ => ⟨.kept, .kept, .kept, .idle⟩) fun _ => rfl
  refine leads_ite (fun resting => Work.Leads.after ?_ idle) fun _ => idle
  refine leads_enter_off (fun v => timersFollow_refl _ v) (fun v hv => ?_) (by decide) (by decide)
  rw [unit_onUnit_same, unit] at hv
  cases hv
  exact stacked_of_state resting

theorem leads_upExpired (w : Work) (e : SeqEnv) (l : LadderId) :
    w.Leads ((w.onLadder l fun L => { L with up := .idle }).raiseUp e l) :=
  (leads_raiseUp _ e l).after
    (leads_flags (fun _ => rfl) (fun _ => rfl) (fun _ => rfl) (fun _ => rfl) (fun _ => .idle) (fun _ => .kept))

theorem leads_downExpired (w : Work) (e : SeqEnv) (l : LadderId) :
    w.Leads ((w.onLadder l fun L => { L with down := .idle, downPending := true }).actDown e l) :=
  (leads_actDown _ e l).after
    (leads_flags (fun _ => rfl) (fun _ => rfl) (fun _ => rfl) (fun _ => rfl) (fun _ => .kept) (fun _ => .idle))

end

end Sys2Proof.Machine

/-! SUPPORT. What a command can do to a ladder: the moves of the sequencer's work, and beside them the loads, the
rotation, the settings, the hold, the second mark and the reset. A law of ladders is then kept by every step as soon as
each of these changes keeps it. -/

namespace Sys2Proof.Machine

/-! ## The unit a request names (07, R119 to R121) -/

section
variable {s : State} {port : Port} {a b : Octet} {x : NamedUnit}

theorem namedUnit_ok (h : namedUnit a b s = .ok x) : s.unit? x.ladder x.position = some x.unit := by
  unfold namedUnit at h
  split at h
  · cases h
  · split at h
    · cases h
    next hu =>
      cases h
      exact hu

theorem panelUnit_ok (h : panelUnit port a b s = .ok x) :
    s.unit? x.ladder x.position = some x.unit ∧ port = .panel ∧ s.fc.shadow = false := by
  unfold panelUnit at h
  split at h
  · cases h
  next found =>
    split_ifs at h with hport hshadow
    cases h
    refine ⟨namedUnit_ok found, ?_, by simpa using hshadow⟩
    cases port
    · exact absurd rfl hport
    · rfl

theorem guardedUnit_ok (h : guardedUnit port a b s = .ok x) :
    s.unit? x.ladder x.position = some x.unit ∧ ¬ (port = .supervisory ∧ x.unit.guard = .panel) ∧
      s.fc.shadow = false := by
  unfold guardedUnit at h
  split at h
  · cases h
  next found =>
    split_ifs at h with hport hshadow
    cases h
    exact ⟨namedUnit_ok found, hport, by simpa using hshadow⟩

end

/-! ## The changes -/

/-- A change of a ladder: a move of the sequencer's work, or what a request, a second mark or a reset does. -/
inductive Ladder.Change (L : Ladder) : Ladder → Prop
  | move {M : Ladder} (h : L.Move M) : Change L M
  | fills (p : Nat) (r : UnitRequest) (empty : L.unitAt p = none) : Change L (L.setUnit p (some r.fill))
  | empties (p : Nat) (rest : ∀ u, L.unitAt p = some u → u.atRest = true) : Change L (L.setUnit p none)
  | reloads (p : Nat) (k : TimerKind) :
      Change L (L.modUnit p fun u => u.setTimer k ((u.timer k).reload (L.periods.get k)))
  | reloadsUp : Change L { L with up := L.up.reload (L.periods.get .up) }
  | reloadsDown (k : TimerKind) : Change L { L with down := L.down.reload (L.periods.get k) }
  | settles (k : TimerKind) {n : Nat} (low : 1 ≤ n) (high : n ≤ 65535) : Change L { L with periods := L.periods.put k n }
  | holds (b : Bool) : Change L { L with requestHold := b }
  | rotates (quiet : L.hasStarting = false) : Change L L.rotate
  | ticks : Change L L.tick
  | resets (n : Nat) : Change L (.reset n)

/-- Each ladder of the one sequencer comes to that of the other by such changes. -/
def Sequencer.Changes (q r : Sequencer) : Prop :=
  ∀ l, Relation.ReflTransGen Ladder.Change (q.ladder l) (r.ladder l)

section
variable {q r x : Sequencer}

theorem changes_refl (q : Sequencer) : q.Changes q := fun _ => .refl

theorem Sequencer.Changes.trans (h : q.Changes r) (k : r.Changes x) : q.Changes x := fun l => (h l).trans (k l)

theorem Sequencer.Changes.after (k : r.Changes x) (h : q.Changes r) : q.Changes x := h.trans k

theorem changes_of_ladders (h : ∀ l, r.ladder l = q.ladder l) : q.Changes r := fun l => by rw [h l]

theorem changes_setLadder {l : LadderId} {M : Ladder} (h : (q.ladder l).Change M) : q.Changes (q.setLadder l M) := by
  intro m
  by_cases hm : m = l
  · rw [hm, ladder_setLadder]
    exact .single h
  · rw [ladder_setLadder_of_ne _ _ hm]

theorem changes_move (h : q.Move r) : q.Changes r := by
  cases h with
  | ladder l h => exact changes_setLadder (.move h)
  | waits b => exact changes_of_ladders fun l => by cases l <;> rfl

/-- A run of moves is a run of changes of each ladder. -/
theorem changes_of_leads {w v : Work} (h : w.Leads v) : w.seq.Changes v.seq := by
  unfold Work.Leads at h
  generalize w.seq = q at h
  generalize v.seq = r at h
  induction h with
  | refl => exact changes_refl q
  | tail _ move ih => exact ih.trans (changes_move move)

theorem changes_both {x y : Ladder} (hx : Relation.ReflTransGen Ladder.Change q.chillers x)
    (hy : Relation.ReflTransGen Ladder.Change q.pumps y) : q.Changes { q with chillers := x, pumps := y } := by
  intro l
  cases l
  · exact hx
  · exact hy

theorem change_each {L : Ladder} (f : PlantUnit → PlantUnit)
    (timers : ∀ u : PlantUnit, u.TimersFollow L.periods (f u)) (state : ∀ u, (f u).state = u.state) :
    L.Change { L with units := L.units.map (·.map f) } := .move (.each f timers state)

/-- A unit replaced by one in the same state with the same timers. -/
theorem change_keeps {L : Ladder} {p : Nat} {u v : PlantUnit} (unit : L.unitAt p = some u)
    (state : v.state = u.state) (prove : v.prove = u.prove) (stop : v.stop = u.stop) (run : v.run = u.run)
    (rest : v.rest = u.rest) : L.Change (L.setUnit p (some v)) := by
  have replaced : L.setUnit p (some v) = L.modUnit p fun w =>
      { v with state := w.state, prove := w.prove, stop := w.stop, run := w.run, rest := w.rest } := by
    unfold Ladder.modUnit
    rw [unit, Option.map_some, ← state, ← prove, ← stop, ← run, ← rest]
  rw [replaced]
  exact .move (.stays p _ (fun _ => ⟨.kept, .kept, .kept, .kept⟩) fun _ _ => ⟨rfl, id⟩)

end

/-! ## Requests -/

section
variable {s t : State}

theorem changes_sequence {f : SeqEnv → Work → Work} (h : Work.Leads ⟨s.seq, []⟩ (f s.seqEnv ⟨s.seq, []⟩)) :
    s.seq.Changes (s.sequence f).seq := changes_of_leads h

theorem changes_applyUnit (s : State) (l : LadderId) (p : Nat) (r : UnitRequest) :
    s.seq.Changes (applyUnit l p r s).seq := by
  unfold applyUnit
  split
  next empty => exact changes_setLadder (.fills p r empty)
  next unit => exact changes_setLadder (change_keeps unit rfl rfl rfl rfl rfl)

theorem changes_emptyUnit {l : LadderId} {p : Nat} (rest : (s.unit? l p).all (·.atRest) = true) :
    s.seq.Changes (emptyUnit l p s).seq := by
  unfold emptyUnit
  split
  · exact changes_refl _
  · refine changes_setLadder (.empties p fun u hu => ?_)
    rw [show s.unit? l p = some u from hu] at rest
    exact rest

theorem changes_serveUnitLoad (s : State) (p : Port) (b : UnitLoadBody) :
    s.seq.Changes (serveUnitLoad p b s).1.seq := by
  unfold serveUnitLoad
  split
  · exact changes_refl _
  · split
    · exact changes_refl _
    · split_ifs with _ _ rest
      · exact changes_refl _
      · exact changes_emptyUnit rest
      · exact changes_refl _
      · split
        · exact changes_refl _
        · exact changes_applyUnit s _ _ _

theorem changes_setHold (q : Sequencer) (sel : Bool × Bool) (b : Bool) : q.Changes (q.setHold sel b) := by
  refine changes_both ?_ ?_
  · split_ifs
    · exact .single (.holds b)
    · exact .refl
  · split_ifs
    · exact .single (.holds b)
    · exact .refl

theorem changes_serveTimerPeriodSet (s : State) (l k : Octet) (n : Half) :
    s.seq.Changes (serveTimerPeriodSet l k n s).1.seq := by
  unfold serveTimerPeriodSet
  split
  · exact changes_refl _
  · split
    · exact changes_refl _
    next kind _ =>
      have high : max 1 n.toNat ≤ 65535 := by have := n.isLt; omega
      exact changes_setLadder (.settles kind (Nat.le_max_left 1 n.toNat) high)

theorem changes_reloadLadderTimer (s : State) (l : LadderId) (k : TimerKind) :
    s.seq.Changes (reloadLadderTimer l k s).1.seq := by
  unfold reloadLadderTimer
  dsimp only
  split
  · split
    · exact changes_setLadder .reloadsUp
    · exact changes_refl _
  · split
    · exact changes_setLadder (.reloadsDown _)
    · exact changes_refl _

theorem changes_reloadUnitTimer (s : State) (port : Port) (l : LadderId) (p : Nat) (k : TimerKind) :
    s.seq.Changes (reloadUnitTimer port l p k s).1.seq := by
  unfold reloadUnitTimer
  split
  · exact changes_refl _
  next u unit =>
    split_ifs
    · exact changes_refl _
    · exact changes_refl _
    · have replaced : (s.seq.ladder l).setUnit p
          (some (u.setTimer k ((u.timer k).reload ((s.seq.ladder l).periods.get k)))) =
          (s.seq.ladder l).modUnit p fun u => u.setTimer k ((u.timer k).reload ((s.seq.ladder l).periods.get k)) := by
        unfold Ladder.modUnit
        rw [show (s.seq.ladder l).unitAt p = some u from unit]
        rfl
      dsimp only [State.setUnit]
      rw [replaced]
      exact changes_setLadder (.reloads _ _)

theorem changes_serveTimerReload (s : State) (p : Port) (l q k : Octet) :
    s.seq.Changes (serveTimerReload p l q k s).1.seq := by
  unfold serveTimerReload
  split
  · exact changes_refl _
  · split
    · exact changes_reloadLadderTimer s _ _
    · split
      · exact changes_refl _
      · split
        · exact changes_refl _
        · exact changes_reloadUnitTimer s p _ _ _

/-- A unit in a state that is neither STARTING nor RUNNING is off the stack. -/
theorem off_of_state {u : PlantUnit} {st : UnitState} (h : u.state = st) (hs : st ≠ .starting) (hr : st ≠ .running) :
    u.stacked = false := by
  rw [stacked_of_state h]
  simp [hs, hr]

theorem changes_of_servedUnit {p : Port} {r : State × Reply} (h : ServedUnit p s r) : s.seq.Changes r.1.seq := by
  cases h with
  | load b => exact changes_serveUnitLoad s p b
  | stageHold o =>
    unfold serveStageHold
    split
    · exact changes_refl _
    · exact changes_setHold _ _ _
  | stageFree o =>
    unfold serveStageFree
    split
    · exact changes_refl _
    · exact changes_setHold _ _ _
  | hand l q d =>
    unfold serveUnitHand
    repeat' split
    any_goals exact changes_refl _
    all_goals exact changes_sequence (leads_takeInHand _ _ _ _)
  | auto l q =>
    unfold serveUnitAuto
    split
    · exact changes_refl _
    next found =>
      split
      next hst =>
        exact changes_sequence (leads_takeOutOfHand (panelUnit_ok found).1 (off_of_state hst (by simp) (by simp)))
      · exact changes_refl _
  | clear l q =>
    unfold serveUnitClear
    split
    · exact changes_refl _
    next found =>
      split
      next hst =>
        split
        · exact changes_refl _
        · exact changes_sequence (leads_clearTrip (guardedUnit_ok found).1 (off_of_state hst (by simp) (by simp)))
      · exact changes_refl _
  | disable l q =>
    unfold serveUnitDisable
    split
    · exact changes_refl _
    next found =>
      have out := fun off => changes_sequence (s := s) (f := fun e w => w.enter e _ _ .out none id)
        (leads_disable (guardedUnit_ok found).1 off)
      split
      next hst => exact out (off_of_state hst (by simp) (by simp))
      next hst => exact out (off_of_state hst (by simp) (by simp))
      next hst => exact out (off_of_state hst (by simp) (by simp))
      · exact changes_refl _
  | enable l q =>
    unfold serveUnitEnable
    split
    · exact changes_refl _
    next found =>
      split
      next hst => exact changes_sequence (leads_enable (guardedUnit_ok found).1 (off_of_state hst (by simp) (by simp)))
      · exact changes_refl _
  | periodSet l k n => exact changes_serveTimerPeriodSet s l k n
  | reload l q k => exact changes_serveTimerReload s p l q k

theorem changes_setLatch (s : State) (n : Nat) (d : Int) : s.seq.Changes (s.setLatch n d).seq := by
  unfold State.setLatch
  split
  · exact changes_refl _
  · exact Sequencer.Changes.after (changes_sequence (leads_stopAll _ _)) (changes_refl _)

theorem changes_updateHold (s : State) : s.seq.Changes s.updateHold.seq :=
  changes_of_ladders fun l => by cases l <;> rfl

theorem changes_takeEdge (s : State) (n : Nat) (c : Channel) (high : Bool) (position : Option Nat) :
    s.seq.Changes (takeEdge n c high position s).seq := by
  have held := changes_updateHold (({ s with inputs := s.inputs.setChannel n (c.captured s.fc.count position high) } :
    State).notes [⟨.capture, channelSubject n, captureDetail c high⟩])
  unfold takeEdge
  dsimp only
  split
  · exact (changes_setLatch _ _ _).after held
  · exact held

theorem changes_takeLevel (s : State) (n : Nat) (high : Bool) (position : Option Nat) :
    s.seq.Changes (takeLevel n high position s).seq := by
  unfold takeLevel
  split
  · exact changes_refl _
  · split_ifs
    · exact changes_refl _
    · exact changes_takeEdge s _ _ _ _
    · exact changes_updateHold { s with inputs := _ }

theorem changes_sampleSlow (s : State) : s.seq.Changes (sampleSlow s).seq :=
  (changes_takeLevel s _ _ _).trans (changes_takeLevel _ _ _ _)

theorem changes_inputEdge (s : State) (n : Nat) (high : Bool) : s.seq.Changes (inputEdge n high s).seq := by
  unfold inputEdge
  dsimp only
  split
  · exact changes_refl _
  · exact Sequencer.Changes.after (changes_takeLevel _ _ _ _) (changes_refl _)

theorem changes_of_servedInput {p : Port} {r : State × Reply} (h : ServedInput p s r) : s.seq.Changes r.1.seq := by
  cases h with
  | channelSet n e a =>
    unfold serveChannelSet
    repeat' split
    any_goals exact changes_refl _
    dsimp only
    split
    · exact (changes_setLatch _ _ _).after (changes_updateHold { s with inputs := _ })
    · exact changes_updateHold { s with inputs := _ }
  | readCapture n =>
    unfold serveReadCapture
    repeat' split
    all_goals exact changes_refl _
  | releaseStop =>
    unfold serveReleaseStop
    split_ifs
    all_goals exact changes_refl _

theorem writeSetpoint_timers (x : Periods) (v : Nat) (u : PlantUnit) : u.TimersFollow x (u.writeSetpoint v) := by
  unfold PlantUnit.writeSetpoint
  split <;> exact ⟨.kept, .kept, .kept, .kept⟩

theorem writeSetpoint_state (v : Nat) (u : PlantUnit) : (u.writeSetpoint v).state = u.state := by
  unfold PlantUnit.writeSetpoint
  split <;> rfl

theorem changes_writePumps (s : State) : s.seq.Changes s.writePumps.seq :=
  changes_both .refl (.single (change_each _ (writeSetpoint_timers _ _) (writeSetpoint_state _)))

theorem changes_serveLadderRotate (s : State) (p : Port) (o : Octet) :
    s.seq.Changes (serveLadderRotate p o s).1.seq := by
  unfold serveLadderRotate
  split
  · exact changes_refl _
  · dsimp only
    split_ifs with _ starting
    · exact changes_refl _
    · exact changes_refl _
    · exact changes_setLadder (.rotates (by simpa using starting))

theorem changes_servePlantLimitsSet (s : State) (b : LimitsBody) : s.seq.Changes (servePlantLimitsSet b s).1.seq := by
  unfold servePlantLimitsSet
  dsimp only
  split
  · exact changes_refl _
  · split
    · exact changes_refl _
    · have header : ∀ u : State, (applyHeader b.headerAddress u).seq = u.seq := fun u => by rw [applyHeader_frame]
      dsimp only [applySetpoint]
      split
      · exact changes_of_ladders fun l => by rw [header]
      · refine (changes_writePumps _).after (changes_of_ladders fun l => ?_)
        dsimp only
        rw [header]

theorem changes_goLive (s : State) : s.seq.Changes (goLive s).seq := by
  refine changes_of_leads (w := ⟨s.seq, []⟩) ?_
  exact leads_ite (fun _ => (leads_stopAll _ _).after (leads_goLive _)) fun _ => leads_goLive _

theorem changes_served {p : Port} {r : State × Reply} (served : Served p s r) : s.seq.Changes r.1.seq := by
  cases served with
  | nothing hr => rw [hr]; exact changes_refl _
  | branch hr => rw [(storeOnly_of_servedBranch s hr).frame]; exact changes_refl _
  | schedule hr => rw [(storeOnly_of_servedSchedule s hr).frame]; exact changes_refl _
  | unit hr => exact changes_of_servedUnit hr
  | input hr => exact changes_of_servedInput hr
  | rotate o => exact changes_serveLadderRotate s p o
  | slotMap first count es => rw [serveSlotMapWrite_frame]; exact changes_refl _
  | cycleSet n => exact changes_refl _
  | fieldPass tag a os =>
    rcases serveFieldPass_cases s p tag a os with same | ⟨-, -, queued⟩
    · rw [same]; exact changes_refl _
    · rw [queued, State.queuePass, setPort_seq]; exact changes_refl _
  | limits b => exact changes_servePlantLimitsSet s b
  | goLive =>
    unfold serveGoLive
    split_ifs
    · exact changes_refl _
    · exact changes_refl _
    · exact changes_refl _
    · exact changes_goLive s
  | snapshot => exact changes_refl _
  | readEvents => exact changes_refl _

/-! ## Cycle start, warm restart, events -/

theorem changes_beginCycle (s : State) : s.seq.Changes (beginCycle s).seq := by
  have counted : (countCycle s).seq = s.seq := by
    unfold countCycle
    dsimp only
    split <;> rfl
  have fixed : ∀ u : State, (fixPeriod u).seq = u.seq := by
    intro u
    unfold fixPeriod
    dsimp only
    split_ifs <;> rfl
  have latched : s.seq.Changes (latchCycle (countCycle s)).seq := by
    change s.seq.Changes (countCycle s).seq.cycleStart
    rw [counted]
    exact changes_both
      (.single (change_each PlantUnit.cycleStart (fun _ => ⟨.kept, .kept, .kept, .kept⟩) fun _ => rfl))
      (.single (change_each PlantUnit.cycleStart (fun _ => ⟨.kept, .kept, .kept, .kept⟩) fun _ => rfl))
  refine (changes_sampleSlow _).after ?_
  unfold startCycle
  rw [fixed]
  exact latched

theorem restart_timers (shadow : Bool) (x : Periods) (u : PlantUnit) : u.TimersFollow x (u.restart shadow x) := by
  have choice : ∀ (c : Prop) [Decidable c] (n : Nat) (t : Timer),
      Timer.Follows n t (if c then .start n else .idle) := by
    intro c _ n t
    split
    · exact .started
    · exact .idle
  unfold PlantUnit.restart
  cases shadow
  · exact ⟨choice _ _ _, choice _ _ _, choice _ _ _, choice _ _ _⟩
  · exact ⟨.kept, .kept, .kept, .kept⟩

theorem restart_state (shadow : Bool) (x : Periods) (u : PlantUnit) : (u.restart shadow x).state = u.state := by
  unfold PlantUnit.restart
  cases shadow <;> rfl

theorem changes_restartSequencer (s : State) : s.seq.Changes (restartSequencer s).seq := by
  have restarted : ∀ L : Ladder, Relation.ReflTransGen Ladder.Change L (L.restart s.fc.shadow) := by
    intro L
    have units : L.Change { L with units := L.units.map (·.map (PlantUnit.restart s.fc.shadow L.periods)) } :=
      change_each _ (restart_timers _ _) (restart_state _ _)
    refine (Relation.ReflTransGen.single units).tail ?_
    exact .move (.flags rfl rfl rfl rfl .idle .idle)
  intro l
  cases l
  · exact restarted _
  · exact restarted _

theorem changes_warmRestart (s : State) (p : Port) : s.seq.Changes (warmRestart p s).seq := by
  unfold warmRestart
  refine (changes_beginCycle _).after ?_
  rw [abortPasses_frame]
  dsimp only
  rw [(storeOnly_evaluateMode _).frame]
  exact changes_restartSequencer (restartTable (s.notes [⟨.warmRestart, linkSubject, portNumber p⟩]))

theorem changes_taken {p : Port} (taken : Taken p s t) : s.seq.Changes t.seq := by
  cases taken with
  | answered tag kind served =>
    rw [answer_eq, hand_seq]
    exact changes_served served
  | restarted tag =>
    refine (changes_warmRestart _ p).after (changes_of_ladders fun l => ?_)
    rw [answer_eq, hand_seq]

theorem changes_handReply {os : List Octet} {w : WindowTarget} (h : handReply s os w = some t) :
    s.seq.Changes t.seq := by
  unfold handReply at h
  split at h
  · split at h
    · cases h; exact changes_refl _
    · obtain ⟨r, -, rfl⟩ := Option.map_eq_some_iff.mp h
      exact changes_refl _
  · split at h
    · cases h; exact changes_refl _
    next unit =>
      obtain ⟨r, -, rfl⟩ := Option.map_eq_some_iff.mp h
      exact changes_setLadder (change_keeps unit rfl rfl rfl rfl rfl)
  · split at h
    · cases h; exact changes_refl _
    · obtain ⟨r, -, rfl⟩ := Option.map_eq_some_iff.mp h
      exact changes_refl _
  · cases h; exact changes_refl _

theorem changes_fieldReply (s : State) (os : List Octet) : s.seq.Changes (fieldReply os s).seq := by
  unfold fieldReply
  split
  · exact changes_refl _
  · split
    · split
      · exact changes_refl _
      · exact changes_refl _
      · unfold takeGood
        dsimp only
        split
        next handed =>
          have changes := changes_handReply handed
          exact changes
        · exact changes_refl _
    · exact changes_refl _
    · exact changes_refl _

theorem changes_readingsClosed (s : State) : s.seq.Changes (readingsClosed s).seq := by
  unfold readingsClosed
  rw [(storageClosed_header_seq _ _ _).2]
  have pumps : s.seq.Changes (pressureClosed (monitorTable (meterTable s.fc.pEff (closeTable s)))).seq :=
    changes_both .refl (.single (change_each _ (writeSetpoint_timers _ _) (writeSetpoint_state _)))
  refine Sequencer.Changes.after ?_ pumps
  generalize pressureClosed (monitorTable (meterTable s.fc.pEff (closeTable s))) = u
  refine changes_of_leads (w := ⟨u.seq, []⟩) ?_
  exact (leads_evaluate _ _ _).after ((leads_writeSupply _ _).after
    ((leads_judgeAll u.seq _ _).after (leads_closeUnits _ u.limits)))

theorem changes_event (event : Event s t) : s.seq.Changes t.seq := by
  cases event with
  | cycleStart _ => exact changes_beginCycle s
  | mappedSlot => rw [fieldOnly_mappedSlot s]; exact changes_refl _
  | fieldReply os => exact changes_fieldReply s os
  | windowClose =>
    rcases windowClose_cases s with same | ⟨w, m, -, -, closed⟩ | ⟨e, st, os, -, ended⟩
    · rw [same]; exact changes_refl _
    · rw [closed]; exact changes_refl _
    · rw [ended, deferred_seq]; exact changes_refl _
  | openSlot => rw [fieldOnly_openSlot s]; exact changes_refl _
  | cycleEnd _ => exact changes_readingsClosed (endCycle s)
  | secondMark => exact changes_both (.single .ticks) (.single .ticks)
  | proveExpiry unit _ => exact changes_sequence (leads_proveExpired unit)
  | stopExpiry _ _ => exact changes_sequence (leads_stopExpired _ _ _ _ _)
  | runExpiry _ _ => exact changes_sequence (leads_runExpired _ _ _ _ _)
  | restExpiry unit _ => exact changes_sequence (leads_restExpired unit)
  | upExpiry _ => exact changes_sequence (leads_upExpired _ _ _)
  | downExpiry _ => exact changes_sequence (leads_downExpired _ _ _)
  | windowBoundary _ => rw [(storeOnly_evaluateMode _).frame]; exact changes_refl _

/-- Whatever a command does to a ladder is a run of these changes. -/
theorem changes_does (does : Does s t) : s.seq.Changes t.seq := by
  cases does with
  | idles => exact changes_refl _
  | logs _ => rw [setPort_seq]; exact changes_refl _
  | takes _ _ _ taken =>
    have := changes_taken taken
    rwa [setPort_seq] at this
  | sends p => rw [setPort_seq]; exact changes_refl _
  | event _ event => exact changes_event event
  | edge n high => exact changes_inputEdge s n high
  | coldReset => exact fun l => by cases l <;> exact .single (.resets _)
  | release shadow rate _ => exact changes_beginCycle { s with
      rst := false, inputs := _, supervisory := _, panel := _, fc := { s.fc with shadow := shadow, rate := rate } }

end

/-- A law of ladders that every change keeps is kept by every step. -/
theorem step_keeps_ladders {P : Ladder → Prop} (keeps : ∀ L M : Ladder, P L → L.Change M → P M) {s t : State}
    (hs : P s.seq.chillers ∧ P s.seq.pumps) (h : step s = .next t) : P t.seq.chillers ∧ P t.seq.pumps := by
  have run : ∀ {L M : Ladder}, Relation.ReflTransGen Ladder.Change L M → P L → P M := by
    intro L M changes hL
    induction changes with
    | refl => exact hL
    | tail _ change ih => exact keeps _ _ ih change
  refine step_keeps (P := fun u => P u.seq.chillers ∧ P u.seq.pumps) (fun _ _ k => k) (fun u v k does => ?_) hs h
  exact ⟨run (changes_does does .chiller) k.1, run (changes_does does .pump) k.2⟩

end Sys2Proof.Machine

/-! SUPPORT. Three laws of every step: the ranges of the timers (08, R134), the limits and the setpoint (05, R78), the
start stacks (06, R105). Those of the ladders are seen change by change. -/

namespace Sys2Proof.Machine

/-! ## Timers in their ranges -/

theorem periods_get_put (x : Periods) (k m : TimerKind) (n : Nat) :
    (x.put k n).get m = if m = k then n else x.get m := by
  cases k <;> cases m <;> rfl

theorem periods_put_inRange {x : Periods} (h : x.InRange) {n : Nat} (low : 1 ≤ n) (high : n ≤ 65535) (k : TimerKind) :
    (x.put k n).InRange := by
  intro m
  rw [periods_get_put]
  split_ifs
  · exact ⟨low, high⟩
  · exact h m

theorem follows_inRange {n : Nat} {t u : Timer} (ht : t.InRange) (hn : 1 ≤ n ∧ n ≤ 65535) (h : Timer.Follows n t u) :
    u.InRange := by
  cases h with
  | kept => exact ht
  | idle => trivial
  | started => exact timer_start_inRange hn.1 hn.2
  | again hc =>
    rw [hc] at ht
    obtain ⟨-, low, high, -⟩ := ht
    exact ⟨Nat.le_refl _, low, high, .inr rfl⟩

/-- The four timers of a unit are in range. -/
def PlantUnit.TimersInRange (u : PlantUnit) : Prop :=
  u.prove.InRange ∧ u.stop.InRange ∧ u.run.InRange ∧ u.rest.InRange

theorem timersFollow_inRange {x : Periods} (hx : x.InRange) {u v : PlantUnit} (hu : u.TimersInRange)
    (h : u.TimersFollow x v) : v.TimersInRange := by
  obtain ⟨prove, stop, run, rest⟩ := hu
  exact ⟨follows_inRange prove (hx .prove) h.prove, follows_inRange stop (hx .stop) h.stop,
    follows_inRange run (hx .run) h.run, follows_inRange rest (hx .rest) h.rest⟩

theorem timersInRange_iff (L : Ladder) :
    L.TimersInRange ↔
      L.periods.InRange ∧ L.up.InRange ∧ L.down.InRange ∧ ∀ p u, L.unitAt p = some u → u.TimersInRange := by
  constructor
  · rintro ⟨settings, ⟨up, down⟩, units⟩
    exact ⟨settings, up, down, fun p u hu => units u ((mem_units_iff L).mpr ⟨p, hu⟩)⟩
  · rintro ⟨settings, up, down, units⟩
    refine ⟨settings, ⟨up, down⟩, fun u hu => ?_⟩
    obtain ⟨p, hp⟩ := (mem_units_iff L).mp hu
    exact units p u hp

/-- A rotated unit stood on the ladder before. -/
theorem unitAt_of_rotate {L : Ladder} {q : Nat} {u : PlantUnit} (h : L.rotate.unitAt q = some u) :
    ∃ p ∈ L.occupied, movedTo (rotation L.occupied) p = q ∧ L.unitAt p = some u := by
  by_cases hq : q ∈ L.occupied
  · obtain ⟨p, hp, rfl⟩ := exists_movedTo (occupied_nodup L) hq
    exact ⟨p, hp, rfl, by rwa [unitAt_rotate_movedTo L hp] at h⟩
  · rw [unitAt_rotate_of_not_mem L hq] at h
    cases h

theorem units_inRange_modUnit {L : Ladder} {P : PlantUnit → Prop} (h : ∀ p u, L.unitAt p = some u → P u) {p : Nat}
    {f : PlantUnit → PlantUnit} (hf : ∀ u, L.unitAt p = some u → P (f u)) {q : Nat} {v : PlantUnit}
    (hv : (L.modUnit p f).unitAt q = some v) : P v := by
  by_cases hq : q = p
  · rw [hq, unitAt_modUnit_same] at hv
    obtain ⟨u, hu, rfl⟩ := Option.map_eq_some_iff.mp hv
    exact hf u hu
  · rw [unitAt_modUnit_other _ hq] at hv
    exact h q v hv

theorem timersInRange_move {L M : Ladder} (h : L.TimersInRange) (move : L.Move M) : M.TimersInRange := by
  rw [timersInRange_iff] at h ⊢
  obtain ⟨settings, up, down, units⟩ := h
  have follow : ∀ {f : PlantUnit → PlantUnit}, (∀ u : PlantUnit, u.TimersFollow L.periods (f u)) → ∀ {p u},
      L.unitAt p = some u → (f u).TimersInRange := fun timers _ _ hu =>
    timersFollow_inRange settings (units _ _ hu) (timers _)
  cases move with
  | flags hu _ hp _ hup hdown =>
    refine ⟨hp ▸ settings, follows_inRange up (settings .up) hup, follows_inRange down (settings .down) hdown, ?_⟩
    intro p u h
    have same : M.unitAt p = L.unitAt p := by cases p <;> simp only [Ladder.unitAt, hu]
    exact units p u (same ▸ h)
  | each f timers _ =>
    refine ⟨settings, up, down, fun p v hv => ?_⟩
    rw [unitAt_map] at hv
    obtain ⟨u, hu, rfl⟩ := Option.map_eq_some_iff.mp hv
    exact follow timers hu
  | stays p f timers _ =>
    rw [modUnit_periods, modUnit_up, modUnit_down]
    exact ⟨settings, up, down, fun q v hv => units_inRange_modUnit units (fun u hu => follow timers hu) hv⟩
  | leaves p f timers _ =>
    change (L.modUnit p f).periods.InRange ∧ (L.modUnit p f).up.InRange ∧ (L.modUnit p f).down.InRange ∧ _
    rw [modUnit_periods, modUnit_up, modUnit_down]
    exact ⟨settings, up, down, fun q v hv => units_inRange_modUnit units (fun u hu => follow timers hu) hv⟩
  | enters p f timers _ _ _ _ =>
    change (L.modUnit p f).periods.InRange ∧ (L.modUnit p f).up.InRange ∧ (L.modUnit p f).down.InRange ∧ _
    rw [modUnit_periods, modUnit_up, modUnit_down]
    exact ⟨settings, up, down, fun q v hv => units_inRange_modUnit units (fun u hu => follow timers hu) hv⟩

theorem setTimer_inRange {u : PlantUnit} (h : u.TimersInRange) (k : TimerKind) {n : Nat} (hn : 1 ≤ n ∧ n ≤ 65535) :
    (u.setTimer k ((u.timer k).reload n)).TimersInRange := by
  obtain ⟨prove, stop, run, rest⟩ := h
  cases k with
  | prove => exact ⟨timer_reload_inRange prove hn.1 hn.2, stop, run, rest⟩
  | stop => exact ⟨prove, timer_reload_inRange stop hn.1 hn.2, run, rest⟩
  | run => exact ⟨prove, stop, timer_reload_inRange run hn.1 hn.2, rest⟩
  | rest => exact ⟨prove, stop, run, timer_reload_inRange rest hn.1 hn.2⟩
  | up => exact ⟨prove, stop, run, rest⟩
  | down => exact ⟨prove, stop, run, rest⟩

theorem timersInRange_setUnit {L : Ladder} (h : L.TimersInRange) (p : Nat) {o : Option PlantUnit}
    (ho : ∀ u, o = some u → u.TimersInRange) : (L.setUnit p o).TimersInRange := by
  rw [timersInRange_iff] at h ⊢
  obtain ⟨settings, up, down, units⟩ := h
  refine ⟨by cases p <;> exact settings, by cases p <;> exact up, by cases p <;> exact down, fun q v hv => ?_⟩
  rw [unitAt_setUnit] at hv
  split_ifs at hv
  · exact ho v hv
  · exact units q v hv

theorem timersInRange_change {L M : Ladder} (h : L.TimersInRange) (change : L.Change M) : M.TimersInRange := by
  obtain ⟨settings, ⟨up, down⟩, units⟩ := h
  cases change with
  | move move => exact timersInRange_move ⟨settings, ⟨up, down⟩, units⟩ move
  | fills p r _ =>
    refine timersInRange_setUnit ⟨settings, ⟨up, down⟩, units⟩ p fun u hu => ?_
    cases hu
    exact ⟨trivial, trivial, trivial, trivial⟩
  | empties p _ => exact timersInRange_setUnit ⟨settings, ⟨up, down⟩, units⟩ p fun u hu => by cases hu
  | reloads p k =>
    have read := (timersInRange_iff L).mp ⟨settings, ⟨up, down⟩, units⟩
    refine timersInRange_setUnit ⟨settings, ⟨up, down⟩, units⟩ p fun v hv => ?_
    obtain ⟨u, hu, rfl⟩ := Option.map_eq_some_iff.mp hv
    exact setTimer_inRange (read.2.2.2 p u hu) k (settings k)
  | reloadsUp => exact ⟨settings, ⟨timer_reload_inRange up (settings .up).1 (settings .up).2, down⟩, units⟩
  | reloadsDown k => exact ⟨settings, ⟨up, timer_reload_inRange down (settings k).1 (settings k).2⟩, units⟩
  | settles k low high => exact ⟨periods_put_inRange settings low high k, ⟨up, down⟩, units⟩
  | holds b => exact ⟨settings, ⟨up, down⟩, units⟩
  | rotates _ =>
    have read := (timersInRange_iff L).mp ⟨settings, ⟨up, down⟩, units⟩
    rw [timersInRange_iff]
    refine ⟨settings, up, down, fun q u hu => ?_⟩
    obtain ⟨p, -, -, hp⟩ := unitAt_of_rotate hu
    exact read.2.2.2 p u hp
  | ticks =>
    have read := (timersInRange_iff L).mp ⟨settings, ⟨up, down⟩, units⟩
    rw [timersInRange_iff]
    refine ⟨settings, timer_tick_inRange up, timer_tick_inRange down, fun p v hv => ?_⟩
    have at_p : L.tick.unitAt p = (L.unitAt p).map PlantUnit.tick := unitAt_map L PlantUnit.tick p
    rw [at_p] at hv
    obtain ⟨u, hu, rfl⟩ := Option.map_eq_some_iff.mp hv
    obtain ⟨prove, stop, run, rest⟩ := read.2.2.2 p u hu
    exact ⟨timer_tick_inRange prove, timer_tick_inRange stop, timer_tick_inRange run, timer_tick_inRange rest⟩
  | resets n => exact timersInRange_reset n

/-! ## The limits and the setpoint -/

/-- Limits after both steps of R89 are lawful, when DP_min has not come out above DP_max. -/
theorem related_lawful {x : Limits} (h : ¬ x.ranged.dpMax < x.ranged.dpMin) : x.ranged.related.Lawful := by
  simp only [Limits.ranged] at h
  constructor <;> simp only [Limits.related, Limits.ranged, clamp] <;> omega

/-- The limits in force are lawful and the setpoint lies within them. -/
def State.LimitsMet (s : State) : Prop := s.limits.Lawful ∧ SetpointWithin s

section
variable {s t : State}

theorem limitsMet_of_eq (h : s.LimitsMet) (hl : t.limits = s.limits) (hp : t.press.setpoint = s.press.setpoint) :
    t.LimitsMet := by
  obtain ⟨lawful, within⟩ := h
  unfold State.LimitsMet SetpointWithin
  rw [hl, hp]
  exact ⟨lawful, within⟩

theorem applyHeader_keeps (a : Octet) (s : State) :
    (applyHeader a s).limits = s.limits ∧ (applyHeader a s).press = s.press := by
  rw [applyHeader_frame]
  exact ⟨rfl, rfl⟩

theorem applySetpoint_setpoint (s : State) :
    (applySetpoint s).limits = s.limits ∧
      (applySetpoint s).press.setpoint = clamp s.limits.dpMin s.limits.dpMax s.press.setpoint := by
  unfold applySetpoint
  dsimp only
  split
  next same => exact ⟨rfl, same.symm⟩
  · exact ⟨rfl, rfl⟩

theorem limitsMet_servePlantLimitsSet (h : s.LimitsMet) (b : LimitsBody) : (servePlantLimitsSet b s).1.LimitsMet := by
  unfold servePlantLimitsSet
  dsimp only
  split
  · exact h
  next ordered =>
    split
    · exact h
    · have lawful := related_lawful ordered
      obtain ⟨hl, -⟩ := applyHeader_keeps b.headerAddress { s with limits := (carriedLimits b).ranged.related }
      obtain ⟨hl', hp'⟩ := applySetpoint_setpoint
        (applyHeader b.headerAddress { s with limits := (carriedLimits b).ranged.related })
      unfold State.LimitsMet SetpointWithin
      dsimp only
      rw [hp', hl', hl]
      exact ⟨lawful, le_clamp _ _ _, clamp_le _ lawful.pressures.1⟩

/-- The judgement at readings-closed leaves the setpoint, or ramps it and holds it within the limits. -/
theorem judgePressure_setpoint (count : CycleCount) (lim : Limits) (header : Option Header)
    (bs : List (Option Branch)) (q : Pressure) :
    (judgePressure count lim header bs q).1.setpoint = q.setpoint ∨
      ∃ target, (judgePressure count lim header bs q).1.setpoint = nextSetpoint lim q.setpoint target := by
  unfold judgePressure
  dsimp only
  split
  · exact .inl rfl
  · dsimp only
    split
    · exact .inr ⟨_, rfl⟩
    · exact .inr ⟨_, rfl⟩

theorem readingsClosed_press (s : State) :
    (readingsClosed s).press =
      (pressureClosed (monitorTable (meterTable s.fc.pEff (closeTable s)))).press := by
  unfold readingsClosed
  exact (congrArg State.press (storeOnly_storageClosed _ _ _).frame :)

theorem limitsMet_readingsClosed (h : s.LimitsMet) : (readingsClosed s).LimitsMet := by
  obtain ⟨lawful, within⟩ := h
  have limits : (readingsClosed s).limits = s.limits :=
    (congrArg State.limits (closingOnly_readingsClosed s).frame :)
  refine ⟨limits ▸ lawful, ?_⟩
  unfold SetpointWithin
  rw [limits, readingsClosed_press]
  obtain same | ⟨target, next⟩ := judgePressure_setpoint s.fc.count s.limits
    (monitorTable (meterTable s.fc.pEff (closeTable s))).header
    (monitorTable (meterTable s.fc.pEff (closeTable s))).branches s.press
  · change s.limits.dpMin ≤ (judgePressure s.fc.count s.limits _ _ s.press).1.setpoint ∧
      (judgePressure s.fc.count s.limits _ _ s.press).1.setpoint ≤ s.limits.dpMax
    rw [same]
    exact within
  · change s.limits.dpMin ≤ (judgePressure s.fc.count s.limits _ _ s.press).1.setpoint ∧
      (judgePressure s.fc.count s.limits _ _ s.press).1.setpoint ≤ s.limits.dpMax
    rw [next]
    exact nextSetpoint_within lawful.pressures.1 _ _

theorem limitsMet_served {p : Port} {r : State × Reply} (h : s.LimitsMet) (served : Served p s r) : r.1.LimitsMet := by
  cases served with
  | nothing hr => rw [hr]; exact h
  | branch hr => rw [(storeOnly_of_servedBranch s hr).frame]; exact h
  | schedule hr => rw [(storeOnly_of_servedSchedule s hr).frame]; exact h
  | unit hr => rw [(seqOnly_of_servedUnit s hr).frame]; exact h
  | input hr => rw [(inputOnly_of_servedInput s hr).frame]; exact h
  | rotate o => rw [serveLadderRotate_frame]; exact h
  | slotMap first count es => rw [serveSlotMapWrite_frame]; exact h
  | cycleSet n => exact h
  | fieldPass tag a os =>
    rcases serveFieldPass_cases s p tag a os with same | ⟨-, -, queued⟩
    · rw [same]; exact h
    · rw [queued]
      exact limitsMet_of_eq h (setPort_limits _ _ _) (congrArg Pressure.setpoint (setPort_press _ _ _))
  | limits b => exact limitsMet_servePlantLimitsSet h b
  | goLive => rw [serveGoLive_frame]; exact h
  | snapshot => exact h
  | readEvents => exact h

theorem limitsMet_setPort (h : s.LimitsMet) (p : Port) (x : LinkPort) : (s.setPort p x).LimitsMet :=
  limitsMet_of_eq h (setPort_limits _ _ _) (congrArg Pressure.setpoint (setPort_press _ _ _))

theorem limitsMet_reset : State.reset.LimitsMet := ⟨limitsLawful_reset, by decide, by decide⟩

theorem limitsMet_warmRestart (h : s.LimitsMet) (p : Port) : (warmRestart p s).LimitsMet :=
  limitsMet_of_eq h (congrArg State.limits (restartOnly_warmRestart s p) :)
    (congrArg (fun u : State => u.press.setpoint) (restartOnly_warmRestart s p) :)

theorem limitsMet_taken {p : Port} (h : s.LimitsMet) (taken : Taken p s t) : t.LimitsMet := by
  cases taken with
  | answered tag kind served => exact limitsMet_setPort (limitsMet_served h served) _ _
  | restarted tag =>
    exact limitsMet_warmRestart (limitsMet_setPort h p _) p

theorem limitsMet_event (h : s.LimitsMet) (event : Event s t) : t.LimitsMet := by
  cases event with
  | cycleStart _ => rw [startOnly_beginCycle s]; exact h
  | mappedSlot => rw [fieldOnly_mappedSlot s]; exact h
  | fieldReply os => rw [fieldReply_frame s os]; exact h
  | windowClose =>
    rcases windowClose_cases s with same | ⟨w, m, -, -, closed⟩ | ⟨e, st, os, -, ended⟩
    · rw [same]; exact h
    · rw [closed]; exact h
    · rw [ended, deferred_frame]; exact h
  | openSlot => rw [fieldOnly_openSlot s]; exact h
  | cycleEnd _ => exact limitsMet_readingsClosed (s := endCycle s) h
  | secondMark => exact h
  | proveExpiry _ _ => exact h
  | stopExpiry _ _ => exact h
  | runExpiry _ _ => exact h
  | restExpiry _ _ => exact h
  | upExpiry _ => exact h
  | downExpiry _ => exact h
  | windowBoundary _ => rw [(storeOnly_evaluateMode _).frame]; exact h

theorem limitsMet_does (h : s.LimitsMet) (does : Does s t) : t.LimitsMet := by
  cases does with
  | idles => exact h
  | logs _ => exact limitsMet_setPort h _ _
  | takes _ _ _ taken => exact limitsMet_taken (limitsMet_setPort h _ _) taken
  | sends p => exact limitsMet_setPort h _ _
  | event _ event => exact limitsMet_event h event
  | edge n high => rw [(inputOnly_inputEdge s n high).frame]; exact h
  | coldReset => exact limitsMet_reset
  | release shadow rate _ => rw [releaseReset, startOnly_beginCycle]; exact h

end

/-- Settles O54: the limits and the setpoint over what a command does, the timers over the changes of a ladder. -/
theorem rangesKept : Obligations.RangesKept := fun _ _ h =>
  ⟨fun met => step_keeps (P := State.LimitsMet) (fun _ _ k => k) (fun _ _ => limitsMet_does) met h,
    fun timers => step_keeps_ladders (fun _ _ => timersInRange_change) timers h⟩

/-! ## The start stacks -/

/-- At most one place of a list meets a test exactly when no two do. -/
theorem countP_le_one_iff {α : Type} (xs : List α) (test : α → Bool) :
    xs.countP test ≤ 1 ↔
      ∀ (i j : Nat) (a b : α), xs[i]? = some a → xs[j]? = some b → test a = true → test b = true → i = j := by
  induction xs with
  | nil => simp
  | cons x xs ih =>
    rw [List.countP_cons]
    by_cases hx : test x = true
    · rw [if_pos hx]
      constructor
      · intro h
        have none : ∀ a ∈ xs, ¬ test a = true := List.countP_eq_zero.mp (by omega)
        intro i j a b hi hj ha hb
        cases i with
        | zero =>
          cases j with
          | zero => rfl
          | succ j => exact absurd hb (none b (List.mem_of_getElem? hj))
        | succ i => exact absurd ha (none a (List.mem_of_getElem? hi))
      · intro h
        have none : xs.countP test = 0 := by
          rw [List.countP_eq_zero]
          intro a ha hta
          obtain ⟨k, hk⟩ := List.mem_iff_getElem?.mp ha
          exact absurd (h 0 (k + 1) x a rfl hk hx hta) (by omega)
        omega
    · rw [if_neg hx, Nat.add_zero, ih]
      constructor
      · intro h i j a b hi hj ha hb
        cases i with
        | zero =>
          cases hi
          exact absurd ha hx
        | succ i =>
          cases j with
          | zero =>
            cases hj
            exact absurd hb hx
          | succ j => exact congrArg Nat.succ (h i j a b hi hj ha hb)
      · intro h i j a b hi hj ha hb
        exact Nat.succ.inj (h (i + 1) (j + 1) a b hi hj ha hb)

theorem alone_iff (L : Ladder) :
    (L.units.countP fun u => u.any fun v => decide (v.state = .starting)) ≤ 1 ↔
      ∀ p q u v, L.unitAt p = some u → L.unitAt q = some v → u.state = .starting → v.state = .starting → p = q := by
  rw [countP_le_one_iff]
  constructor
  · intro h p q u v hp hq hu hv
    cases p with
    | zero => cases hp
    | succ i =>
      cases q with
      | zero => cases hq
      | succ j =>
        have get : ∀ {k w}, L.unitAt (k + 1) = some w → L.units[k]? = some (some w) := by
          intro k w hw
          change L.units[k]?.join = some w at hw
          rcases hk : L.units[k]? with _ | _ | x
          · rw [hk] at hw; cases hw
          · rw [hk] at hw; cases hw
          · rw [hk] at hw; cases hw; rfl
        exact congrArg Nat.succ (h i j _ _ (get hp) (get hq) (by simpa using hu) (by simpa using hv))
  · intro h i j a b hi hj ha hb
    obtain ⟨u, rfl, hu⟩ := (Option.any_eq_true _ _).mp ha
    obtain ⟨v, rfl, hv⟩ := (Option.any_eq_true _ _).mp hb
    exact Nat.succ.inj (h (i + 1) (j + 1) u v (by simp [Ladder.unitAt, hi]) (by simp [Ladder.unitAt, hj])
      (of_decide_eq_true hu) (of_decide_eq_true hv))

/-- The law of the stacks, read by position. -/
theorem stackExact_iff (L : Ladder) :
    L.StackExact ↔ L.stack.Nodup ∧ (∀ p, p ∈ L.stack ↔ ∃ u, L.unitAt p = some u ∧ u.stacked = true) ∧
      ∀ p q u v, L.unitAt p = some u → L.unitAt q = some v → u.state = .starting → v.state = .starting → p = q := by
  constructor
  · rintro ⟨once, exact, alone⟩
    exact ⟨once, fun p => (exact p).trans (Option.any_eq_true _ _), (alone_iff L).mp alone⟩
  · rintro ⟨once, exact, alone⟩
    exact ⟨once, fun p => (exact p).trans (Option.any_eq_true _ _).symm, (alone_iff L).mpr alone⟩

theorem stacked_starting {u : PlantUnit} (h : u.state = .starting) : u.stacked = true := stacked_of_state h

section
variable {L M : Ladder}

/-- The law reads the stack, and of each unit its place on it and whether it is STARTING. -/
theorem stackExact_of_units (h : L.StackExact) (stack : M.stack = L.stack)
    (units : ∀ p, (M.unitAt p).map (·.state) = (L.unitAt p).map (·.state)) : M.StackExact := by
  have back : ∀ {p v}, M.unitAt p = some v → ∃ u, L.unitAt p = some u ∧ u.state = v.state := by
    intro p v hv
    have := units p
    rw [hv, Option.map_some] at this
    exact Option.map_eq_some_iff.mp this.symm
  have forth : ∀ {p u}, L.unitAt p = some u → ∃ v, M.unitAt p = some v ∧ v.state = u.state := by
    intro p u hu
    have := units p
    rw [hu, Option.map_some] at this
    exact Option.map_eq_some_iff.mp this
  rw [stackExact_iff] at h ⊢
  obtain ⟨once, exact, alone⟩ := h
  refine ⟨stack ▸ once, fun p => ?_, fun p q u v hp hq hu hv => ?_⟩
  · rw [stack, exact p]
    constructor
    · rintro ⟨u, hu, on⟩
      obtain ⟨v, hv, state⟩ := forth hu
      exact ⟨v, hv, by rw [stacked_of_state state]; exact on⟩
    · rintro ⟨v, hv, on⟩
      obtain ⟨u, hu, state⟩ := back hv
      exact ⟨u, hu, by rw [stacked_of_state state]; exact on⟩
  · obtain ⟨u', hu', su⟩ := back hp
    obtain ⟨v', hv', sv⟩ := back hq
    exact alone p q u' v' hu' hv' (su.trans hu) (sv.trans hv)

theorem stackExact_stays (h : L.StackExact) {p : Nat} {f : PlantUnit → PlantUnit}
    (place : ∀ u, L.unitAt p = some u → (f u).stacked = u.stacked ∧ ((f u).state = .starting → u.state = .starting)) :
    (L.modUnit p f).StackExact := by
  have back : ∀ {q v}, (L.modUnit p f).unitAt q = some v →
      ∃ u, L.unitAt q = some u ∧ v.stacked = u.stacked ∧ (v.state = .starting → u.state = .starting) := by
    intro q v hv
    by_cases hq : q = p
    · rw [hq, unitAt_modUnit_same] at hv
      obtain ⟨u, hu, rfl⟩ := Option.map_eq_some_iff.mp hv
      exact ⟨u, hq ▸ hu, place u hu⟩
    · rw [unitAt_modUnit_other _ hq] at hv
      exact ⟨v, hv, rfl, id⟩
  rw [stackExact_iff] at h ⊢
  obtain ⟨once, exact, alone⟩ := h
  refine ⟨by rwa [modUnit_stack], fun q => ?_, fun q r u v hq hr hu hv => ?_⟩
  · rw [modUnit_stack, exact q]
    constructor
    · rintro ⟨u, hu, on⟩
      by_cases hq : q = p
      · refine ⟨f u, by rw [hq, unitAt_modUnit_same, ← hq, hu]; rfl, ?_⟩
        rw [(place u (hq ▸ hu)).1]
        exact on
      · exact ⟨u, by rw [unitAt_modUnit_other _ hq, hu], on⟩
    · rintro ⟨v, hv, on⟩
      obtain ⟨u, hu, same, -⟩ := back hv
      exact ⟨u, hu, same ▸ on⟩
  · obtain ⟨u', hu', -, su⟩ := back hq
    obtain ⟨v', hv', -, sv⟩ := back hr
    exact alone q r u' v' hu' hv' (su hu) (sv hv)

theorem mem_remove {p q : Nat} : q ∈ (L.remove p).stack ↔ q ∈ L.stack ∧ q ≠ p := by
  simp [Ladder.remove]

theorem stackExact_leaves (h : L.StackExact) {p : Nat} {f : PlantUnit → PlantUnit}
    (gone : ∀ u, (f u).stacked = false) : ((L.modUnit p f).remove p).StackExact := by
  have other : ∀ {q v}, (L.modUnit p f).unitAt q = some v → v.stacked = true → q ≠ p ∧ L.unitAt q = some v := by
    intro q v hv on
    by_cases hq : q = p
    · rw [hq, unitAt_modUnit_same] at hv
      obtain ⟨u, -, rfl⟩ := Option.map_eq_some_iff.mp hv
      rw [gone u] at on
      cases on
    · exact ⟨hq, by rwa [unitAt_modUnit_other _ hq] at hv⟩
  rw [stackExact_iff] at h ⊢
  obtain ⟨once, exact, alone⟩ := h
  refine ⟨?_, fun q => ?_, fun q r u v hq hr hu hv => ?_⟩
  · change ((L.modUnit p f).stack.filter _).Nodup
    rw [modUnit_stack]
    exact once.filter _
  · rw [mem_remove, modUnit_stack, exact q]
    constructor
    · rintro ⟨⟨u, hu, on⟩, hq⟩
      exact ⟨u, (unitAt_modUnit_other L hq f).trans hu, on⟩
    · rintro ⟨v, hv, on⟩
      obtain ⟨hq, hu⟩ := other hv on
      exact ⟨⟨v, hu, on⟩, hq⟩
  · exact alone q r u v (other hq (stacked_starting hu)).2 (other hr (stacked_starting hv)).2 hu hv

theorem stackExact_enters (h : L.StackExact) {p : Nat} {f : PlantUnit → PlantUnit} {u : PlantUnit}
    (unit : L.unitAt p = some u) (off : u.stacked = false) (on : (f u).stacked = true)
    (quiet : (f u).state = .starting → L.hasStarting = false) : ((L.modUnit p f).push p).StackExact := by
  have back : ∀ {q v}, (L.modUnit p f).unitAt q = some v → q = p ∧ v = f u ∨ q ≠ p ∧ L.unitAt q = some v := by
    intro q v hv
    by_cases hq : q = p
    · rw [hq, unitAt_modUnit_same, unit] at hv
      cases hv
      exact .inl ⟨hq, rfl⟩
    · exact .inr ⟨hq, by rwa [unitAt_modUnit_other _ hq] at hv⟩
  rw [stackExact_iff] at h ⊢
  obtain ⟨once, exact, alone⟩ := h
  have absent : p ∉ L.stack := by
    intro hp
    obtain ⟨v, hv, hon⟩ := (exact p).mp hp
    rw [unit] at hv
    cases hv
    rw [off] at hon
    cases hon
  have stack : ((L.modUnit p f).push p).stack = L.stack ++ [p] := by
    rw [Ladder.push, modUnit_stack]
  have none : (f u).state = .starting → ∀ q v, L.unitAt q = some v → v.state ≠ .starting := by
    intro hs q v hv hstart
    have := (hasStarting_iff L).mpr ⟨q, v, hv, hstart⟩
    rw [quiet hs] at this
    cases this
  refine ⟨?_, fun q => ?_, fun q r v w hq hr hv hw => ?_⟩
  · rw [stack, List.nodup_append]
    refine ⟨once, List.nodup_singleton p, fun a ha b hb heq => ?_⟩
    rw [List.mem_singleton] at hb
    exact absent (hb ▸ heq ▸ ha)
  · rw [stack, List.mem_append, List.mem_singleton, exact q]
    constructor
    · rintro (⟨v, hv, hon⟩ | rfl)
      · by_cases hq : q = p
        · exact absurd ((exact p).mpr ⟨v, hq ▸ hv, hon⟩) absent
        · exact ⟨v, (unitAt_modUnit_other L hq f).trans hv, hon⟩
      · refine ⟨f u, ?_, on⟩
        exact (unitAt_modUnit_same L q f).trans (by rw [unit]; rfl)
    · rintro ⟨v, hv, hon⟩
      rcases back hv with ⟨hq, -⟩ | ⟨-, hu⟩
      · exact .inr hq
      · exact .inl ⟨v, hu, hon⟩
  · rcases back hq with ⟨rfl, rfl⟩ | ⟨hne, hu⟩
    · rcases back hr with ⟨rfl, rfl⟩ | ⟨-, hu'⟩
      · rfl
      · exact absurd hw (none hv r w hu')
    · rcases back hr with ⟨rfl, rfl⟩ | ⟨-, hu'⟩
      · exact absurd hv (none hw q v hu)
      · exact alone q r v w hu hu' hv hw

theorem stackExact_move (h : L.StackExact) (move : L.Move M) : M.StackExact := by
  cases move with
  | flags units stack _ _ _ _ =>
    refine stackExact_of_units h stack fun p => ?_
    cases p <;> simp only [Ladder.unitAt, units]
  | each f _ state =>
    refine stackExact_of_units h rfl fun p => ?_
    rw [unitAt_map, Option.map_map]
    exact congrArg (fun g => (L.unitAt p).map g) (funext state)
  | stays p f _ place => exact stackExact_stays h place
  | leaves p f _ gone => exact stackExact_leaves h gone
  | enters p f _ unit off on alone => exact stackExact_enters h unit off on alone

/-- A position that holds no unit on the stack is filled or emptied by one that is not on it. -/
theorem stackExact_setUnit (h : L.StackExact) {p : Nat} {o : Option PlantUnit}
    (was : ∀ u, L.unitAt p = some u → u.stacked = false) (now : ∀ u, o = some u → u.stacked = false) :
    (L.setUnit p o).StackExact := by
  have back : ∀ {q v}, (L.setUnit p o).unitAt q = some v → v.stacked = true → L.unitAt q = some v := by
    intro q v hv on
    rw [unitAt_setUnit] at hv
    split_ifs at hv
    · rw [now v hv] at on
      cases on
    · exact hv
  have forth : ∀ {q v}, L.unitAt q = some v → v.stacked = true → (L.setUnit p o).unitAt q = some v := by
    intro q v hv on
    rw [unitAt_setUnit]
    split_ifs with hq
    · rw [was v (hq.1 ▸ hv)] at on
      cases on
    · exact hv
  have stack : (L.setUnit p o).stack = L.stack := by cases p <;> rfl
  rw [stackExact_iff] at h ⊢
  obtain ⟨once, exact, alone⟩ := h
  refine ⟨stack ▸ once, fun q => ?_, fun q r u v hq hr hu hv => ?_⟩
  · rw [stack, exact q]
    exact ⟨fun ⟨u, hu, on⟩ => ⟨u, forth hu on, on⟩, fun ⟨u, hu, on⟩ => ⟨u, back hu on, on⟩⟩
  · exact alone q r u v (back hq (stacked_starting hu)) (back hr (stacked_starting hv)) hu hv

theorem atRest_off {u : PlantUnit} (h : u.atRest = true) : u.stacked = false := by
  unfold PlantUnit.atRest at h
  split at h
  next hst => exact off_of_state hst (by simp) (by simp)
  next hst => exact off_of_state hst (by simp) (by simp)
  next hst => exact off_of_state hst (by simp) (by simp)
  next hst => exact off_of_state hst (by simp) (by simp)
  all_goals cases h

theorem setTimer_state (u : PlantUnit) (k : TimerKind) (t : Timer) : (u.setTimer k t).state = u.state := by
  cases k <;> rfl

/-- The stack follows the units it names. -/
theorem stackExact_rotate (h : L.StackExact) : L.rotate.StackExact := by
  have nodup := occupied_nodup L
  rw [stackExact_iff] at h ⊢
  obtain ⟨once, exact, alone⟩ := h
  have occupied : ∀ {p}, p ∈ L.stack → p ∈ L.occupied := fun hp =>
    mem_occupied.mpr ⟨_, ((exact _).mp hp).choose_spec.1⟩
  refine ⟨?_, fun q => ?_, fun q r u v hq hr hu hv => ?_⟩
  · exact once.map_on fun a ha b hb => movedTo_injOn nodup (occupied ha) (occupied hb)
  · change q ∈ L.stack.map _ ↔ _
    rw [List.mem_map]
    constructor
    · rintro ⟨p, hp, rfl⟩
      obtain ⟨u, hu, on⟩ := (exact p).mp hp
      exact ⟨u, (unitAt_rotate_movedTo L (occupied hp)).trans hu, on⟩
    · rintro ⟨u, hu, on⟩
      obtain ⟨p, -, moved, hp⟩ := unitAt_of_rotate hu
      exact ⟨p, (exact p).mpr ⟨u, hp, on⟩, moved⟩
  · obtain ⟨p, -, rfl, hp⟩ := unitAt_of_rotate hq
    obtain ⟨p', -, rfl, hp'⟩ := unitAt_of_rotate hr
    rw [alone p p' u v hp hp' hu hv]

theorem stackExact_change (h : L.StackExact) (change : L.Change M) : M.StackExact := by
  cases change with
  | move move => exact stackExact_move h move
  | fills p r empty =>
    refine stackExact_setUnit h (fun u hu => ?_) fun u hu => ?_
    · rw [empty] at hu; cases hu
    · cases hu; rfl
  | empties p rest => exact stackExact_setUnit h (fun u hu => atRest_off (rest u hu)) fun u hu => by cases hu
  | reloads p k =>
    refine stackExact_stays h fun u _ => ⟨?_, fun hs => by rwa [setTimer_state] at hs⟩
    exact stacked_of_state (setTimer_state u k _)
  | reloadsUp => exact stackExact_of_units h rfl fun p => by cases p <;> rfl
  | reloadsDown k => exact stackExact_of_units h rfl fun p => by cases p <;> rfl
  | settles k _ _ => exact stackExact_of_units h rfl fun p => by cases p <;> rfl
  | holds b => exact stackExact_of_units h rfl fun p => by cases p <;> rfl
  | rotates _ => exact stackExact_rotate h
  | ticks =>
    refine stackExact_of_units h rfl fun p => ?_
    rw [show L.tick.unitAt p = (L.unitAt p).map PlantUnit.tick from unitAt_map L PlantUnit.tick p, Option.map_map]
    rfl
  | resets n => exact stackExact_reset n

end

/-- Settles O58: change by change. -/
theorem stacksExact : Obligations.StacksExact := fun _ _ hs h =>
  step_keeps_ladders (fun _ _ => stackExact_change) hs h

end Sys2Proof.Machine

/-! SUPPORT. The interlock as a law (07, R126, R128, R130): while the part is live, a chiller that needs flow has a pump in
service, and every act that takes the last pump away ends in the flow-loss stop; in shadow mode units stand in OFF or
RUNNING. -/

namespace Sys2Proof.Machine

/-! ## What the law reads: the states of the units -/

/-- Every unit stands in the state it stood in. -/
def Sequencer.StatesStand (q r : Sequencer) : Prop :=
  ∀ l p, ((r.ladder l).unitAt p).map (·.state) = ((q.ladder l).unitAt p).map (·.state)

/-- No chiller has come to need flow, and the pumps serve if they did. -/
def Sequencer.Eases (q r : Sequencer) : Prop :=
  (r.chillers.needsFlow = true → q.chillers.needsFlow = true) ∧ (q.pumps.serves = true → r.pumps.serves = true)

/-- A chiller that needs flow has a pump in service. -/
def Sequencer.Flows (q : Sequencer) : Prop := q.chillers.needsFlow = true → q.pumps.serves = true

/-- Every unit of both ladders is in OFF or RUNNING. -/
def Sequencer.Tracks (q : Sequencer) : Prop :=
  ∀ l p u, (q.ladder l).unitAt p = some u → u.state = .off ∨ u.state = .running

theorem needsFlow_iff (L : Ladder) : L.needsFlow = true ↔ ∃ p u, L.unitAt p = some u ∧ u.needsFlow = true :=
  any_units_iff L _

theorem serves_iff (L : Ladder) : L.serves = true ↔ ∃ p u, L.unitAt p = some u ∧ u.inService = true :=
  any_units_iff L _

theorem tracked_iff (L : Ladder) : L.tracked = true ↔ ∀ p u, L.unitAt p = some u → u.state = .off ∨ u.state = .running := by
  unfold Ladder.tracked
  rw [List.all_eq_true]
  constructor
  · intro h p u hu
    have := h (some u) ((mem_units_iff L).mpr ⟨p, hu⟩)
    simpa using this
  · rintro h (_ | u) hm
    · rfl
    · obtain ⟨p, hp⟩ := (mem_units_iff L).mp hm
      simpa using h p u hp

theorem tracks_iff (q : Sequencer) : q.Tracks ↔ q.chillers.tracked = true ∧ q.pumps.tracked = true := by
  rw [tracked_iff, tracked_iff]
  exact ⟨fun h => ⟨h .chiller, h .pump⟩, fun h l => by cases l; exacts [h.1, h.2]⟩

theorem needsFlow_of_state {u v : PlantUnit} (h : v.state = u.state) : v.needsFlow = u.needsFlow := by
  unfold PlantUnit.needsFlow PlantUnit.inService
  rw [h]

theorem inService_of_state {u v : PlantUnit} (h : v.state = u.state) : v.inService = u.inService := by
  unfold PlantUnit.inService
  rw [h]

theorem needsFlow_of_inService {u : PlantUnit} (h : u.inService = true) : u.needsFlow = true := by
  unfold PlantUnit.needsFlow
  rw [h, Bool.or_true]

section
variable {q r x : Sequencer}

theorem eases_refl (q : Sequencer) : q.Eases q := ⟨id, id⟩

theorem Sequencer.Eases.trans (h : q.Eases r) (k : r.Eases x) : q.Eases x := ⟨fun n => h.1 (k.1 n), fun s => k.2 (h.2 s)⟩

theorem flows_of_eases (h : q.Flows) (k : q.Eases r) : r.Flows := fun need => k.2 (h (k.1 need))

theorem flows_of_serves (h : q.pumps.serves = true) : q.Flows := fun _ => h

theorem statesStand_refl (q : Sequencer) : q.StatesStand q := fun _ _ => rfl

theorem Sequencer.StatesStand.trans (h : q.StatesStand r) (k : r.StatesStand x) : q.StatesStand x :=
  fun l p => (k l p).trans (h l p)

theorem Sequencer.StatesStand.after (k : r.StatesStand x) (h : q.StatesStand r) : q.StatesStand x := h.trans k

theorem statesStand_back (h : q.StatesStand r) {l : LadderId} {p : Nat} {v : PlantUnit}
    (hv : (r.ladder l).unitAt p = some v) : ∃ u, (q.ladder l).unitAt p = some u ∧ u.state = v.state := by
  have := h l p
  rw [hv, Option.map_some] at this
  exact Option.map_eq_some_iff.mp this.symm

theorem statesStand_forth (h : q.StatesStand r) {l : LadderId} {p : Nat} {u : PlantUnit}
    (hu : (q.ladder l).unitAt p = some u) : ∃ v, (r.ladder l).unitAt p = some v ∧ v.state = u.state := by
  have := h l p
  rw [hu, Option.map_some] at this
  exact Option.map_eq_some_iff.mp this

theorem eases_of_stand (h : q.StatesStand r) : q.Eases r := by
  constructor
  · intro need
    obtain ⟨p, v, hv, hn⟩ := (needsFlow_iff _).mp need
    obtain ⟨u, hu, state⟩ := statesStand_back (l := .chiller) h hv
    exact (needsFlow_iff _).mpr ⟨p, u, hu, needsFlow_of_state state ▸ hn⟩
  · intro serves
    obtain ⟨p, u, hu, hs⟩ := (serves_iff _).mp serves
    obtain ⟨v, hv, state⟩ := statesStand_forth (l := .pump) h hu
    exact (serves_iff _).mpr ⟨p, v, hv, inService_of_state state ▸ hs⟩

theorem tracks_of_stand (h : q.Tracks) (k : q.StatesStand r) : r.Tracks := by
  intro l p v hv
  obtain ⟨u, hu, state⟩ := statesStand_back k hv
  rw [← state]
  exact h l p u hu

theorem statesStand_setLadder {l : LadderId} {M : Ladder}
    (h : ∀ p, (M.unitAt p).map (·.state) = ((q.ladder l).unitAt p).map (·.state)) : q.StatesStand (q.setLadder l M) := by
  intro m p
  by_cases hm : m = l
  · rw [hm, ladder_setLadder, h]
  · rw [ladder_setLadder_of_ne _ _ hm]

theorem unitAt_of_units {L M : Ladder} (h : M.units = L.units) (p : Nat) : M.unitAt p = L.unitAt p := by
  cases p <;> simp only [Ladder.unitAt, h]

theorem map_state_each {L : Ladder} {f : PlantUnit → PlantUnit} (h : ∀ u, (f u).state = u.state) (p : Nat) :
    (({ L with units := L.units.map (·.map f) } : Ladder).unitAt p).map (·.state) = (L.unitAt p).map (·.state) := by
  rw [unitAt_map, Option.map_map]
  exact congrArg (fun g => (L.unitAt p).map g) (funext h)

theorem statesStand_both {x y : Ladder} (hx : ∀ p, (x.unitAt p).map (·.state) = (q.chillers.unitAt p).map (·.state))
    (hy : ∀ p, (y.unitAt p).map (·.state) = (q.pumps.unitAt p).map (·.state)) :
    q.StatesStand { q with chillers := x, pumps := y } := by
  intro l
  cases l
  · exact hx
  · exact hy

theorem statesStand_of_ladders (h : ∀ l, r.ladder l = q.ladder l) : q.StatesStand r := fun l p => by rw [h l]

end

/-! ## One unit changed -/

section
variable {e : SeqEnv} {l : LadderId} {p : Nat} {w v : Work}

theorem stand_units {f : Ladder → Ladder} (h : ∀ L, (f L).units = L.units) : w.seq.StatesStand (w.onLadder l f).seq :=
  statesStand_setLadder fun p => by rw [unitAt_of_units (h _)]

theorem stand_waiting (w : Work) (b : Bool) : w.seq.StatesStand { w.seq with waiting := b } :=
  statesStand_of_ladders fun l => by cases l <;> rfl

theorem stand_onUnit {f : PlantUnit → PlantUnit} (h : ∀ u, (f u).state = u.state) :
    w.seq.StatesStand (w.onUnit l p f).seq := by
  refine statesStand_setLadder fun q => ?_
  by_cases hq : q = p
  · rw [hq, unitAt_modUnit_same, Option.map_map]
    exact congrArg (fun g => ((w.seq.ladder l).unitAt p).map g) (funext h)
  · rw [unitAt_modUnit_other _ hq]

/-- One unit changes: a chiller that comes to need flow needed it, a pump that served still does. -/
theorem eases_onUnit {f : PlantUnit → PlantUnit}
    (need : l = .chiller → ∀ u, w.unit l p = some u → (f u).needsFlow = true → u.needsFlow = true)
    (serve : l = .pump → ∀ u, w.unit l p = some u → u.inService = true → (f u).inService = true) :
    w.seq.Eases (w.onUnit l p f).seq := by
  cases l with
  | chiller =>
    refine ⟨fun hn => ?_, id⟩
    obtain ⟨q, v, hv, hvn⟩ := (needsFlow_iff _).mp hn
    change (w.seq.chillers.modUnit p f).unitAt q = some v at hv
    rw [unitAt_modUnit] at hv
    split_ifs at hv with hq
    · obtain ⟨u, hu, rfl⟩ := Option.map_eq_some_iff.mp hv
      exact (needsFlow_iff _).mpr ⟨q, u, hu, need rfl u (hq ▸ hu) hvn⟩
    · exact (needsFlow_iff _).mpr ⟨q, v, hv, hvn⟩
  | pump =>
    refine ⟨id, fun hs => ?_⟩
    obtain ⟨q, u, hu, hus⟩ := (serves_iff _).mp hs
    refine (serves_iff _).mpr ?_
    change ∃ q v, (w.seq.pumps.modUnit p f).unitAt q = some v ∧ v.inService = true
    by_cases hq : q = p
    · exact ⟨q, f u, by rw [hq, unitAt_modUnit_same, ← hq, hu]; rfl, serve rfl u (hq ▸ hu) hus⟩
    · exact ⟨q, u, (unitAt_modUnit_other _ hq f).trans hu, hus⟩

theorem entered_needsFlow (st : UnitState) (d : Option Demand) (f : PlantUnit → PlantUnit) (u : PlantUnit) :
    (PlantUnit.entered e l st d f u).needsFlow =
      (decide (st = .starting) || (decide (st = .running) || decide (st = .hand .run))) := rfl

/-- An entry into a state, by the unit that stands there. -/
theorem eases_enter {st : UnitState} {d : Option Demand} {f : PlantUnit → PlantUnit}
    (need : l = .chiller → (st ≠ .starting ∧ st ≠ .running ∧ st ≠ .hand .run) ∨
      ∀ u, w.unit l p = some u → u.needsFlow = true)
    (serve : l = .pump → (st = .running ∨ st = .hand .run) ∨ ∀ u, w.unit l p = some u → u.inService = false) :
    w.seq.Eases (w.enter e l p st d f).seq := by
  refine eases_onUnit (f := PlantUnit.entered e l st d f) (fun hl u hu hn => ?_) fun hl u hu hs => ?_
  · rcases need hl with ⟨h1, h2, h3⟩ | was
    · rw [entered_needsFlow] at hn
      simp [h1, h2, h3] at hn
    · exact was u hu
  · rcases serve hl with on | off
    · change (decide (st = .running) || decide (st = .hand .run)) = true
      rcases on with rfl | rfl <;> rfl
    · rw [off u hu] at hs
      cases hs

/-- The same, followed by a change of the stack. -/
theorem eases_enter_stack {st : UnitState} {d : Option Demand} {f : PlantUnit → PlantUnit} {g : Ladder → Ladder}
    (hg : ∀ L, (g L).units = L.units)
    (need : l = .chiller → (st ≠ .starting ∧ st ≠ .running ∧ st ≠ .hand .run) ∨
      ∀ u, w.unit l p = some u → u.needsFlow = true)
    (serve : l = .pump → (st = .running ∨ st = .hand .run) ∨ ∀ u, w.unit l p = some u → u.inService = false) :
    w.seq.Eases ((w.enter e l p st d f).onLadder l g).seq :=
  (eases_enter need serve).trans (eases_of_stand (stand_units hg))

/-! ## Staging up -/

theorem stand_clearShort (w : Work) (l : LadderId) : w.seq.StatesStand (w.clearShort l).seq := by
  unfold Work.clearShort
  dsimp only
  split
  · exact stand_units (f := fun L => { L with shortCap := false }) fun _ => rfl
  · exact statesStand_refl _

theorem stand_setShort (w : Work) (l : LadderId) : w.seq.StatesStand (w.setShort l).seq := by
  unfold Work.setShort
  dsimp only
  split
  · exact statesStand_refl _
  · exact stand_units (f := fun L => { L with shortCap := true }) fun _ => rfl

theorem stand_upDone (w : Work) (l : LadderId) : w.seq.StatesStand (w.onLadder l Ladder.upDone).seq :=
  stand_units fun _ => rfl

theorem stand_downDone (w : Work) (l : LadderId) : w.seq.StatesStand (w.onLadder l Ladder.downDone).seq :=
  stand_units fun _ => rfl

theorem stand_intend (w : Work) (e : SeqEnv) (l : LadderId) (p : Nat) (i : Intent) :
    w.seq.StatesStand (w.intend e l p i).seq := by
  have intent : w.seq.StatesStand (w.onUnit l p fun u => { u with intent := some i }).seq := stand_onUnit fun _ => rfl
  have noted : (w.onUnit l p fun u => { u with intent := some i }).seq.StatesStand
      ((w.onUnit l p fun u => { u with intent := some i }).onLadder l fun L =>
        { L with lastIntent := some ⟨i, p, e.count⟩ }).seq := stand_units fun _ => rfl
  exact intent.trans noted

/-- A start of a pump takes none out of service; a chiller starts when a pump serves. -/
theorem flows_startUnit {u : PlantUnit} (h : w.seq.Flows) (unit : w.unit l p = some u) (off : u.state = .off)
    (pump : l = .chiller → w.seq.pumps.serves = true) : (w.startUnit e l p).seq.Flows := by
  have idle : ∀ v, w.unit l p = some v → v.inService = false := by
    intro v hv
    rw [unit] at hv
    cases hv
    unfold PlantUnit.inService
    rw [off]
    rfl
  have entered : (((w.enter e l p .starting (some .run) fun u =>
      { u with prove := .start (w.seq.ladder l).periods.prove }).onLadder l fun L => (L.push p).upDone)).seq.Flows := by
    cases l with
    | chiller => exact flows_of_serves (pump rfl)
    | pump => exact flows_of_eases h (eases_enter_stack (fun _ => rfl) (fun hl => by cases hl) fun _ => .inr idle)
  exact flows_of_eases entered (eases_of_stand (stand_clearShort _ l))

theorem flows_actUpWith {interlock : Work → Work} (h : w.seq.Flows) (hi : (interlock w).seq.Flows) :
    (w.actUpWith e l interlock).seq.Flows := by
  unfold Work.actUpWith
  split
  · exact h
  · split
    · exact h
    · split
      · exact flows_of_eases h (eases_of_stand (stand_setShort w l))
      next p found =>
        obtain ⟨u, unit, off⟩ := first_spec found
        split
        · exact flows_of_eases h (eases_of_stand
            ((stand_clearShort _ l).after ((stand_upDone _ l).after (stand_intend w e l p .start))))
        · split
          · exact hi
          next guarded =>
            refine flows_startUnit h unit (of_decide_eq_true off) fun hl => ?_
            simpa [hl] using guarded

theorem flows_actUpPump (h : w.seq.Flows) : (w.actUpPump e).seq.Flows := flows_actUpWith h h

theorem flows_interlock (h : w.seq.Flows) : (w.interlock e).seq.Flows := by
  refine flows_actUpPump (flows_of_eases h (eases_of_stand ?_))
  intro m q
  cases m
  · exact congrArg (·.map (·.state)) (unitAt_of_units rfl q)
  · exact congrArg (·.map (·.state)) (unitAt_of_units rfl q)

theorem flows_actUp (h : w.seq.Flows) : (w.actUp e l).seq.Flows := by
  cases l with
  | chiller => exact flows_actUpWith h (flows_interlock h)
  | pump => exact flows_actUpPump h

theorem flows_raiseUp (h : w.seq.Flows) : (w.raiseUp e l).seq.Flows :=
  flows_actUp (flows_of_eases h (eases_of_stand (stand_units fun _ => rfl)))

theorem flows_tryUp (h : w.seq.Flows) : (w.tryUp e l).seq.Flows := by
  unfold Work.tryUp
  split
  · exact flows_actUp h
  · exact h

theorem flows_pumpServes (h : w.seq.Flows) : (w.pumpServes e).seq.Flows := by
  unfold Work.pumpServes
  split
  · exact flows_raiseUp (flows_of_eases h (eases_of_stand (stand_waiting w false)))
  · exact h

/-! ## Leaving a state -/

theorem unit_stopOne_other {q : Nat} (h : q ≠ p) : (w.stopOne e l p).unit l q = w.unit l q := by
  unfold Work.unit
  rw [stopOne_seq, ladder_setLadder]
  exact (unitAt_of_units rfl q).trans (unitAt_modUnit_other _ h _)

theorem unit_stopOne_same : (w.stopOne e l p).unit l p =
    (w.unit l p).map (PlantUnit.stopped (w.seq.ladder l).periods (e.setpoint l)) := by
  unfold Work.unit
  rw [stopOne_seq, ladder_setLadder]
  exact (unitAt_of_units rfl p).trans (unitAt_modUnit_same _ p _)

theorem ladder_stopOne_other {m : LadderId} (h : m ≠ l) : (w.stopOne e l p).seq.ladder m = w.seq.ladder m := by
  rw [stopOne_seq, ladder_setLadder_of_ne _ _ h]

/-- After stops over a list, a unit that needs flow stands outside the list, as it stood. -/
theorem needsFlow_after_stops (ns : List Nat) (w : Work) {q : Nat} {v : PlantUnit}
    (hv : (ns.foldl (fun w n => w.stopOne e .chiller n) w).unit .chiller q = some v) (need : v.needsFlow = true) :
    q ∉ ns ∧ w.unit .chiller q = some v := by
  induction ns generalizing w with
  | nil => exact ⟨List.not_mem_nil, hv⟩
  | cons n ns ih =>
    obtain ⟨out, before⟩ := ih _ hv
    by_cases hq : q = n
    · rw [hq, unit_stopOne_same] at before
      obtain ⟨u, -, rfl⟩ := Option.map_eq_some_iff.mp before
      cases need
    · rw [unit_stopOne_other hq] at before
      exact ⟨fun hm => (List.mem_cons.mp hm).elim hq out, before⟩

theorem stoppable_of_needsFlow {u : PlantUnit} (h : u.needsFlow = true) : u.stoppable = true := by
  unfold PlantUnit.needsFlow PlantUnit.inService at h
  simp only [Bool.or_eq_true, decide_eq_true_eq] at h
  unfold PlantUnit.stoppable
  rcases h with h | h | h <;> rw [h]

theorem mem_stoppables {L : Ladder} {p : Nat} {u : PlantUnit} (hu : L.unitAt p = some u) :
    p ∈ L.stoppables ↔ u.stoppable = true := by
  unfold Ladder.stoppables
  rw [List.mem_filter, mem_positions, hu]
  exact ⟨fun h => h.2, fun h => ⟨unitAt_isSome_le hu, h⟩⟩

/-- After the flow-loss stop no chiller needs flow, until a start finds a pump in service. -/
theorem flows_flowLoss (w : Work) (e : SeqEnv) : (w.flowLoss e).seq.Flows := by
  have stopped : (w.seq.chillers.stoppables.foldl (fun v p => v.stopOne e .chiller p)
      (w.say [⟨.flowLossStop, ladderSubject .pump, w.seq.chillers.stoppables.length⟩])).seq.Flows := by
    intro need
    obtain ⟨q, v, hv, hn⟩ := (needsFlow_iff _).mp need
    obtain ⟨out, before⟩ := needsFlow_after_stops _ _ hv hn
    exact absurd ((mem_stoppables before).mpr (stoppable_of_needsFlow hn)) out
  unfold Work.flowLoss
  dsimp only
  split
  · exact flows_tryUp stopped
  · exact stopped

/-- What a unit's leaving owes the law: nothing when the law holds, the flow-loss stop when a pump left service. -/
theorem flows_afterLeaving {before : PlantUnit} (h : (l = .pump ∧ before.inService = true) ∨ w.seq.Flows) :
    (w.afterLeaving e l before).seq.Flows := by
  have flowed : (if decide (l = .pump) && before.inService && !w.seq.pumps.serves then w.flowLoss e else w).seq.Flows := by
    split
    · exact flows_flowLoss w e
    next kept =>
      rcases h with ⟨hl, hs⟩ | h
      · exact flows_of_serves (by simpa [hl, hs] using kept)
      · exact h
  unfold Work.afterLeaving
  dsimp only
  split
  · exact flows_tryUp flowed
  · exact flowed

/-- A unit that enters a state out of service leaves the law standing, unless it was a pump in service. -/
theorem leaves_or_flows {st : UnitState} {d : Option Demand} {f : PlantUnit → PlantUnit} {g : Ladder → Ladder}
    {u : PlantUnit} (h : w.seq.Flows) (hg : ∀ L, (g L).units = L.units) (unit : w.unit l p = some u)
    (out : st ≠ .starting ∧ st ≠ .running ∧ st ≠ .hand .run) :
    (l = .pump ∧ u.inService = true) ∨ ((w.enter e l p st d f).onLadder l g).seq.Flows := by
  by_cases was : l = .pump ∧ u.inService = true
  · exact .inl was
  · refine .inr (flows_of_eases h (eases_enter_stack hg (fun _ => .inl out) fun hl => .inr fun v hv => ?_))
    rw [unit] at hv
    cases hv
    exact Bool.eq_false_iff.mpr fun hs => was ⟨hl, hs⟩

theorem flows_stopUnit (h : w.seq.Flows) : (w.stopUnit e l p).seq.Flows := by
  unfold Work.stopUnit
  split
  · exact h
  next unit => exact flows_afterLeaving (leaves_or_flows h (fun _ => rfl) unit (by simp))

theorem flows_foldl {f : Work → Nat → Work} (hf : ∀ v n, v.seq.Flows → (f v n).seq.Flows) (ns : List Nat)
    (h : w.seq.Flows) : (ns.foldl f w).seq.Flows := by
  induction ns generalizing w with
  | nil => exact h
  | cons n ns ih => exact ih (hf w n h)

theorem flows_stopAll (h : w.seq.Flows) : (w.stopAll e).seq.Flows := by
  unfold Work.stopAll
  split
  · exact h
  · exact flows_foldl (fun _ _ k => flows_stopUnit k) _ (flows_foldl (fun _ _ k => flows_stopUnit k) _ h)

theorem flows_actDown (h : w.seq.Flows) : (w.actDown e l).seq.Flows := by
  unfold Work.actDown
  split
  · exact flows_of_eases h (eases_of_stand (stand_units fun _ => rfl))
  · split
    · exact h
    · split
      · exact h
      · split
        · exact flows_of_eases h (eases_of_stand ((stand_downDone _ l).after (stand_intend w e l _ .stop)))
        · exact flows_stopUnit (flows_of_eases h (eases_of_stand (stand_downDone w l)))

theorem flows_tryDown (h : w.seq.Flows) : (w.tryDown e l).seq.Flows := by
  unfold Work.tryDown
  split
  · exact flows_actDown h
  · exact h

theorem flows_trip (h : w.seq.Flows) (cause : TripCause) : (w.trip e l p cause).seq.Flows := by
  unfold Work.trip
  split
  · exact h
  next u unit =>
    dsimp only
    have left := leaves_or_flows (e := e) (st := .tripped cause false) (d := some .stop) (g := (·.remove p))
      (f := fun u => { u with prove := .idle, stop := .idle, run := .idle }) h (fun _ => rfl) unit (by simp)
    generalize entered : (w.enter e l p (.tripped cause false) (some .stop) fun u =>
      { u with prove := .idle, stop := .idle, run := .idle }).onLadder l (·.remove p) = v at left
    have flowed : (if decide (l = .pump) && u.inService && !(v.say [⟨.unitTrip, ladderSubject l + p, cause.code⟩]).seq.pumps.serves
        then (v.say [⟨.unitTrip, ladderSubject l + p, cause.code⟩]).flowLoss e
        else v.say [⟨.unitTrip, ladderSubject l + p, cause.code⟩]).seq.Flows := by
      split
      · exact flows_flowLoss _ e
      next kept =>
        rcases left with ⟨hl, hs⟩ | flows
        · exact flows_of_serves (by simpa [hl, hs] using kept)
        · exact flows
    split
    · exact flows_raiseUp flowed
    · exact flowed

/-! ## Judging -/

theorem flows_proved {u : PlantUnit} (h : w.seq.Flows) (unit : w.unit l p = some u) (starting : u.state = .starting) :
    (w.proved e l p).seq.Flows := by
  have entered : (w.enter e l p .running none fun u =>
      { u with prove := .idle, run := .start (w.seq.ladder l).periods.run }).seq.Flows := by
    refine flows_of_eases h (eases_enter (fun _ => .inr fun v hv => ?_) fun _ => .inl (.inl rfl))
    rw [unit] at hv
    cases hv
    unfold PlantUnit.needsFlow
    rw [starting]
    rfl
  unfold Work.proved
  dsimp only
  refine flows_tryUp ?_
  split
  · exact flows_pumpServes entered
  · exact entered

/-- A unit in a state that no pump serves in. -/
theorem idle_of_state {u : PlantUnit} {st : UnitState} (h : u.state = st) (hr : st ≠ .running) (hh : st ≠ .hand .run) :
    u.inService = false := by
  unfold PlantUnit.inService
  rw [h]
  simp [hr, hh]

theorem flows_enter_idle {st : UnitState} {d : Option Demand} {f : PlantUnit → PlantUnit} {u : PlantUnit}
    (h : w.seq.Flows) (unit : w.unit l p = some u) (idle : u.inService = false)
    (out : st ≠ .starting ∧ st ≠ .running ∧ st ≠ .hand .run) : (w.enter e l p st d f).seq.Flows := by
  refine flows_of_eases h (eases_enter (fun _ => .inl out) fun _ => .inr fun v hv => ?_)
  rw [unit] at hv
  cases hv
  exact idle

theorem flows_toLocal (h : w.seq.Flows) : (w.toLocal e l p).seq.Flows := by
  unfold Work.toLocal
  split
  · exact h
  next unit => exact flows_afterLeaving (leaves_or_flows h (fun _ => rfl) unit (by simp))

/-- A pump taken into service leaves the law standing; a chiller, when a pump serves. -/
theorem flows_takeIntoService (h : w.seq.Flows) (pump : l = .chiller → w.seq.pumps.serves = true) :
    (w.takeIntoService e l p).seq.Flows := by
  unfold Work.takeIntoService
  cases l with
  | chiller => exact flows_of_serves (pump rfl)
  | pump =>
    exact flows_pumpServes (flows_of_eases h
      (eases_enter_stack (fun _ => rfl) (fun hl => by cases hl) fun _ => .inl (.inl rfl)))

theorem flows_fromLocal {u : PlantUnit} (h : w.seq.Flows) (unit : w.unit l p = some u) (st : u.state = .localCtl)
    (proof : Bool) : (w.fromLocal e l p proof).seq.Flows := by
  have idle : u.inService = false := idle_of_state st (by simp) (by simp)
  unfold Work.fromLocal
  split
  · exact flows_enter_idle h unit idle (by simp)
  · split
    · have left := leaves_or_flows (e := e) (st := .stopping) (d := some .stop) (g := (·.remove p)) (f := fun u =>
        { u with prove := .idle, run := .idle, stop := .start (w.seq.ladder l).periods.stop })
        h (fun _ => rfl) unit (by simp)
      rcases left with ⟨-, hs⟩ | flows
      · rw [idle] at hs
        cases hs
      · exact flows
    · dsimp only
      split
      · exact flows_flowLoss _ e
      next guarded =>
        cases l with
        | chiller => exact flows_of_serves (by simpa using guarded)
        | pump => exact flows_takeIntoService h fun hl => by cases hl

theorem flows_judgeOne {u : PlantUnit} (h : w.seq.Flows) (unit : w.unit l p = some u) (c : CycleClass) :
    (w.judgeOne e l p u c).seq.Flows := by
  have trip : ∀ cause, (w.trip e l p cause).seq.Flows := flows_trip h
  have cancelled : (w.onUnit l p fun v => { v with prove := .idle }).seq.Flows :=
    flows_of_eases h (eases_of_stand (stand_onUnit fun _ => rfl))
  unfold Work.judgeOne
  split
  case h_1 => exact flows_toLocal h
  case h_2 => exact flows_toLocal h
  case h_3 => exact flows_toLocal h
  case h_4 => exact flows_toLocal h
  case h_5 => exact flows_toLocal h
  case h_6 st =>
    split
    · exact flows_proved h unit st
    · exact h
  case h_7 =>
    split
    · exact h
    · exact trip _
  case h_8 st =>
    split
    · exact h
    · exact flows_enter_idle h unit (idle_of_state st (by simp) (by simp)) (by simp)
  case h_9 st => exact flows_fromLocal h unit st _
  case h_10 st =>
    split
    · refine flows_of_eases h (eases_onUnit (fun _ v _ hn => by cases hn) fun _ v hv hs => ?_)
      rw [unit] at hv
      cases hv
      rw [idle_of_state st (by simp) (by simp)] at hs
      cases hs
    · exact h
  case h_11 =>
    split
    · split
      · exact cancelled
      · exact h
    · split
      · exact h
      · exact trip _
  case h_12 => exact trip _
  case h_13 => exact trip _
  case h_14 => exact trip _
  case h_15 => exact h

theorem flows_judgeAt (live : e.shadow = false) (before : Sequencer) (h : w.seq.Flows) :
    (w.judgeAt e before l p).seq.Flows := by
  unfold Work.judgeAt
  split
  next unit =>
    rw [live]
    split
    · exact h
    · exact flows_judgeOne h unit _
  · exact h

theorem flows_judgeAll (live : e.shadow = false) (before : Sequencer) (h : w.seq.Flows) :
    (w.judgeAll e before).seq.Flows :=
  flows_foldl (fun _ _ k => flows_judgeAt live before k) _ (flows_foldl (fun _ _ k => flows_judgeAt live before k) _ h)

/-! ## The evaluation -/

theorem flows_driveUp (h : w.seq.Flows) (holds : Bool) : (w.driveUp e l holds).seq.Flows := by
  unfold Work.driveUp
  split
  · split
    · exact flows_actUp h
    · exact flows_of_eases h (eases_of_stand (stand_units fun _ => rfl))
  · exact flows_of_eases h (eases_of_stand
      ((stand_clearShort _ l).after ((stand_waiting (w.onLadder l Ladder.upDone) _).after (stand_upDone w l))))

theorem flows_driveDown (h : w.seq.Flows) (holds : Bool) : (w.driveDown e l holds).seq.Flows := by
  unfold Work.driveDown
  split
  · split
    · exact flows_actDown h
    · exact flows_of_eases h (eases_of_stand (stand_units fun _ => rfl))
  · exact flows_of_eases h (eases_of_stand (stand_downDone w l))

theorem flows_drive (h : w.seq.Flows) (f : Figures) : (w.drive e l f).seq.Flows :=
  flows_of_eases (flows_driveDown (flows_driveUp h _) _) (eases_of_stand (stand_units fun _ => rfl))

theorem flows_evaluate (h : w.seq.Flows) (x : LoadInput) : (w.evaluate e x).seq.Flows := by
  have chillers : (if w.held .chiller then w
      else w.drive e .chiller (chillerFigures e x w.seq.chillers)).seq.Flows := by
    split
    · exact h
    · exact flows_drive h _
  unfold Work.evaluate
  dsimp only
  split
  · exact chillers
  · exact flows_drive chillers _

/-! ## Hand control and expiries -/

/-- The entry into HAND: the state, the demand and the timers, off the stack. -/
def Work.handEntry (e : SeqEnv) (x : NamedUnit) (d : Demand) (w : Work) : Work :=
  (w.onUnit x.ladder x.position fun u =>
    { handTimers d (w.seq.ladder x.ladder).periods u with
      state := .hand d, next := some ⟨d, e.setpoint x.ladder⟩ }).onLadder x.ladder (·.remove x.position)

/-- Hand control is the entry and, for a pump, what its coming or going brings. -/
theorem takeInHand_eq (w : Work) (e : SeqEnv) (x : NamedUnit) (d : Demand) :
    w.takeInHand e x d = match x.ladder, d with
      | .pump, .run => ((w.handEntry e x d).say (handNotes x d)).pumpServes e
      | .pump, .stop => ((w.handEntry e x d).say (handNotes x d)).afterLeaving e .pump x.unit
      | .chiller, _ => (w.handEntry e x d).say (handNotes x d) := rfl

theorem eases_handEntry {x : NamedUnit} {d : Demand}
    (need : x.ladder = .chiller → d = .stop ∨ ∀ u, w.unit x.ladder x.position = some u → u.needsFlow = true)
    (serve : x.ladder = .pump → d = .run ∨ ∀ u, w.unit x.ladder x.position = some u → u.inService = false) :
    w.seq.Eases (w.handEntry e x d).seq := by
  refine Sequencer.Eases.trans (eases_onUnit (fun hl u hu hn => ?_) fun hl u hu hs => ?_)
    (eases_of_stand (stand_units fun _ => rfl))
  · rcases need hl with rfl | was
    · cases hn
    · exact was u hu
  · rcases serve hl with rfl | off
    · rfl
    · rw [off u hu] at hs
      cases hs

theorem flows_takeInHand {x : NamedUnit} {d : Demand} (h : w.seq.Flows)
    (unit : w.unit x.ladder x.position = some x.unit)
    (pump : x.ladder = .chiller → d = .run → w.seq.pumps.serves = true) : (w.takeInHand e x d).seq.Flows := by
  have here : ∀ {P : PlantUnit → Prop}, P x.unit → ∀ v, w.unit x.ladder x.position = some v → P v := by
    intro P hx v hv
    rw [unit] at hv
    cases hv
    exact hx
  rw [takeInHand_eq]
  cases hl : x.ladder with
  | chiller =>
    change (w.handEntry e x d).seq.Flows
    cases d with
    | run =>
      have same : (w.handEntry e x .run).seq.pumps = w.seq.pumps := by
        unfold Work.handEntry
        rw [hl]
        rfl
      exact flows_of_serves (same.symm ▸ pump hl rfl)
    | stop =>
      refine flows_of_eases h (eases_handEntry (fun _ => .inl rfl) fun hp => ?_)
      rw [hl] at hp
      cases hp
  | pump =>
    have chiller : x.ladder = .chiller → False := fun hc => by rw [hl] at hc; cases hc
    cases d with
    | run => exact flows_pumpServes (flows_of_eases h (eases_handEntry (fun hc => (chiller hc).elim) fun _ => .inl rfl))
    | stop =>
      refine flows_afterLeaving ?_
      by_cases was : x.unit.inService = true
      · exact .inl ⟨rfl, was⟩
      · exact .inr (flows_of_eases h (eases_handEntry (fun hc => (chiller hc).elim) fun _ =>
          .inr (here (Bool.eq_false_iff.mpr was))))

theorem flows_takeOutOfHand {x : NamedUnit} (h : w.seq.Flows) (unit : w.unit x.ladder x.position = some x.unit) :
    (w.takeOutOfHand e x).seq.Flows := by
  unfold Work.takeOutOfHand
  dsimp only
  split
  · refine flows_afterLeaving ?_
    by_cases was : x.ladder = .pump ∧ x.unit.inService = true
    · exact .inl was
    · refine .inr (flows_of_eases h (eases_enter (fun _ => .inl (by simp)) fun hl => .inr fun v hv => ?_))
      rw [unit] at hv
      cases hv
      exact Bool.eq_false_iff.mpr fun hs => was ⟨hl, hs⟩
  · split
    · exact flows_afterLeaving (leaves_or_flows h (fun _ => rfl) unit (by simp))
    next guarded =>
      refine flows_takeIntoService h fun hl => ?_
      simp only [hl, Bool.or_eq_true, not_or] at guarded
      simpa using guarded.2

theorem flows_proveExpired {u : PlantUnit} (h : w.seq.Flows) : (w.proveExpired e l p u).seq.Flows := by
  unfold Work.proveExpired
  split
  · exact h
  · have idle : (w.onUnit l p fun v => { v with prove := .idle }).seq.Flows :=
      flows_of_eases h (eases_of_stand (stand_onUnit fun _ => rfl))
    dsimp only
    split
    · split
      · exact flows_of_eases h (eases_of_stand (stand_onUnit fun _ => rfl))
      · exact flows_trip idle _
    · exact idle

theorem flows_stopExpired {u : PlantUnit} (h : w.seq.Flows) : (w.stopExpired e l p u).seq.Flows := by
  have idle : (w.onUnit l p fun v => { v with stop := .idle }).seq.Flows :=
    flows_of_eases h (eases_of_stand (stand_onUnit fun _ => rfl))
  unfold Work.stopExpired
  dsimp only
  split
  · exact flows_trip idle _
  · exact idle

theorem flows_runExpired {u : PlantUnit} (h : w.seq.Flows) : (w.runExpired e l p u).seq.Flows := by
  have idle : (w.onUnit l p fun v => { v with run := .idle }).seq.Flows :=
    flows_of_eases h (eases_of_stand (stand_onUnit fun _ => rfl))
  unfold Work.runExpired
  dsimp only
  split
  · exact flows_tryDown idle
  · exact idle

theorem flows_restExpired {u : PlantUnit} (h : w.seq.Flows) (unit : w.unit l p = some u) :
    (w.restExpired e l p u).seq.Flows := by
  have idle : (w.onUnit l p fun v => { v with rest := .idle }).seq.Flows :=
    flows_of_eases h (eases_of_stand (stand_onUnit fun _ => rfl))
  unfold Work.restExpired
  dsimp only
  split
  next resting =>
    refine flows_enter_idle (u := { u with rest := .idle }) idle ?_ (idle_of_state resting (by simp) (by simp)) (by simp)
    rw [unit_onUnit_same, unit]
    rfl
  · exact idle

/-- An entry into OFF or RUNNING keeps every unit in one of the two. -/
theorem tracks_enter (h : w.seq.Tracks) {st : UnitState} (hst : st = .off ∨ st = .running) (d : Option Demand)
    (f : PlantUnit → PlantUnit) {g : Ladder → Ladder} (hg : ∀ L, (g L).units = L.units) :
    ((w.enter e l p st d f).onLadder l g).seq.Tracks := by
  refine tracks_of_stand ?_ (stand_units hg)
  intro m q v hv
  change ((w.onUnit l p (PlantUnit.entered e l st d f)).seq.ladder m).unitAt q = some v at hv
  unfold Work.onUnit at hv
  by_cases hm : m = l
  · rw [hm, ladder_onLadder, unitAt_modUnit] at hv
    split_ifs at hv
    · obtain ⟨u, -, rfl⟩ := Option.map_eq_some_iff.mp hv
      exact hst
    · exact h l q v hv
  · rw [ladder_onLadder_of_ne _ hm] at hv
    exact h m q v hv

/-! ## In shadow mode no work but the tracking moves a state (07, R130) -/

section
variable (shadow : e.shadow = true)
include shadow

theorem stand_actUpWith {interlock : Work → Work} : w.seq.StatesStand (w.actUpWith e l interlock).seq := by
  unfold Work.actUpWith
  rw [shadow]
  split
  · exact statesStand_refl _
  · split
    · exact statesStand_refl _
    · split
      · exact stand_setShort w l
      · exact (stand_clearShort _ l).after ((stand_upDone _ l).after (stand_intend w e l _ .start))

theorem stand_actUp : w.seq.StatesStand (w.actUp e l).seq := by
  cases l with
  | chiller => exact stand_actUpWith shadow
  | pump => exact stand_actUpWith shadow

theorem stand_raiseUp : w.seq.StatesStand (w.raiseUp e l).seq :=
  (stand_actUp shadow).after (stand_units fun _ => rfl)

theorem stand_pumpServes : w.seq.StatesStand (w.pumpServes e).seq := by
  unfold Work.pumpServes
  split
  · exact (stand_raiseUp shadow).after (stand_waiting w false)
  · exact statesStand_refl _

theorem stand_actDown : w.seq.StatesStand (w.actDown e l).seq := by
  unfold Work.actDown
  rw [shadow]
  split
  · exact stand_units fun _ => rfl
  · split
    · exact statesStand_refl _
    · split
      · exact statesStand_refl _
      · exact (stand_downDone _ l).after (stand_intend w e l _ .stop)

theorem stand_driveUp (holds : Bool) : w.seq.StatesStand (w.driveUp e l holds).seq := by
  unfold Work.driveUp
  split
  · split
    · exact stand_actUp shadow
    · exact stand_units fun _ => rfl
  · exact (stand_clearShort _ l).after ((stand_waiting (w.onLadder l Ladder.upDone) _).after (stand_upDone w l))

theorem stand_driveDown (holds : Bool) : w.seq.StatesStand (w.driveDown e l holds).seq := by
  unfold Work.driveDown
  split
  · split
    · exact stand_actDown shadow
    · exact stand_units fun _ => rfl
  · exact stand_downDone w l

theorem stand_drive (f : Figures) : w.seq.StatesStand (w.drive e l f).seq := by
  have driven := (stand_driveUp (w := w) (l := l) shadow f.up).trans (stand_driveDown (l := l) shadow f.down)
  refine Sequencer.StatesStand.after ?_ driven
  exact stand_units fun _ => rfl

theorem stand_evaluate (x : LoadInput) : w.seq.StatesStand (w.evaluate e x).seq := by
  have chillers : w.seq.StatesStand (if w.held .chiller then w
      else w.drive e .chiller (chillerFigures e x w.seq.chillers)).seq := by
    split
    · exact statesStand_refl _
    · exact stand_drive shadow _
  unfold Work.evaluate
  dsimp only
  split
  · exact chillers
  · exact chillers.trans (stand_drive shadow _)

theorem tracks_trackOne (h : w.seq.Tracks) (u : PlantUnit) : (w.trackOne e l p u).seq.Tracks := by
  unfold Work.trackOne
  split
  · split
    · have entered := tracks_enter (e := e) (l := l) (p := p) h (.inr rfl) (some .run) (fun u => { u with intent := none })
        (g := (·.push p)) fun _ => rfl
      dsimp only
      split
      · exact tracks_of_stand entered (stand_pumpServes shadow)
      · exact entered
    · exact h
  · split
    · exact h
    · exact tracks_enter h (.inl rfl) _ _ fun _ => rfl
  · exact h

theorem tracks_judgeAt (before : Sequencer) (h : w.seq.Tracks) : (w.judgeAt e before l p).seq.Tracks := by
  unfold Work.judgeAt
  rw [shadow]
  split
  · split
    · exact h
    · exact tracks_trackOne shadow h _
  · exact h

theorem tracks_judgeAll (before : Sequencer) (h : w.seq.Tracks) : (w.judgeAll e before).seq.Tracks := by
  have fold : ∀ m (ns : List Nat) (v : Work), v.seq.Tracks → (ns.foldl (Work.judgeAt e before m) v).seq.Tracks := by
    intro m ns
    induction ns with
    | nil => exact fun v k => k
    | cons n ns ih => exact fun v k => ih _ (tracks_judgeAt shadow before k)
  exact fold _ _ _ (fold _ _ _ h)

end

/-- In shadow mode an expiry of a unit's timer finds the unit in OFF or RUNNING and moves no state. -/
theorem stand_expired_shadow (shadow : e.shadow = true) {u : PlantUnit} (st : u.state = .off ∨ u.state = .running) :
    w.seq.StatesStand (w.proveExpired e l p u).seq ∧ w.seq.StatesStand (w.stopExpired e l p u).seq ∧
      w.seq.StatesStand (w.runExpired e l p u).seq ∧ w.seq.StatesStand (w.restExpired e l p u).seq := by
  have other : ∀ x, x ≠ .off → x ≠ .running → u.state ≠ x := fun x ho hr h =>
    st.elim (fun k => ho (h.symm.trans k)) fun k => hr (h.symm.trans k)
  refine ⟨?_, ?_, ?_, ?_⟩
  · unfold Work.proveExpired
    split
    · exact statesStand_refl _
    · dsimp only
      rw [if_neg]
      · exact stand_onUnit fun _ => rfl
      · exact fun h => h.elim (other _ (by simp) (by simp)) (other _ (by simp) (by simp))
  · unfold Work.stopExpired
    dsimp only
    rw [if_neg (other _ (by simp) (by simp))]
    exact stand_onUnit fun _ => rfl
  · unfold Work.runExpired
    have idle : w.seq.StatesStand (w.onUnit l p fun v => { v with run := .idle }).seq := stand_onUnit fun _ => rfl
    dsimp only
    split
    · unfold Work.tryDown
      split
      · exact (stand_actDown shadow).after idle
      · exact idle
    · exact idle
  · unfold Work.restExpired
    dsimp only
    rw [if_neg (other _ (by simp) (by simp))]
    exact stand_onUnit fun _ => rfl

end

end Sys2Proof.Machine

/-! SUPPORT. The interlock law over what a command does: the sequencer's work keeps it live and in shadow mode, and the
other work leaves the states of the units as they stand. -/

namespace Sys2Proof.Machine

/-! ## The law of one sequencer -/

/-- The law as it reads live and in shadow mode. -/
def Sequencer.FlowMet (shadow : Bool) (q : Sequencer) : Prop :=
  (shadow = false → q.Flows) ∧ (shadow = true → q.Tracks)

theorem flowKept_iff (s : State) :
    FlowKept s ↔ s.seq.FlowMet s.fc.shadow ∧ (s.rst = true → ∀ l u, u ∈ (s.seq.ladder l).units → u = none) := by
  constructor
  · rintro ⟨live, tracked, reset⟩
    exact ⟨⟨live, fun h => (tracks_iff _).mpr (tracked h)⟩, reset⟩
  · rintro ⟨⟨live, tracked⟩, reset⟩
    exact ⟨live, fun h => (tracks_iff _).mp (tracked h), reset⟩

section
variable {q r : Sequencer} {b : Bool}

theorem flowMet_of_stand (h : q.FlowMet b) (k : q.StatesStand r) : r.FlowMet b :=
  ⟨fun live => flows_of_eases (h.1 live) (eases_of_stand k), fun shadow => tracks_of_stand (h.2 shadow) k⟩

theorem statesStand_each {f g : PlantUnit → PlantUnit} (hf : ∀ u, (f u).state = u.state)
    (hg : ∀ u, (g u).state = u.state) :
    q.StatesStand { q with
      chillers := { q.chillers with units := q.chillers.units.map (·.map f) },
      pumps := { q.pumps with units := q.pumps.units.map (·.map g) } } :=
  statesStand_both (map_state_each hf) (map_state_each hg)

/-- A unit replaced by one in the same state. -/
theorem stand_setUnit {l : LadderId} {p : Nat} {u v : PlantUnit} (unit : (q.ladder l).unitAt p = some u)
    (state : v.state = u.state) : q.StatesStand (q.setLadder l ((q.ladder l).setUnit p (some v))) := by
  refine statesStand_setLadder fun n => ?_
  rw [unitAt_setUnit]
  split_ifs with hn
  · rw [hn.1, unit, Option.map_some, Option.map_some, state]
  · rfl

/-- What stands at one position is replaced by nothing, or by a unit in OFF, where no unit was in service. -/
theorem flowMet_setUnit (h : q.FlowMet b) {l : LadderId} {p : Nat} {o : Option PlantUnit}
    (was : ∀ u, (q.ladder l).unitAt p = some u → u.inService = false) (now : ∀ u, o = some u → u.state = .off) :
    (q.setLadder l ((q.ladder l).setUnit p o)).FlowMet b := by
  have back : ∀ m n v, ((q.setLadder l ((q.ladder l).setUnit p o)).ladder m).unitAt n = some v →
      v.state = .off ∨ (q.ladder m).unitAt n = some v := by
    intro m n v hv
    by_cases hm : m = l
    · rw [hm, ladder_setLadder, unitAt_setUnit] at hv
      split_ifs at hv
      · exact .inl (now v hv)
      · exact .inr (hm ▸ hv)
    · rw [ladder_setLadder_of_ne _ _ hm] at hv
      exact .inr hv
  have forth : ∀ m n u, (q.ladder m).unitAt n = some u → u.inService = true →
      ((q.setLadder l ((q.ladder l).setUnit p o)).ladder m).unitAt n = some u := by
    intro m n u hu hs
    by_cases hm : m = l
    · rw [hm, ladder_setLadder, unitAt_setUnit]
      split_ifs with hn
      · rw [was u (hn.1 ▸ hm ▸ hu)] at hs
        cases hs
      · exact hm ▸ hu
    · rw [ladder_setLadder_of_ne _ _ hm]
      exact hu
  refine ⟨fun live => flows_of_eases (h.1 live) ⟨fun need => ?_, fun serves => ?_⟩, fun shadow m n v hv => ?_⟩
  · obtain ⟨n, v, hv, hn⟩ := (needsFlow_iff _).mp need
    rcases back .chiller n v hv with off | hu
    · unfold PlantUnit.needsFlow PlantUnit.inService at hn
      rw [off] at hn
      cases hn
    · exact (needsFlow_iff _).mpr ⟨n, v, hu, hn⟩
  · obtain ⟨n, u, hu, hs⟩ := (serves_iff _).mp serves
    exact (serves_iff _).mpr ⟨n, u, forth .pump n u hu hs, hs⟩
  · rcases back m n v hv with off | hu
    · exact .inl off
    · exact h.2 shadow m n v hu

/-- A rotated ladder holds the same units. -/
theorem flowMet_rotate (h : q.FlowMet b) (l : LadderId) : (q.setLadder l (q.ladder l).rotate).FlowMet b := by
  have back : ∀ m n v, ((q.setLadder l (q.ladder l).rotate).ladder m).unitAt n = some v →
      ∃ k, (q.ladder m).unitAt k = some v := by
    intro m n v hv
    by_cases hm : m = l
    · rw [hm, ladder_setLadder] at hv
      obtain ⟨k, -, -, hk⟩ := unitAt_of_rotate hv
      exact ⟨k, hm ▸ hk⟩
    · rw [ladder_setLadder_of_ne _ _ hm] at hv
      exact ⟨n, hv⟩
  have forth : ∀ m n u, (q.ladder m).unitAt n = some u →
      ∃ k, ((q.setLadder l (q.ladder l).rotate).ladder m).unitAt k = some u := by
    intro m n u hu
    by_cases hm : m = l
    · subst hm
      rw [ladder_setLadder]
      exact ⟨_, (unitAt_rotate_movedTo _ (mem_occupied.mpr ⟨u, hu⟩)).trans hu⟩
    · rw [ladder_setLadder_of_ne _ _ hm]
      exact ⟨n, hu⟩
  refine ⟨fun live => flows_of_eases (h.1 live) ⟨fun need => ?_, fun serves => ?_⟩, fun shadow m n v hv => ?_⟩
  · obtain ⟨n, v, hv, hn⟩ := (needsFlow_iff _).mp need
    obtain ⟨k, hk⟩ := back .chiller n v hv
    exact (needsFlow_iff _).mpr ⟨k, v, hk, hn⟩
  · obtain ⟨n, u, hu, hs⟩ := (serves_iff _).mp serves
    obtain ⟨k, hk⟩ := forth .pump n u hu
    exact (serves_iff _).mpr ⟨k, u, hk, hs⟩
  · obtain ⟨k, hk⟩ := back m n v hv
    exact h.2 shadow m k v hk

end

/-! ## Requests -/

section
variable {s t : State}

/-- The law of the state's sequencer, in the mode the part is in. -/
def State.FlowMet (s : State) : Prop := s.seq.FlowMet s.fc.shadow

theorem flowMet_congr (h : s.FlowMet) (hq : t.seq = s.seq) (hs : t.fc.shadow = s.fc.shadow) : t.FlowMet := by
  unfold State.FlowMet
  rw [hq, hs]
  exact h

theorem flowMet_standing (h : s.FlowMet) (hq : s.seq.StatesStand t.seq) (hs : t.fc.shadow = s.fc.shadow) :
    t.FlowMet := by
  unfold State.FlowMet
  rw [hs]
  exact flowMet_of_stand h hq

/-- The sequencer's work, live and in shadow mode. -/
theorem flowMet_sequence {f : SeqEnv → Work → Work} (h : s.FlowMet)
    (live : s.fc.shadow = false → s.seq.Flows → (f s.seqEnv ⟨s.seq, []⟩).seq.Flows)
    (shadow : s.fc.shadow = true → s.seq.Tracks → (f s.seqEnv ⟨s.seq, []⟩).seq.Tracks) : (s.sequence f).FlowMet :=
  ⟨fun hl => live hl (h.1 hl), fun hs => shadow hs (h.2 hs)⟩

/-- Work that is done live only. -/
theorem flowMet_sequence_live {f : SeqEnv → Work → Work} (h : s.FlowMet) (mode : s.fc.shadow = false)
    (live : s.seq.Flows → (f s.seqEnv ⟨s.seq, []⟩).seq.Flows) : (s.sequence f).FlowMet :=
  flowMet_sequence h (fun _ => live) fun hs => by rw [mode] at hs; cases hs

theorem atRest_idle {u : PlantUnit} (h : u.atRest = true) : u.inService = false := by
  unfold PlantUnit.atRest at h
  split at h
  next hst => exact idle_of_state hst (by simp) (by simp)
  next hst => exact idle_of_state hst (by simp) (by simp)
  next hst => exact idle_of_state hst (by simp) (by simp)
  next hst => exact idle_of_state hst (by simp) (by simp)
  all_goals cases h

theorem flowMet_serveUnitLoad (h : s.FlowMet) (p : Port) (b : UnitLoadBody) : (serveUnitLoad p b s).1.FlowMet := by
  unfold serveUnitLoad
  split
  · exact h
  · split
    · exact h
    next l n _ =>
      split_ifs with _ _ rest
      · exact h
      · dsimp only
        unfold emptyUnit
        split
        · exact h
        next u hu =>
          rw [hu] at rest
          refine flowMet_setUnit (o := none) h (fun v hv => ?_) fun v hv => by cases hv
          rw [show (s.seq.ladder l).unitAt n = some u from hu] at hv
          cases hv
          exact atRest_idle rest
      · exact h
      · split
        · exact h
        · dsimp only
          unfold applyUnit
          split
          next empty =>
            refine flowMet_setUnit h (fun v hv => ?_) fun v hv => by cases hv; rfl
            rw [show (s.seq.ladder l).unitAt n = none from empty] at hv
            cases hv
          next unit => exact flowMet_standing h (stand_setUnit unit rfl) rfl

theorem flowMet_serveTimerReload (h : s.FlowMet) (p : Port) (l q k : Octet) :
    (serveTimerReload p l q k s).1.FlowMet := by
  unfold serveTimerReload reloadLadderTimer reloadUnitTimer
  dsimp only
  repeat' split
  any_goals exact h
  · exact flowMet_standing h (statesStand_setLadder fun n => congrArg (·.map (·.state)) (unitAt_of_units rfl n)) rfl
  · exact flowMet_standing h (statesStand_setLadder fun n => congrArg (·.map (·.state)) (unitAt_of_units rfl n)) rfl
  next unit _ _ => exact flowMet_standing h (stand_setUnit unit (setTimer_state _ _ _)) rfl

theorem statesStand_setHold (q : Sequencer) (sel : Bool × Bool) (v : Bool) : q.StatesStand (q.setHold sel v) := by
  refine statesStand_both (fun p => ?_) fun p => ?_
  · split <;> exact congrArg (·.map (·.state)) (unitAt_of_units rfl p)
  · split <;> exact congrArg (·.map (·.state)) (unitAt_of_units rfl p)

/-- A unit in OUT, OFF, RESTING or TRIPPED moves to another of these. -/
theorem flowMet_enter_named (h : s.FlowMet) (mode : s.fc.shadow = false) {x : NamedUnit} {st : UnitState}
    {d : Option Demand} {f : Work → PlantUnit → PlantUnit} (unit : s.unit? x.ladder x.position = some x.unit)
    (idle : x.unit.inService = false) (out : st ≠ .starting ∧ st ≠ .running ∧ st ≠ .hand .run) :
    (s.sequence fun e w => w.enter e x.ladder x.position st d (f w)).FlowMet :=
  flowMet_sequence_live h mode fun flows => flows_enter_idle (w := ⟨s.seq, []⟩) flows unit idle out

theorem serves_of_not_handRunBars {x : NamedUnit} (h : ¬ handRunBars x s = true) (hl : x.ladder = .chiller) :
    s.seq.pumps.serves = true := by
  unfold handRunBars at h
  simp only [hl, decide_true, Bool.true_and, Bool.or_eq_true, Bool.not_eq_true', not_or] at h
  exact Bool.not_eq_false _ ▸ h.2

theorem flowMet_serveUnitHand (h : s.FlowMet) (p : Port) (l q d : Octet) : (serveUnitHand p l q d s).1.FlowMet := by
  unfold serveUnitHand
  split
  · exact h
  next x found =>
    obtain ⟨unit, -, mode⟩ := panelUnit_ok found
    split
    · exact h
    next d _ =>
      split_ifs with _ bars
      · exact h
      · exact h
      · refine flowMet_sequence_live h mode fun flows => ?_
        refine flows_takeInHand (w := ⟨s.seq, []⟩) flows unit fun hl hd => ?_
        subst hd
        exact serves_of_not_handRunBars bars hl

theorem flowMet_of_servedUnit {p : Port} {r : State × Reply} (h : s.FlowMet) (served : ServedUnit p s r) :
    r.1.FlowMet := by
  cases served with
  | load b => exact flowMet_serveUnitLoad h p b
  | stageHold o =>
    unfold serveStageHold
    split
    · exact h
    · exact flowMet_standing h (statesStand_setHold _ _ _) rfl
  | stageFree o =>
    unfold serveStageFree
    split
    · exact h
    · exact flowMet_standing h (statesStand_setHold _ _ _) rfl
  | hand l q d => exact flowMet_serveUnitHand h p l q d
  | auto l q =>
    unfold serveUnitAuto
    split
    · exact h
    next found =>
      obtain ⟨unit, -, mode⟩ := panelUnit_ok found
      split
      · exact flowMet_sequence_live h mode fun flows => flows_takeOutOfHand (w := ⟨s.seq, []⟩) flows unit
      · exact h
  | clear l q =>
    unfold serveUnitClear
    split
    · exact h
    next x found =>
      obtain ⟨unit, -, mode⟩ := guardedUnit_ok found
      split
      next hst =>
        split
        · exact h
        · exact flowMet_enter_named h mode (f := fun w u => { u with rest := .start (w.seq.ladder x.ladder).periods.rest })
            unit (idle_of_state hst (by simp) (by simp)) (by simp)
      · exact h
  | disable l q =>
    unfold serveUnitDisable
    split
    · exact h
    next found =>
      obtain ⟨unit, -, mode⟩ := guardedUnit_ok found
      have out := fun idle => flowMet_enter_named (st := .out) (d := none) (f := fun _ => id) h mode unit idle (by simp)
      split
      next hst => exact out (idle_of_state hst (by simp) (by simp))
      next hst => exact out (idle_of_state hst (by simp) (by simp))
      next hst => exact out (idle_of_state hst (by simp) (by simp))
      · exact h
  | enable l q =>
    unfold serveUnitEnable
    split
    · exact h
    next x found =>
      obtain ⟨unit, -, mode⟩ := guardedUnit_ok found
      split
      next hst =>
        have idle := idle_of_state hst (by simp) (by simp)
        refine flowMet_sequence_live h mode fun flows => ?_
        unfold Work.enable
        split
        · exact flows_enter_idle (w := ⟨s.seq, []⟩) flows unit idle (by simp)
        · exact flows_enter_idle (w := ⟨s.seq, []⟩) flows unit idle (by simp)
      · exact h
  | periodSet l k n =>
    unfold serveTimerPeriodSet
    repeat' split
    any_goals exact h
    exact flowMet_standing h (statesStand_setLadder fun n => congrArg (·.map (·.state)) (unitAt_of_units rfl n)) rfl
  | reload l q k => exact flowMet_serveTimerReload h p l q k

theorem stopAll_of_shadow {e : SeqEnv} (h : e.shadow = true) (w : Work) : w.stopAll e = w := if_pos h

theorem flowMet_setLatch (h : s.FlowMet) (n : Nat) (d : Int) : (s.setLatch n d).FlowMet := by
  unfold State.setLatch
  split
  · exact h
  · have noted : (({ s with inputs := { s.inputs with stopLatch := true } } : State).notes
        [⟨.stopLatchOn, channelSubject n, d⟩]).FlowMet := h
    refine flowMet_sequence noted (fun _ flows => flows_stopAll (w := ⟨s.seq, []⟩) flows) fun hs tracks => ?_
    rw [stopAll_of_shadow hs]
    exact tracks

theorem statesStand_updateHold (s : State) : s.seq.StatesStand s.updateHold.seq :=
  statesStand_of_ladders fun l => by cases l <;> rfl

theorem flowMet_updateHold (h : s.FlowMet) : s.updateHold.FlowMet := flowMet_standing h (statesStand_updateHold s) rfl

theorem flowMet_withInputs (h : s.FlowMet) (x : Inputs) : ({ s with inputs := x } : State).FlowMet :=
  flowMet_congr h rfl rfl

theorem flowMet_notes (h : s.FlowMet) (rs : List Note) : (s.notes rs).FlowMet := flowMet_congr h rfl rfl

theorem flowMet_takeEdge (h : s.FlowMet) (n : Nat) (c : Channel) (high : Bool) (position : Option Nat) :
    (takeEdge n c high position s).FlowMet := by
  unfold takeEdge
  extract_lets c' t
  have held : t.FlowMet := flowMet_updateHold (flowMet_notes (flowMet_withInputs h _) _)
  split
  · exact flowMet_setLatch held _ _
  · exact held

theorem flowMet_takeLevel (h : s.FlowMet) (n : Nat) (high : Bool) (position : Option Nat) :
    (takeLevel n high position s).FlowMet := by
  unfold takeLevel
  split
  · exact h
  · split_ifs
    · exact h
    · exact flowMet_takeEdge h _ _ _ _
    · exact flowMet_updateHold (flowMet_withInputs h _)

theorem flowMet_sampleSlow (h : s.FlowMet) : (sampleSlow s).FlowMet := flowMet_takeLevel (flowMet_takeLevel h _ _ _) _ _ _

theorem flowMet_inputEdge (h : s.FlowMet) (n : Nat) (high : Bool) : (inputEdge n high s).FlowMet := by
  unfold inputEdge
  extract_lets x t
  have pinned : t.FlowMet := flowMet_withInputs h _
  split
  · exact pinned
  · exact flowMet_takeLevel pinned _ _ _

theorem flowMet_of_servedInput {p : Port} {r : State × Reply} (h : s.FlowMet) (served : ServedInput p s r) :
    r.1.FlowMet := by
  cases served with
  | channelSet n e a =>
    unfold serveChannelSet
    split
    · exact h
    · split
      · split_ifs
        · exact h
        · extract_lets c' t
          have held : t.FlowMet := flowMet_updateHold (flowMet_withInputs h _)
          dsimp only
          split
          · exact flowMet_setLatch held _ _
          · exact held
      · exact h
  | readCapture n =>
    unfold serveReadCapture
    repeat' split
    all_goals exact h
  | releaseStop =>
    unfold serveReleaseStop
    split_ifs
    all_goals exact h

theorem flowMet_writePumps (h : s.FlowMet) : s.writePumps.FlowMet :=
  flowMet_standing h (statesStand_both (fun _ => rfl) (map_state_each (writeSetpoint_state _))) rfl

theorem flowMet_servePlantLimitsSet (h : s.FlowMet) (b : LimitsBody) : (servePlantLimitsSet b s).1.FlowMet := by
  unfold servePlantLimitsSet
  dsimp only
  split
  · exact h
  · split
    · exact h
    · have header : (applyHeader b.headerAddress { s with limits := (carriedLimits b).ranged.related }).FlowMet := by
        rw [applyHeader_frame]
        exact h
      unfold applySetpoint
      dsimp only
      split
      · exact header
      · exact flowMet_writePumps header

/-- In shadow mode the chillers that need flow are the RUNNING ones, and the pumps that serve are the RUNNING ones. -/
theorem flows_of_tracks {q : Sequencer} (h : q.Tracks) (guard : ¬ (q.chillers.hasRunning && !q.pumps.hasRunning) = true) :
    q.Flows := by
  intro need
  obtain ⟨p, u, hu, hn⟩ := (needsFlow_iff _).mp need
  have running : u.state = .running := by
    rcases h .chiller p u hu with off | running
    · unfold PlantUnit.needsFlow PlantUnit.inService at hn
      rw [off] at hn
      cases hn
    · exact running
  have chillers : q.chillers.hasRunning = true :=
    (any_units_iff _ _).mpr ⟨p, u, hu, decide_eq_true running⟩
  have pumps : q.pumps.hasRunning = true := by simpa [chillers] using guard
  obtain ⟨n, v, hv, hr⟩ := (any_units_iff _ _).mp pumps
  refine (serves_iff _).mpr ⟨n, v, hv, ?_⟩
  unfold PlantUnit.inService
  rw [hr]
  rfl

theorem flowMet_serveGoLive (h : s.FlowMet) (p : Port) : (serveGoLive p s).1.FlowMet := by
  unfold serveGoLive
  split_ifs with _ shadow guard
  · exact h
  · exact h
  · exact h
  · have flows := flows_of_tracks (h.2 (by simpa using shadow)) guard
    have lived : ({ s.seq with chillers := s.seq.chillers.goLive, pumps := s.seq.pumps.goLive } : Sequencer).Flows :=
      flows_of_eases flows (eases_of_stand (statesStand_each (fun _ => rfl) fun _ => rfl))
    refine ⟨fun _ => ?_, fun hs => by cases hs⟩
    unfold goLive State.sequence
    dsimp only
    split
    · exact flows_stopAll lived
    · exact lived

theorem flowMet_served {p : Port} {r : State × Reply} (h : s.FlowMet) (served : Served p s r) : r.1.FlowMet := by
  cases served with
  | nothing hr => rw [hr]; exact h
  | branch hr => rw [(storeOnly_of_servedBranch s hr).frame]; exact h
  | schedule hr => rw [(storeOnly_of_servedSchedule s hr).frame]; exact h
  | unit hr => exact flowMet_of_servedUnit h hr
  | input hr => exact flowMet_of_servedInput h hr
  | rotate o =>
    unfold serveLadderRotate
    split
    · exact h
    · dsimp only
      split_ifs
      · exact h
      · exact h
      · exact flowMet_rotate h _
  | slotMap first count es => rw [serveSlotMapWrite_frame]; exact h
  | cycleSet n => exact h
  | fieldPass tag a os =>
    rcases serveFieldPass_cases s p tag a os with same | ⟨-, -, queued⟩
    · rw [same]; exact h
    · rw [queued, State.queuePass]
      exact flowMet_congr h (by rw [setPort_seq]) (by rw [setPort_fc])
  | limits b => exact flowMet_servePlantLimitsSet h b
  | goLive => exact flowMet_serveGoLive h p
  | snapshot => exact h
  | readEvents => exact h

/-! ## Cycle start, warm restart, events -/

theorem flowMet_beginCycle (h : s.FlowMet) : (beginCycle s).FlowMet := by
  refine flowMet_sampleSlow (flowMet_standing (s := s) h ?_ ?_)
  · have counted : (countCycle s).seq = s.seq := by
      unfold countCycle
      dsimp only
      split <;> rfl
    have fixed : ∀ u : State, (fixPeriod u).seq = u.seq := by
      intro u
      unfold fixPeriod
      dsimp only
      split_ifs <;> rfl
    unfold startCycle
    rw [fixed]
    change s.seq.StatesStand (countCycle s).seq.cycleStart
    rw [counted]
    exact statesStand_each (f := PlantUnit.cycleStart) (g := PlantUnit.cycleStart) (fun _ => rfl) fun _ => rfl
  · rw [startCycle_fc]

theorem statesStand_restartSequencer (s : State) : s.seq.StatesStand (restartSequencer s).seq := by
  intro l p
  cases l
  · exact (congrArg (·.map (·.state)) (unitAt_of_units rfl p)).trans (map_state_each (restart_state _ _) p)
  · exact (congrArg (·.map (·.state)) (unitAt_of_units rfl p)).trans (map_state_each (restart_state _ _) p)

theorem flowMet_warmRestart (h : s.FlowMet) (p : Port) : (warmRestart p s).FlowMet := by
  unfold warmRestart
  have restarted : (restartSequencer (restartTable (s.notes [⟨.warmRestart, linkSubject, portNumber p⟩]))).FlowMet :=
    flowMet_standing (s := restartTable (s.notes [⟨.warmRestart, linkSubject, portNumber p⟩])) h
      (statesStand_restartSequencer _) rfl
  refine flowMet_beginCycle (flowMet_congr restarted ?_ ?_)
  · rw [abortPasses_frame]
    dsimp only
    rw [(storeOnly_evaluateMode _).frame]
  · rw [abortPasses_frame]
    dsimp only
    rw [(storeOnly_evaluateMode _).frame]

theorem flowMet_setPort (h : s.FlowMet) (p : Port) (x : LinkPort) : (s.setPort p x).FlowMet :=
  flowMet_congr h (setPort_seq _ _ _) (congrArg FieldCycle.shadow (setPort_fc _ _ _))

theorem flowMet_taken {p : Port} (h : s.FlowMet) (taken : Taken p s t) : t.FlowMet := by
  cases taken with
  | answered tag kind served => exact flowMet_setPort (flowMet_served h served) _ _
  | restarted tag => exact flowMet_warmRestart (flowMet_setPort h p _) p

theorem stand_handReply {os : List Octet} {w : WindowTarget} (h : handReply s os w = some t) :
    s.seq.StatesStand t.seq := by
  unfold handReply at h
  split at h
  · split at h
    · cases h; exact statesStand_refl _
    · obtain ⟨r, -, rfl⟩ := Option.map_eq_some_iff.mp h
      exact statesStand_refl _
  · split at h
    · cases h; exact statesStand_refl _
    next unit =>
      obtain ⟨r, -, rfl⟩ := Option.map_eq_some_iff.mp h
      exact stand_setUnit unit rfl
  · split at h
    · cases h; exact statesStand_refl _
    · obtain ⟨r, -, rfl⟩ := Option.map_eq_some_iff.mp h
      exact statesStand_refl _
  · cases h; exact statesStand_refl _

theorem stand_fieldReply (s : State) (os : List Octet) : s.seq.StatesStand (fieldReply os s).seq := by
  unfold fieldReply
  split
  · exact statesStand_refl _
  · split
    · split
      · exact statesStand_refl _
      · exact statesStand_refl _
      · unfold takeGood
        dsimp only
        split
        next handed =>
          have stand := stand_handReply handed
          exact stand
        · exact statesStand_refl _
    · exact statesStand_refl _
    · exact statesStand_refl _

theorem flowMet_sequencerClosed (h : s.FlowMet) : (sequencerClosed s).FlowMet := by
  have closed : s.seq.StatesStand (Work.closeUnits s.limits ⟨s.seq, []⟩).seq :=
    statesStand_each (f := PlantUnit.close s.limits) (g := PlantUnit.close s.limits) (fun _ => rfl) fun _ => rfl
  have written : ∀ (w : Work) (n : Nat), w.seq.StatesStand (w.onLadder .chiller (·.writeSupply n)).seq := fun w n =>
    statesStand_setLadder (map_state_each fun _ => rfl)
  refine flowMet_sequence h (fun live flows => ?_) fun shadow tracks => ?_
  · have judged := flows_judgeAll (e := s.seqEnv) live s.seq (flows_of_eases flows (eases_of_stand closed))
    exact flows_evaluate (flows_of_eases judged (eases_of_stand (written _ _))) _
  · have judged := tracks_judgeAll (e := s.seqEnv) shadow s.seq (tracks_of_stand tracks closed)
    exact tracks_of_stand (tracks_of_stand judged (written _ s.seqEnv.supply)) (stand_evaluate shadow _)

theorem flowMet_readingsClosed (h : s.FlowMet) : (readingsClosed s).FlowMet := by
  unfold readingsClosed
  have pumps : (pressureClosed (monitorTable (meterTable s.fc.pEff (closeTable s)))).FlowMet :=
    flowMet_standing h (statesStand_both (fun _ => rfl) (map_state_each (writeSetpoint_state _))) rfl
  have staged := flowMet_sequencerClosed pumps
  rw [(storeOnly_storageClosed _ _ _).frame]
  exact staged

/-- An expiry of a unit's timer, live and in shadow mode. -/
theorem flowMet_expiry (h : s.FlowMet) {l : LadderId} {n : Nat} {u : PlantUnit} (unit : s.unit? l n = some u)
    {act : SeqEnv → Work → Work}
    (live : ∀ e (w : Work), w.seq.Flows → w.unit l n = some u → (act e w).seq.Flows)
    (shadow : ∀ e (w : Work), e.shadow = true → (u.state = .off ∨ u.state = .running) →
      w.seq.StatesStand (act e w).seq) : (s.sequence act).FlowMet :=
  flowMet_sequence h (fun _ flows => live _ ⟨s.seq, []⟩ flows unit) fun hs tracks =>
    tracks_of_stand tracks (shadow s.seqEnv ⟨s.seq, []⟩ hs (tracks l n u unit))

theorem flowMet_event (h : s.FlowMet) (event : Event s t) : t.FlowMet := by
  cases event with
  | cycleStart _ => exact flowMet_beginCycle h
  | mappedSlot =>
    have shadow : (mappedSlot s).fc.shadow = s.fc.shadow := by
      unfold mappedSlot serveSlot
      dsimp only
      repeat' split
      all_goals rfl
    exact flowMet_congr h (by rw [fieldOnly_mappedSlot s]) shadow
  | fieldReply os =>
    refine flowMet_standing h (stand_fieldReply s os) ?_
    rw [fieldReply_frame]
  | windowClose =>
    rcases windowClose_cases s with same | ⟨w, m, -, -, closed⟩ | ⟨e, st, os, -, ended⟩
    · rw [same]; exact h
    · rw [closed]; exact h
    · rw [ended, deferred_frame]; exact h
  | openSlot =>
    have shadow : (openSlot s).fc.shadow = s.fc.shadow := by
      unfold openSlot
      dsimp only
      repeat' split
      all_goals rfl
    exact flowMet_congr h (by rw [fieldOnly_openSlot s]) shadow
  | cycleEnd _ => exact flowMet_readingsClosed (s := endCycle s) h
  | secondMark =>
    refine flowMet_standing h (fun l p => ?_) rfl
    cases l
    · exact (congrArg (·.map (·.state)) (unitAt_of_units rfl p)).trans
        (map_state_each (f := PlantUnit.tick) (fun _ => rfl) p)
    · exact (congrArg (·.map (·.state)) (unitAt_of_units rfl p)).trans
        (map_state_each (f := PlantUnit.tick) (fun _ => rfl) p)
  | proveExpiry unit _ =>
    exact flowMet_expiry h unit (fun _ _ flows _ => flows_proveExpired flows) fun e w hs st =>
      (stand_expired_shadow (p := _) hs st).1
  | stopExpiry unit _ =>
    exact flowMet_expiry h unit (fun _ _ flows _ => flows_stopExpired flows) fun e w hs st =>
      (stand_expired_shadow hs st).2.1
  | runExpiry unit _ =>
    exact flowMet_expiry h unit (fun _ _ flows _ => flows_runExpired flows) fun e w hs st =>
      (stand_expired_shadow hs st).2.2.1
  | restExpiry unit _ =>
    exact flowMet_expiry h unit (fun _ _ flows at_n => flows_restExpired flows at_n) fun e w hs st =>
      (stand_expired_shadow hs st).2.2.2
  | @upExpiry l _ =>
    have idle : s.seq.StatesStand (Work.onLadder ⟨s.seq, []⟩ l fun L => { L with up := .idle }).seq :=
      stand_units (w := ⟨s.seq, []⟩) fun _ => rfl
    exact flowMet_sequence h (fun _ flows => flows_raiseUp (flows_of_eases flows (eases_of_stand idle)))
      fun hs tracks => tracks_of_stand (tracks_of_stand tracks idle) (stand_raiseUp hs)
  | @downExpiry l _ =>
    have idle : s.seq.StatesStand
        (Work.onLadder ⟨s.seq, []⟩ l fun L => { L with down := .idle, downPending := true }).seq :=
      stand_units (w := ⟨s.seq, []⟩) fun _ => rfl
    exact flowMet_sequence h (fun _ flows => flows_actDown (flows_of_eases flows (eases_of_stand idle)))
      fun hs tracks => tracks_of_stand (tracks_of_stand tracks idle) (stand_actDown hs)
  | windowBoundary _ => rw [(storeOnly_evaluateMode _).frame]; exact h

/-! ## The law of every step -/

theorem flowKept_of_released (h : s.FlowMet) (hrst : s.rst = false) : FlowKept s :=
  (flowKept_iff s).mpr ⟨h, fun hr => by rw [hrst] at hr; cases hr⟩

theorem flowKept_setPort (h : FlowKept s) (p : Port) (x : LinkPort) : FlowKept (s.setPort p x) := by
  rw [flowKept_iff] at h ⊢
  exact ⟨flowMet_setPort h.1 p x, by rw [setPort_rst, setPort_seq]; exact h.2⟩

/-- Ladders that hold no unit meet the law in either mode. -/
theorem flowMet_of_empty {q : Sequencer} (h : ∀ l u, u ∈ (q.ladder l).units → u = none) (b : Bool) : q.FlowMet b := by
  have none : ∀ l p u, (q.ladder l).unitAt p ≠ some u := by
    intro l p u hu
    have := h l (some u) ((mem_units_iff _).mpr ⟨p, hu⟩)
    cases this
  refine ⟨fun _ need => ?_, fun _ l p u hu => absurd hu (none l p u)⟩
  obtain ⟨p, u, hu, -⟩ := (needsFlow_iff _).mp need
  exact absurd hu (none .chiller p u)

theorem flowKept_does (h : FlowKept s) (does : Does s t) : FlowKept t := by
  cases does with
  | idles => exact h
  | logs _ => exact flowKept_setPort h _ _
  | @takes p x _ _ hrst _ taken =>
    have met := ((flowKept_iff _).mp (flowKept_setPort h p x)).1
    exact flowKept_of_released (flowMet_taken met taken) (((taken_pending_rst taken).2.trans (setPort_rst _ _ _)).trans hrst)
  | sends p => exact flowKept_setPort h _ _
  | event hrst event =>
    exact flowKept_of_released (flowMet_event ((flowKept_iff s).mp h).1 event) ((event_pending_rst event).2.trans hrst)
  | edge n high =>
    cases hrst : s.rst with
    | false =>
      have met := flowMet_inputEdge ((flowKept_iff s).mp h).1 n high
      exact flowKept_of_released met (by rw [(inputOnly_inputEdge s n high).frame]; exact hrst)
    | true =>
      have pinned : inputEdge n high s = { s with inputs := { s.inputs with pins := s.inputs.pins.set (n - 1) high } } := by
        unfold inputEdge
        dsimp only
        rw [hrst]
        rfl
      rw [pinned]
      exact ⟨h.live, h.tracked, h.reset⟩
  | coldReset => exact ⟨flowKept_reset.live, flowKept_reset.tracked, flowKept_reset.reset⟩
  | release shadow rate hrst =>
    refine flowKept_of_released (flowMet_beginCycle ?_) (beginCycle_rst _)
    exact flowMet_of_empty (h.reset hrst) shadow

end

/-- Settles O57: live by what each act on a pump or a chiller owes the interlock, in shadow mode by the tracking. -/
theorem flowKeptByEveryStep : Obligations.FlowKeptByEveryStep := fun _ _ hs h =>
  step_keeps (fun _ _ k => ⟨k.live, k.tracked, k.reset⟩) (fun _ _ => flowKept_does) hs h

end Sys2Proof.Machine

/-! SUPPORT. The storage law (09, R154, R155) over what a command does: the scheduler's two pieces of work bring it about,
and the other work leaves the STORAGE record's limits and the scheduler as they stand. -/

namespace Sys2Proof.Machine

/-! ## The storage descriptors of the table -/

/-- The storage descriptor of the record at an index. -/
def State.tankAt (s : State) (i : Nat) : Option StorageDesc := (s.branch? i).bind Branch.storageDesc

/-- At most one record has a storage descriptor. -/
def State.OneTank (s : State) : Prop := ∀ i j c d, s.tankAt i = some c → s.tankAt j = some d → i = j

theorem isStorage_eq (b : Branch) : b.isStorage = b.storageDesc.isSome := by
  unfold Branch.isStorage Branch.storageDesc
  cases b.part <;> rfl

theorem branch?_eq_some_iff {s : State} {i : Nat} {b : Branch} :
    s.branch? i = some b ↔ s.branches[i]? = some (some b) := by
  unfold State.branch?
  rcases s.branches[i]? with _ | _ | c <;> simp

section
variable {s t : State}

theorem tankAt_of_branch {i : Nat} {b : Branch} (h : s.branch? i = some b) : s.tankAt i = b.storageDesc := by
  unfold State.tankAt
  rw [h]
  rfl

theorem tankAt_eq_some_iff {i : Nat} {d : StorageDesc} :
    s.tankAt i = some d ↔ ∃ b, s.branch? i = some b ∧ b.storageDesc = some d := Option.bind_eq_some_iff

theorem oneTank_iff : storageCount s.branches ≤ 1 ↔ s.OneTank := by
  unfold storageCount
  rw [countP_le_one_iff]
  constructor
  · intro h i j c d hi hj
    obtain ⟨b, hb, hc⟩ := tankAt_eq_some_iff.mp hi
    obtain ⟨x, hx, hd⟩ := tankAt_eq_some_iff.mp hj
    refine h i j _ _ (branch?_eq_some_iff.mp hb) (branch?_eq_some_iff.mp hx) ?_ ?_
    · rw [Option.any_some, isStorage_eq, hc]
      rfl
    · rw [Option.any_some, isStorage_eq, hd]
      rfl
  · intro h i j a c hi hj ha hc
    obtain ⟨b, rfl, hb⟩ := Option.any_eq_true _ _ |>.mp ha
    obtain ⟨x, rfl, hx⟩ := Option.any_eq_true _ _ |>.mp hc
    rw [isStorage_eq, Option.isSome_iff_exists] at hb hx
    obtain ⟨d, hd⟩ := hb
    obtain ⟨e, he⟩ := hx
    exact h i j d e (tankAt_eq_some_iff.mpr ⟨b, branch?_eq_some_iff.mpr hi, hd⟩)
      (tankAt_eq_some_iff.mpr ⟨x, branch?_eq_some_iff.mpr hj, he⟩)

/-! ## The STORAGE record the table yields -/

theorem isStorage_of_storage {i : Nat} {b : Branch} (h : s.storage = some (i, b)) : b.isStorage = true := by
  obtain ⟨⟨o, j⟩, -, heq⟩ := List.exists_of_findSome?_eq_some h
  cases o with
  | none => simp at heq
  | some c =>
    obtain ⟨hc, rfl, rfl⟩ : c.isStorage = true ∧ j = i ∧ c = b := by simpa using heq
    exact hc

theorem storage_eq_none_iff : s.storage = none ↔ ∀ i, s.tankAt i = none := by
  unfold State.storage storageIn
  rw [List.findSome?_eq_none_iff]
  constructor
  · intro h i
    rw [Option.eq_none_iff_forall_ne_some]
    intro d hd
    obtain ⟨b, hb, hbd⟩ := tankAt_eq_some_iff.mp hd
    have := h (some b, i) (List.mem_zipIdx_iff_getElem?.mpr (branch?_eq_some_iff.mp hb))
    simp [isStorage_eq, hbd] at this
  · rintro h ⟨o, i⟩ hmem
    cases o with
    | none => rfl
    | some b =>
      have hb : s.branch? i = some b := branch?_eq_some_iff.mpr (List.mem_zipIdx_iff_getElem?.mp hmem)
      have := h i
      rw [tankAt_of_branch hb] at this
      simp [isStorage_eq, this]

theorem storagePart_of_storage {i : Nat} {b : Branch} (h : s.storage = some (i, b)) :
    storagePart s.storage = b.storageDesc ∧ s.tankAt i = b.storageDesc := by
  rw [h]
  exact ⟨rfl, tankAt_of_branch (branch?_of_storage h)⟩

theorem storagePart_isSome (s : State) : (storagePart s.storage).isSome = s.storage.isSome := by
  cases h : s.storage with
  | none => rfl
  | some x =>
    obtain ⟨i, b⟩ := x
    have := isStorage_of_storage h
    rw [isStorage_eq] at this
    exact this

theorem storagePart_eq_none_iff : storagePart s.storage = none ↔ s.storage = none := by
  rw [← Option.isNone_iff_eq_none, ← Option.isNone_iff_eq_none, ← Option.not_isSome, ← Option.not_isSome,
    storagePart_isSome]

theorem exists_tankAt_of_storagePart {d : StorageDesc} (h : storagePart s.storage = some d) :
    ∃ i, s.tankAt i = some d := by
  cases hs : s.storage with
  | none => rw [hs] at h; cases h
  | some x =>
    obtain ⟨part, tank⟩ := storagePart_of_storage (i := x.1) (b := x.2) hs
    exact ⟨x.1, tank.trans (part.symm.trans h)⟩

theorem storagePart_of_tankAt (one : s.OneTank) {i : Nat} {d : StorageDesc} (h : s.tankAt i = some d) :
    storagePart s.storage = some d := by
  cases hs : storagePart s.storage with
  | none =>
    rw [storage_eq_none_iff.mp (storagePart_eq_none_iff.mp hs) i] at h
    cases h
  | some e =>
    obtain ⟨j, hj⟩ := exists_tankAt_of_storagePart hs
    obtain rfl := one i j d e h hj
    exact hj.symm.trans h

theorem oneTank_of_same (h : ∀ i, t.tankAt i = s.tankAt i) (one : s.OneTank) : t.OneTank := by
  intro i j c d hi hj
  exact one i j c d ((h i).symm.trans hi) ((h j).symm.trans hj)

theorem storagePart_of_same (h : ∀ i, t.tankAt i = s.tankAt i) (one : s.OneTank) :
    storagePart t.storage = storagePart s.storage := by
  cases hs : storagePart s.storage with
  | none =>
    have none := storage_eq_none_iff.mp (storagePart_eq_none_iff.mp hs)
    exact storagePart_eq_none_iff.mpr (storage_eq_none_iff.mpr fun i => (h i).trans (none i))
  | some d =>
    obtain ⟨i, hi⟩ := exists_tankAt_of_storagePart hs
    exact storagePart_of_tankAt (oneTank_of_same h one) ((h i).trans hi)

theorem tankAt_setBranch (i : Nat) (b : Option Branch) (j : Nat) :
    (s.setBranch i b).tankAt j =
      if i = j ∧ i < s.branches.length then b.bind Branch.storageDesc else s.tankAt j := by
  unfold State.tankAt State.branch? State.setBranch
  rw [List.getElem?_set]
  by_cases hij : i = j
  · by_cases hlt : i < s.branches.length
    · rw [if_pos hij, if_pos hlt, if_pos ⟨hij, hlt⟩, Option.join_some]
    · rw [if_pos hij, if_neg hlt, if_neg (fun h => hlt h.2), ← hij, List.getElem?_eq_none (by omega)]
  · rw [if_neg hij, if_neg fun h => hij h.1]

/-- A record replaced by one with the same storage part. -/
theorem tankAt_setBranch_same {i : Nat} {b : Option Branch} (h : b.bind Branch.storageDesc = s.tankAt i) (j : Nat) :
    (s.setBranch i b).tankAt j = s.tankAt j := by
  rw [tankAt_setBranch]
  split_ifs with hij
  · rw [h, hij.1]
  · rfl

/-- Every record worked on by a function that keeps its storage part. -/
theorem tankAt_of_branch?_map {f : Branch → Branch} {i : Nat} (h : t.branch? i = (s.branch? i).map f)
    (keeps : ∀ b, (f b).storageDesc = b.storageDesc) : t.tankAt i = s.tankAt i := by
  unfold State.tankAt
  rw [h, Option.bind_map]
  exact congrArg _ (funext keeps)

theorem tankAt_map_branches {f : Branch → Branch} (h : t.branches = s.branches.map (·.map f))
    (keeps : ∀ b, (f b).storageDesc = b.storageDesc) (i : Nat) : t.tankAt i = s.tankAt i := by
  refine tankAt_of_branch?_map (f := f) ?_ keeps
  unfold State.branch?
  rw [h, List.getElem?_map]
  rcases s.branches[i]? with _ | _ | b <;> rfl

theorem tankAt_of_branches (h : t.branches = s.branches) (i : Nat) : t.tankAt i = s.tankAt i := by
  unfold State.tankAt State.branch?
  rw [h]

end

/-! ## The scheduler against the storage part of the table -/

/-- SOC and the flags are right for the storage part loaded. -/
structure Scheduler.Flagged (o : Option StorageDesc) (q : Scheduler) : Prop where
  bound  : ∀ d, o = some d → 1 ≤ d.capacity ∧ q.soc ≤ d.full
  absent : o = none → q.soc = 0
  full   : q.full = o.any fun d => decide (q.soc = d.full)
  empty  : q.empty = (o.isSome && decide (q.soc = 0))

/-- And the mode is one that the flags allow. -/
structure Scheduler.Settled (o : Option StorageDesc) (q : Scheduler) : Prop extends q.Flagged o where
  idle      : o = none → q.mode = .hold
  charge    : q.mode = .charge → q.full = false
  discharge : q.mode = .discharge → q.empty = false

theorem storageLaw_iff (s : State) : StorageLaw s ↔ s.OneTank ∧ s.store.Settled (storagePart s.storage) := by
  constructor
  · intro h
    refine ⟨oneTank_iff.mp h.single, ⟨h.bound, fun ho => ?_, h.full, ?_⟩, fun ho => ?_, h.charge, h.discharge⟩
    · exact (h.absent (storagePart_eq_none_iff.mp ho)).1
    · rw [storagePart_isSome]
      exact h.empty
    · exact (h.absent (storagePart_eq_none_iff.mp ho)).2
  · rintro ⟨one, h⟩
    refine ⟨oneTank_iff.mpr one, h.bound, h.full, ?_, fun ho => ?_, h.charge, h.discharge⟩
    · rw [h.empty, storagePart_isSome]
      rfl
    · have none := storagePart_eq_none_iff.mpr ho
      exact ⟨h.absent none, h.idle none⟩

section
variable {q r : Scheduler} {o : Option StorageDesc} {st : Option (Nat × Branch)} {c : CycleCount}

theorem flagged_congr (h : q.Flagged o) (soc : r.soc = q.soc) (full : r.full = q.full) (empty : r.empty = q.empty) :
    r.Flagged o :=
  ⟨fun d hd => soc ▸ h.bound d hd, fun ho => soc.trans (h.absent ho), by rw [full, h.full, soc],
    by rw [empty, h.empty, soc]⟩

theorem settled_congr (h : q.Settled o) (soc : r.soc = q.soc) (full : r.full = q.full) (empty : r.empty = q.empty)
    (mode : r.mode = q.mode) : r.Settled o :=
  ⟨flagged_congr h.toFlagged soc full empty, fun ho => mode.trans (h.idle ho), by rw [mode, full]; exact h.charge,
    by rw [mode, empty]; exact h.discharge⟩

theorem setMode_mode (n : Nat) (m : StorageMode × Nat) (q : Scheduler) : (q.setMode c n m).1.mode = m.1 := by
  unfold Scheduler.setMode
  split
  next same => exact same.symm
  · rfl

theorem setMode_flagged (h : q.Flagged o) (n : Nat) (m : StorageMode × Nat) : (q.setMode c n m).1.Flagged o := by
  unfold Scheduler.setMode
  split
  · exact flagged_congr h rfl rfl rfl
  · exact flagged_congr h rfl rfl rfl

/-- R152's table: no record, no mode but HOLD. -/
theorem chooseMode_of_absent (q : Scheduler) (h : storagePart st = none) : (chooseMode q st).1 = .hold := by
  unfold chooseMode
  rw [h]
  split_ifs <;> simp

theorem windowMode_charge {d : StorageDesc} {w : TariffWindow} (h : (windowMode q d w).1 = .charge) :
    q.full = false := by
  unfold windowMode at h
  cases hf : q.full with
  | false => rfl
  | true =>
    split at h
    · rw [hf] at h; cases h
    · split_ifs at h
    · cases h

theorem windowMode_discharge {d : StorageDesc} {w : TariffWindow} (h : (windowMode q d w).1 = .discharge) :
    q.empty = false := by
  unfold windowMode at h
  cases he : q.empty with
  | false => rfl
  | true =>
    split at h
    · split_ifs at h
    · rw [he] at h; cases h
    · cases h

/-- A mode other than HOLD is what the current window asks for. -/
theorem chooseMode_cases (q : Scheduler) (st : Option (Nat × Branch)) :
    (chooseMode q st).1 = .hold ∨ ∃ d w, chooseMode q st = windowMode q d w := by
  unfold chooseMode
  split_ifs
  · exact .inl rfl
  · split
    next w d _ _ => exact .inr ⟨d, w, rfl⟩
    · exact .inl rfl
  · exact .inl rfl

theorem evaluate_settled (h : q.Flagged (storagePart st)) : (q.evaluate c st).1.Settled (storagePart st) := by
  have chosen : (q.evaluate c st).1.mode = (chooseMode q st).1 := setMode_mode _ _ _
  have keeps : (q.evaluate c st).1.full = q.full ∧ (q.evaluate c st).1.empty = q.empty := by
    unfold Scheduler.evaluate Scheduler.setMode
    split <;> exact ⟨rfl, rfl⟩
  have flagged : (q.evaluate c st).1.Flagged (storagePart st) :=
    setMode_flagged (q := { q with window := q.findWindow.map (·.start) }) (flagged_congr h rfl rfl rfl) _ _
  refine ⟨flagged, fun ho => chosen.trans (chooseMode_of_absent q ho), ?_, ?_⟩
  · rw [chosen, keeps.1]
    intro hm
    rcases chooseMode_cases q st with hold | ⟨d, w, asked⟩
    · rw [hold] at hm; cases hm
    · rw [asked] at hm
      exact windowMode_charge hm
  · rw [chosen, keeps.2]
    intro hm
    rcases chooseMode_cases q st with hold | ⟨d, w, asked⟩
    · rw [hold] at hm; cases hm
    · rw [asked] at hm
      exact windowMode_discharge hm

/-- The flags brought up to date with a SOC in its bound. -/
theorem sync_flagged (hst : (storagePart st).isSome = st.isSome)
    (bound : ∀ d, storagePart st = some d → 1 ≤ d.capacity ∧ q.soc ≤ d.full) (absent : storagePart st = none → q.soc = 0) :
    (q.sync c st).1.Flagged (storagePart st) := by
  have flagged : ({ q with full := isFull st q.soc, empty := isEmpty st q.soc } : Scheduler).Flagged (storagePart st) :=
    ⟨bound, absent, rfl, by rw [hst]; rfl⟩
  unfold Scheduler.sync
  dsimp only
  split
  · exact setMode_flagged flagged _ _
  · exact flagged

/-- No CHARGE of a full tank and no DISCHARGE of an empty one after the flags are brought up to date; HOLD stays. -/
theorem sync_mode (q : Scheduler) (c : CycleCount) (st : Option (Nat × Branch)) :
    ((q.sync c st).1.mode = .charge → (q.sync c st).1.full = false) ∧
      ((q.sync c st).1.mode = .discharge → (q.sync c st).1.empty = false) ∧
      (q.mode = .hold → (q.sync c st).1.mode = .hold) := by
  unfold Scheduler.sync
  dsimp only
  split
  · rw [setMode_mode]
    exact ⟨nofun, nofun, fun _ => rfl⟩
  next unforced =>
    simp only [Bool.or_eq_true, Bool.and_eq_true, decide_eq_true_eq, not_or, not_and] at unforced
    exact ⟨fun h => Bool.eq_false_iff.mpr fun hf => unforced.1 hf h,
      fun h => Bool.eq_false_iff.mpr fun he => unforced.2 he h, id⟩

theorem sync_settled (hst : (storagePart st).isSome = st.isSome)
    (bound : ∀ d, storagePart st = some d → 1 ≤ d.capacity ∧ q.soc ≤ d.full)
    (absent : storagePart st = none → q.soc = 0 ∧ q.mode = .hold) : (q.sync c st).1.Settled (storagePart st) := by
  obtain ⟨charge, discharge, hold⟩ := sync_mode q c st
  exact ⟨sync_flagged hst bound fun ho => (absent ho).1, fun ho => hold (absent ho).2, charge, discharge⟩

end

/-! ## The law over the scheduler's work on the state -/

section
variable {s t : State}

theorem storageLaw_congr (h : StorageLaw s) (tanks : ∀ i, t.tankAt i = s.tankAt i)
    (store : t.store = s.store) : StorageLaw t := by
  obtain ⟨one, settled⟩ := (storageLaw_iff s).mp h
  refine (storageLaw_iff t).mpr ⟨oneTank_of_same tanks one, ?_⟩
  rw [storagePart_of_same tanks one, store]
  exact settled

/-- Nothing of the branch records and the scheduler differs. -/
theorem storageLaw_of_same (h : StorageLaw s) (branches : t.branches = s.branches) (store : t.store = s.store) :
    StorageLaw t := storageLaw_congr h (tankAt_of_branches branches) store

theorem withStorageCmd_storageDesc (c : StorageCmd) (b : Branch) :
    (b.withStorageCmd c).storageDesc = b.storageDesc := by
  unfold Branch.withStorageCmd
  cases hp : b.part with
  | storage d n cur => simp [Branch.storageDesc, hp]
  | consumer t n cur => rfl

theorem tankAt_writeStorageCmd (s : State) (i : Nat) : s.writeStorageCmd.tankAt i = s.tankAt i := by
  rcases branch?_writeStorageCmd s i with same | written
  · unfold State.tankAt
    rw [same]
  · exact tankAt_of_branch?_map written (withStorageCmd_storageDesc _)

theorem storageLaw_writeStorageCmd (h : StorageLaw s) : StorageLaw s.writeStorageCmd :=
  storageLaw_congr h (tankAt_writeStorageCmd s) (by rw [writeStorageCmd_frame])

/-- The scheduler's work on a state whose table stands. -/
theorem storageLaw_schedule {f : CycleCount → Option (Nat × Branch) → Scheduler → Scheduler × List Note}
    (one : s.OneTank) (settled : (f s.fc.count s.storage s.store).1.Settled (storagePart s.storage)) :
    StorageLaw (s.schedule f) :=
  (storageLaw_iff (s.schedule f)).mpr ⟨oneTank_of_same (tankAt_of_branches rfl) one, settled⟩

theorem storageLaw_evaluate (one : s.OneTank) (flagged : s.store.Flagged (storagePart s.storage)) :
    StorageLaw (s.schedule Scheduler.evaluate) := storageLaw_schedule one (evaluate_settled flagged)

theorem storageLaw_evaluateMode (one : s.OneTank) (flagged : s.store.Flagged (storagePart s.storage)) :
    StorageLaw s.evaluateMode := storageLaw_writeStorageCmd (storageLaw_evaluate one flagged)

/-- An evaluation of a scheduler whose SOC and flags stand as they were. -/
theorem storageLaw_evaluateMode_with (h : StorageLaw s) (q : Scheduler) (soc : q.soc = s.store.soc)
    (full : q.full = s.store.full) (empty : q.empty = s.store.empty) :
    StorageLaw ({ s with store := q } : State).evaluateMode := by
  obtain ⟨one, settled⟩ := (storageLaw_iff s).mp h
  exact storageLaw_evaluateMode (s := { s with store := q }) one (flagged_congr settled.toFlagged soc full empty)

theorem storageLaw_with (h : StorageLaw s) (q : Scheduler) (soc : q.soc = s.store.soc) (full : q.full = s.store.full)
    (empty : q.empty = s.store.empty) (mode : q.mode = s.store.mode) : StorageLaw { s with store := q } := by
  obtain ⟨one, settled⟩ := (storageLaw_iff s).mp h
  exact (storageLaw_iff _).mpr ⟨one, settled_congr settled soc full empty mode⟩

theorem storageLaw_sync (one : s.OneTank)
    (bound : ∀ d, storagePart s.storage = some d → 1 ≤ d.capacity ∧ s.store.soc ≤ d.full)
    (absent : storagePart s.storage = none → s.store.soc = 0 ∧ s.store.mode = .hold) :
    StorageLaw (s.schedule Scheduler.sync) :=
  storageLaw_schedule one (sync_settled (storagePart_isSome s) bound absent)

end

end Sys2Proof.Machine

/-! SUPPORT. The storage law over the requests on a branch record and on the schedules, and over the events. -/

namespace Sys2Proof.Machine

section
variable {s t : State}

/-! ## Loading, reloading and releasing a record (01, R7 to R11; 09, R156) -/

/-- Check 4 of a load: where it has a storage part, no other STORAGE record is loaded. -/
theorem branchCheckFour_storage {b : BranchLoadBody} {r : BranchRequest} (h : branchCheckFour b s = .ok r)
    (asks : r.storage.isSome = true) {x : Nat × Branch} (hx : s.storage = some x) : x.1 = b.index.toNat := by
  unfold branchCheckFour at h
  split at h
  · split_ifs at h
    next asked len other =>
      rw [hx, asked] at other
      simpa using other
    next len _ =>
      cases h
      have empty : b.rest = [] := List.eq_nil_of_length_eq_zero (not_not.mp len)
      rw [empty] at asks
      cases asks
  · cases h

/-- What the checks of a load say of its storage part: one STORAGE record at most, and no record changes its type. -/
theorem branchChecks_storage {b : BranchLoadBody} {r : BranchRequest} (h : branchChecks b s = .ok r) :
    (r.storage.isSome = true → ∀ x, s.storage = some x → x.1 = b.index.toNat) ∧
      ∀ x, s.branch? b.index.toNat = some x → x.isStorage = r.storage.isSome := by
  unfold branchChecks at h
  split at h
  · cases h
  next four =>
    split_ifs at h with _ typed
    cases h
    refine ⟨fun asks _ hx => branchCheckFour_storage four asks hx, fun x hx => ?_⟩
    rw [hx] at typed
    simpa using typed

/-- The flags brought up to date with a new SOC. -/
theorem storageLaw_sync_soc (one : s.OneTank) {soc : Nat}
    (bound : ∀ d, storagePart s.storage = some d → 1 ≤ d.capacity ∧ soc ≤ d.full)
    (absent : storagePart s.storage = none → soc = 0 ∧ s.store.mode = .hold) :
    StorageLaw (({ s with store := { s.store with soc := soc } } : State).schedule Scheduler.sync) :=
  storageLaw_sync (s := { s with store := { s.store with soc := soc } }) one bound absent

theorem fill_storageDesc (r : BranchRequest) : r.fill.storageDesc = r.storage := by
  unfold BranchRequest.fill Branch.storageDesc
  cases r.storage <;> rfl

theorem reload_storageDesc (r : BranchRequest) (b : Branch) :
    (r.reload b).storageDesc = b.storageDesc.map fun d => r.storage.getD d := by
  unfold BranchRequest.reload Branch.storageDesc reloadConsumer
  cases b.part <;> rfl

theorem storageLaw_loadBranch (h : StorageLaw s) {i : Nat} (r : BranchRequest) (empty : s.branch? i = none)
    (alone : r.storage.isSome = true → s.storage = none) : StorageLaw (loadBranch i r.clamped s) := by
  obtain ⟨one, settled⟩ := (storageLaw_iff s).mp h
  have here : s.tankAt i = none := by
    unfold State.tankAt
    rw [empty]
    rfl
  unfold loadBranch
  dsimp only
  cases hr : r.storage with
  | none =>
    have desc : r.clamped.storage = none := congrArg (Option.map _) hr
    rw [desc]
    refine storageLaw_congr (s := s) h (fun j => ?_) rfl
    exact (tankAt_of_branches rfl j).trans (tankAt_setBranch_same (b := some r.clamped.fill)
      ((fill_storageDesc _).trans (desc.trans here.symm)) j)
  | some d =>
    have desc : r.clamped.storage = some d.clamped := congrArg (Option.map _) hr
    have bare := storage_eq_none_iff.mp (alone (by rw [hr]; rfl))
    have placed : ∀ j e, (s.setBranch i (some r.clamped.fill)).tankAt j = some e → i = j ∧ e = d.clamped := by
      intro j e hj
      rw [tankAt_setBranch] at hj
      split_ifs at hj with hij
      · exact ⟨hij.1, Option.some.inj (hj.symm.trans ((fill_storageDesc _).trans desc))⟩
      · rw [bare j] at hj
        cases hj
    rw [desc]
    refine storageLaw_sync_soc (s := (s.setBranch i (some r.clamped.fill)).notes [branchStateNote i (some .awaiting)])
      (fun j k c e hj hk => (placed j c hj).1.symm.trans (placed k e hk).1)
      (fun e he => ?_) fun _ => ⟨rfl, settled.idle (storagePart_eq_none_iff.mpr (alone (by rw [hr]; rfl)))⟩
    obtain ⟨j, hj⟩ := exists_tankAt_of_storagePart he
    rw [(placed j e hj).2]
    exact ⟨Nat.le_max_left _ _, Nat.zero_le _⟩

theorem storageLaw_reloadBranch (h : StorageLaw s) {i : Nat} (r : BranchRequest) {b : Branch}
    (loaded : s.branch? i = some b) (typed : b.isStorage = r.storage.isSome) :
    StorageLaw (reloadBranch i r.clamped b s) := by
  obtain ⟨one, settled⟩ := (storageLaw_iff s).mp h
  have here := tankAt_of_branch loaded
  rw [isStorage_eq] at typed
  unfold reloadBranch
  dsimp only
  cases hr : r.storage with
  | none =>
    have desc : r.clamped.storage = none := congrArg (Option.map _) hr
    have consumer : b.storageDesc = none := by
      rw [hr] at typed
      simpa using typed
    rw [desc]
    refine storageLaw_congr h (tankAt_setBranch_same ?_) rfl
    exact (reload_storageDesc _ _).trans (by rw [here, consumer]; rfl)
  | some d =>
    have desc : r.clamped.storage = some d.clamped := congrArg (Option.map _) hr
    obtain ⟨old, was⟩ := Option.isSome_iff_exists.mp (typed.trans (by rw [hr]; rfl))
    have there : (s.setBranch i (some (r.clamped.reload b))).tankAt i = some d.clamped := by
      rw [tankAt_setBranch, if_pos ⟨rfl, (List.getElem?_eq_some_iff.mp (branch?_eq_some_iff.mp loaded)).1⟩]
      exact (reload_storageDesc _ _).trans (by rw [was, desc]; rfl)
    have placed : ∀ j e, (s.setBranch i (some (r.clamped.reload b))).tankAt j = some e → i = j := by
      intro j e hj
      rw [tankAt_setBranch] at hj
      split_ifs at hj with hij
      · exact hij.1
      · exact one i j _ _ (here.trans was) hj
    have alone : (s.setBranch i (some (r.clamped.reload b))).OneTank :=
      fun j k c e hj hk => (placed j c hj).symm.trans (placed k e hk)
    have part := storagePart_of_tankAt alone there
    rw [desc]
    refine storageLaw_sync_soc alone (fun e he => ?_) fun bare => ?_
    · obtain rfl := Option.some.inj (part.symm.trans he)
      exact ⟨Nat.le_max_left _ _, Nat.min_le_left _ _⟩
    · cases part.symm.trans bare

theorem storageLaw_nullLoad (h : StorageLaw s) (i : Nat) : StorageLaw (nullLoad i s) := by
  obtain ⟨one, settled⟩ := (storageLaw_iff s).mp h
  unfold nullLoad
  split
  · exact h
  next b loaded =>
    have here := tankAt_of_branch loaded
    dsimp only
    split
    next storage =>
      rw [isStorage_eq] at storage
      obtain ⟨d, was⟩ := Option.isSome_iff_exists.mp storage
      have bare : ∀ j, (s.setBranch i none).tankAt j = none := by
        intro j
        rw [tankAt_setBranch]
        split_ifs with hij
        · rfl
        · rw [Option.eq_none_iff_forall_ne_some]
          intro e hj
          refine hij ⟨one i j _ _ (here.trans was) hj, ?_⟩
          exact (List.getElem?_eq_some_iff.mp (branch?_eq_some_iff.mp loaded)).1
      have part : storagePart (s.setBranch i none).storage = none :=
        storagePart_eq_none_iff.mpr (storage_eq_none_iff.mpr bare)
      have emptied : (s.setBranch i none).OneTank := fun j _ c _ hj _ => by rw [bare j] at hj; cases hj
      unfold storageReleased
      refine storageLaw_evaluateMode emptied (sync_flagged (storagePart_isSome _) (fun e he => ?_) fun _ => rfl)
      cases part.symm.trans he
    next consumer =>
      rw [isStorage_eq] at consumer
      refine storageLaw_congr h (fun j => ?_) rfl
      refine (tankAt_of_branches rfl j).trans (tankAt_setBranch_same (i := i) (b := none) ?_ j)
      rw [here]
      exact (by simpa using consumer : b.storageDesc = none).symm

theorem storageLaw_serveBranchLoad (h : StorageLaw s) (p : Port) (b : BranchLoadBody) :
    StorageLaw (serveBranchLoad p b s).1 := by
  unfold serveBranchLoad
  split_ifs
  · exact h
  · exact h
  · exact h
  · exact storageLaw_nullLoad h _
  · split
    · exact h
    next r passed =>
      obtain ⟨single, typed⟩ := branchChecks_storage passed
      dsimp only
      split
      next empty =>
        refine storageLaw_loadBranch h r empty fun asks => ?_
        rw [Option.eq_none_iff_forall_ne_some]
        rintro ⟨i, x⟩ hx
        obtain rfl := single asks _ hx
        rw [branch?_of_storage hx] at empty
        cases empty
      next x loaded => exact storageLaw_reloadBranch h r loaded (typed x loaded)

theorem storageLaw_of_servedBranch {p : Port} {r : State × Reply} (h : StorageLaw s) (served : ServedBranch p s r) :
    StorageLaw r.1 := by
  cases served with
  | load b => exact storageLaw_serveBranchLoad h p b
  | release i =>
    unfold serveBranchRelease
    split_ifs
    · exact h
    · exact h
    · exact storageLaw_nullLoad h _

/-! ## The clock and the schedules (09, R147 to R150) -/

theorem storageLaw_of_servedSchedule {p : Port} {r : State × Reply} (h : StorageLaw s)
    (served : ServedSchedule p s r) : StorageLaw r.1 := by
  cases served with
  | timeSet m o => exact storageLaw_evaluateMode_with h _ rfl rfl rfl
  | windowSet n ws =>
    unfold serveWindowSet placeSchedule
    repeat' split
    any_goals exact h
    · exact storageLaw_evaluateMode_with h _ rfl rfl rfl
    · exact storageLaw_with h _ rfl rfl rfl rfl
  | windowReload =>
    unfold serveWindowReload
    split
    · exact h
    · split
      · exact h
      · exact storageLaw_evaluateMode_with h _ rfl rfl rfl

/-! ## The other requests -/

theorem storageLaw_setPort (h : StorageLaw s) (p : Port) (x : LinkPort) : StorageLaw (s.setPort p x) := by
  refine storageLaw_of_same h ?_ ?_ <;> cases p <;> rfl

theorem storageLaw_snapshot (h : StorageLaw s) : StorageLaw (serveMeterSnapshot s).1 :=
  storageLaw_congr h
    (tankAt_map_branches (f := fun b => { b with meter := { b.meter with rollover := false } }) rfl fun _ => rfl) rfl

theorem storageLaw_served {p : Port} {r : State × Reply} (h : StorageLaw s) (served : Served p s r) :
    StorageLaw r.1 := by
  cases served with
  | nothing hr => rw [hr]; exact h
  | branch hr => exact storageLaw_of_servedBranch h hr
  | schedule hr => exact storageLaw_of_servedSchedule h hr
  | unit hr => rw [(seqOnly_of_servedUnit s hr).frame]; exact storageLaw_of_same h rfl rfl
  | input hr => rw [(inputOnly_of_servedInput s hr).frame]; exact storageLaw_of_same h rfl rfl
  | rotate o => rw [serveLadderRotate_frame]; exact storageLaw_of_same h rfl rfl
  | slotMap first count es => rw [serveSlotMapWrite_frame]; exact storageLaw_of_same h rfl rfl
  | cycleSet n => exact storageLaw_of_same h rfl rfl
  | fieldPass tag a os =>
    rcases serveFieldPass_cases s p tag a os with same | ⟨-, -, queued⟩
    · rw [same]; exact h
    · rw [queued]
      exact storageLaw_setPort (s := { s with fc := { s.fc with queue := s.fc.queue ++ [⟨p, tag, a.toNat, os⟩] } })
        (storageLaw_of_same h rfl rfl) _ _
  | limits b => rw [servePlantLimitsSet_frame]; exact storageLaw_of_same h rfl rfl
  | goLive => rw [serveGoLive_frame]; exact storageLaw_of_same h rfl rfl
  | snapshot => exact storageLaw_snapshot h
  | readEvents => exact storageLaw_of_same h rfl rfl

/-! ## Cycle start and the warm restart -/

theorem cycleStart_storageDesc (b : Branch) : b.cycleStart.storageDesc = b.storageDesc := by
  unfold Branch.cycleStart Branch.storageDesc
  cases b.part <;> rfl

theorem restart_storageDesc (b : Branch) : b.restart.storageDesc = b.storageDesc := by
  unfold Branch.restart Branch.storageDesc
  cases b.part <;> rfl

theorem countCycle_branches (s : State) : (countCycle s).branches = s.branches := by
  unfold countCycle
  dsimp only
  split <;> rfl

theorem fixPeriod_branches (s : State) : (fixPeriod s).branches = s.branches := by
  unfold fixPeriod
  dsimp only
  split_ifs <;> rfl

theorem beginCycle_branches (s : State) : (beginCycle s).branches = s.branches.map (·.map Branch.cycleStart) := by
  have sampled : (beginCycle s).branches = (startCycle s).branches :=
    (congrArg State.branches (inputOnly_sampleSlow (startCycle s)).frame :)
  rw [sampled, startCycle, fixPeriod_branches]
  exact congrArg (List.map _) (countCycle_branches s)

theorem storageLaw_beginCycle (h : StorageLaw s) : StorageLaw (beginCycle s) :=
  storageLaw_congr h (tankAt_map_branches (beginCycle_branches s) cycleStart_storageDesc)
    (congrArg State.store (startOnly_beginCycle s) :)

theorem storageLaw_warmRestart (h : StorageLaw s) (p : Port) : StorageLaw (warmRestart p s) := by
  have noted : StorageLaw (s.notes [⟨.warmRestart, linkSubject, portNumber p⟩]) := storageLaw_of_same h rfl rfl
  have table : StorageLaw (restartSequencer (restartTable (s.notes [⟨.warmRestart, linkSubject, portNumber p⟩]))) :=
    storageLaw_congr noted (tankAt_map_branches (f := Branch.restart) rfl restart_storageDesc) rfl
  have evaluated := storageLaw_evaluateMode_with table _ rfl rfl rfl
  refine storageLaw_beginCycle ?_
  rw [abortPasses_frame]
  exact storageLaw_of_same evaluated rfl rfl

theorem storageLaw_taken {p : Port} (h : StorageLaw s) (taken : Taken p s t) : StorageLaw t := by
  cases taken with
  | answered tag kind served => exact storageLaw_setPort (storageLaw_served h served) _ _
  | restarted tag => exact storageLaw_warmRestart (storageLaw_setPort h _ _) p

/-! ## Replies and readings-closed -/

theorem meterBranch_storageDesc (tc i : Nat) (b : Branch) : (meterBranch tc i b).1.storageDesc = b.storageDesc := by
  unfold meterBranch
  split
  · rfl
  · split <;> rfl

theorem monitorBranch_storageDesc (i : Nat) (b : Branch) : (monitorBranch i b).1.storageDesc = b.storageDesc := by
  unfold monitorBranch
  split
  next part _ =>
    unfold Branch.storageDesc
    rw [part]
  · rfl

theorem tankAt_handReply {os : List Octet} {w : WindowTarget} (h : handReply s os w = some t) (i : Nat) :
    t.tankAt i = s.tankAt i := by
  unfold handReply at h
  split at h
  · split at h
    · cases h; rfl
    next b loaded =>
      obtain ⟨r, -, rfl⟩ := Option.map_eq_some_iff.mp h
      exact tankAt_setBranch_same (b := some { b with station := b.station.takeReply r })
        (tankAt_of_branch loaded).symm i
  · split at h
    · cases h; rfl
    · obtain ⟨r, -, rfl⟩ := Option.map_eq_some_iff.mp h
      exact tankAt_of_branches rfl i
  · split at h
    · cases h; rfl
    · obtain ⟨r, -, rfl⟩ := Option.map_eq_some_iff.mp h
      exact tankAt_of_branches rfl i
  · cases h; rfl

theorem storageLaw_fieldReply (h : StorageLaw s) (os : List Octet) : StorageLaw (fieldReply os s) := by
  unfold fieldReply
  split
  · exact h
  · split
    · split
      · exact h
      · exact storageLaw_of_same h rfl rfl
      · unfold takeGood
        dsimp only
        split
        next t ht =>
          have frame := handReply_frame ht
          have counted : StorageLaw ({ s with fc := { s.fc with good := s.fc.good + 1 } } : State) :=
            storageLaw_of_same h rfl rfl
          exact storageLaw_of_same (storageLaw_congr counted (tankAt_handReply ht)
            (congrArg State.store frame :)) rfl rfl
        · exact storageLaw_of_same h rfl rfl
    · exact h
    · exact h

/-- SOC after a closed cycle stays within the capacity (09, R154). -/
theorem socAfter_le {tc soc : Nat} {b : Branch} {d : StorageDesc} (desc : b.storageDesc = some d) (h : soc ≤ d.full) :
    socAfter tc b soc ≤ d.full := by
  unfold socAfter
  rw [desc]
  split
  next hd =>
    obtain rfl := Option.some.inj hd
    split
    next dir _ =>
      cases dir with
      | charging => exact Nat.min_le_left _ _
      | discharging => exact (Nat.sub_le _ _).trans h
      | idle => exact h
    · exact h
  · exact h

theorem storageLaw_storageClosed (h : StorageLaw s) (tc : Nat) (was : Bool) : StorageLaw (storageClosed tc was s) := by
  obtain ⟨one, settled⟩ := (storageLaw_iff s).mp h
  unfold storageClosed
  split
  · exact h
  next x found =>
    split
    · exact h
    · obtain ⟨part, -⟩ := storagePart_of_storage (i := x.1) (b := x.2) found
      obtain ⟨d, desc⟩ := Option.isSome_iff_exists.mp
        ((isStorage_eq x.2).symm.trans (isStorage_of_storage (i := x.1) (b := x.2) found))
      have synced : StorageLaw (({ s with store := { s.store with soc := socAfter tc x.2 s.store.soc } } : State).schedule
          Scheduler.sync) := by
        refine storageLaw_sync_soc one (fun e he => ?_) fun bare => ?_
        · obtain ⟨positive, within⟩ := settled.bound e he
          exact ⟨positive, socAfter_le (part.symm.trans he) within⟩
        · cases (part.trans desc).symm.trans bare
      dsimp only
      split
      · exact storageLaw_writeStorageCmd synced
      · obtain ⟨one', settled'⟩ := (storageLaw_iff _).mp synced
        exact storageLaw_writeStorageCmd (storageLaw_evaluate one' settled'.toFlagged)

theorem storageLaw_readingsClosed (h : StorageLaw s) : StorageLaw (readingsClosed s) := by
  have closed : StorageLaw (closeTable s) :=
    storageLaw_congr h (fun i => tankAt_of_branch?_map (branch?_closeTable s i) fun _ => rfl) rfl
  have metered : StorageLaw (meterTable s.fc.pEff (closeTable s)) :=
    storageLaw_congr closed
      (fun i => tankAt_of_branch?_map (branch?_meterTable s.fc.pEff (closeTable s) i) (meterBranch_storageDesc _ _)) rfl
  have monitored : StorageLaw (monitorTable (meterTable s.fc.pEff (closeTable s))) :=
    storageLaw_congr metered
      (fun i => tankAt_of_branch?_map (branch?_monitorTable _ i) (monitorBranch_storageDesc _)) rfl
  have judged : StorageLaw (sequencerClosed (pressureClosed (monitorTable (meterTable s.fc.pEff (closeTable s))))) :=
    storageLaw_of_same monitored rfl rfl
  exact storageLaw_storageClosed judged _ _

/-! ## Events and the law of every step -/

theorem tick_keeps (q : Scheduler) :
    q.tick.soc = q.soc ∧ q.tick.full = q.full ∧ q.tick.empty = q.empty ∧ q.tick.mode = q.mode := by
  unfold Scheduler.tick
  split <;> exact ⟨rfl, rfl, rfl, rfl⟩

theorem adopt_keeps (q : Scheduler) : q.adopt.soc = q.soc ∧ q.adopt.full = q.full ∧ q.adopt.empty = q.empty := by
  unfold Scheduler.adopt
  split <;> exact ⟨rfl, rfl, rfl⟩

theorem storageLaw_windowClose (h : StorageLaw s) : StorageLaw (windowClose s) := by
  rcases windowClose_cases s with same | ⟨_, _, _, _, closed⟩ | ⟨_, _, _, _, ended⟩
  · rw [same]; exact h
  · rw [closed]; exact storageLaw_of_same h rfl rfl
  · rw [ended, deferred_frame]; exact storageLaw_of_same h rfl rfl

theorem storageLaw_event (h : StorageLaw s) (event : Event s t) : StorageLaw t := by
  have sequenced : ∀ f, StorageLaw (s.sequence f) := fun f => storageLaw_of_same h rfl rfl
  cases event with
  | cycleStart _ => exact storageLaw_beginCycle h
  | mappedSlot => rw [show mappedSlot s = _ from fieldOnly_mappedSlot s]; exact storageLaw_of_same h rfl rfl
  | fieldReply os => exact storageLaw_fieldReply h os
  | windowClose => exact storageLaw_windowClose h
  | openSlot => rw [show openSlot s = _ from fieldOnly_openSlot s]; exact storageLaw_of_same h rfl rfl
  | cycleEnd _ => exact storageLaw_readingsClosed (s := endCycle s) (storageLaw_of_same h rfl rfl)
  | secondMark =>
    obtain ⟨soc, full, empty, mode⟩ := tick_keeps s.store
    exact storageLaw_of_same (storageLaw_with h _ soc full empty mode) rfl rfl
  | proveExpiry _ _ => exact sequenced _
  | stopExpiry _ _ => exact sequenced _
  | runExpiry _ _ => exact sequenced _
  | restExpiry _ _ => exact sequenced _
  | upExpiry _ => exact sequenced _
  | downExpiry _ => exact sequenced _
  | windowBoundary _ =>
    obtain ⟨soc, full, empty⟩ := adopt_keeps s.store
    exact storageLaw_evaluateMode_with h _ soc full empty

theorem storageLaw_does (h : StorageLaw s) (does : Does s t) : StorageLaw t := by
  cases does with
  | idles => exact h
  | logs _ => exact storageLaw_setPort h _ _
  | takes _ _ _ taken => exact storageLaw_taken (storageLaw_setPort h _ _) taken
  | sends p => exact storageLaw_setPort h _ _
  | event _ event => exact storageLaw_event h event
  | edge n high => rw [(inputOnly_inputEdge s n high).frame]; exact storageLaw_of_same h rfl rfl
  | coldReset => exact storageLaw_of_same storageLaw_reset rfl rfl
  | release shadow rate _ => exact storageLaw_beginCycle (storageLaw_of_same h rfl rfl)

end

/-- Settles O56: through the two pieces of the scheduler's work, the update of the flags and the evaluation. -/
theorem storageKept : Obligations.StorageKept := fun _ _ hs h =>
  step_keeps (fun _ _ k => storageLaw_of_same k rfl rfl) (fun _ _ => storageLaw_does) hs h

end Sys2Proof.Machine

/-! The requests that one check or one field decides: FIELD_PASS, STAGE_HOLD and STAGE_FREE, CHANNEL_SET, the edges at the
pins, METER_SNAPSHOT. -/

namespace Sys2Proof.Machine

/-- What a ready port does with a request whose work is known (11, R172, R173). -/
theorem request_serves {p : Port} {s t : State} {tag kind : Octet} {body os : List Octet}
    {serve : State → State × Reply} {st : Status} (h : s.Ready p) (served : serve s = (t, ⟨st, os⟩)) :
    request p tag kind body serve s = .next (t.hand p (replyFrame tag kind st os)) := by
  rw [request_of_ready h, served]

theorem validAddress_iff (a : Octet) : validAddress a = true ↔ 1 ≤ a.toNat ∧ a.toNat ≤ 240 := by
  simp [validAddress]

/-! ## FIELD_PASS (02, R35) -/

section
variable {s : State} {a : Octet} {os : List Octet} (p : Port) (tag : Octet)

theorem serveFieldPass_of_long (h : 32 < os.length) : serveFieldPass p tag a os s = refuse s .refusedLength := if_pos h

theorem serveFieldPass_of_short (h : os.length ≤ 32) :
    serveFieldPass p tag a os s =
      if !validAddress a then refuse s .refusedValue
      else if s.fc.shadow then refuse s .refusedState
      else if Config.passCapacity ≤ s.fc.queue.length then refuse s .refusedFull
      else (s.queuePass ⟨p, tag, a.toNat, os⟩, ⟨.accepted, []⟩) := if_neg (Nat.not_lt.mpr h)

theorem serveFieldPass_of_address (h : os.length ≤ 32) (ha : 1 ≤ a.toNat ∧ a.toNat ≤ 240) :
    serveFieldPass p tag a os s =
      if s.fc.shadow then refuse s .refusedState
      else if Config.passCapacity ≤ s.fc.queue.length then refuse s .refusedFull
      else (s.queuePass ⟨p, tag, a.toNat, os⟩, ⟨.accepted, []⟩) := by
  rw [serveFieldPass_of_short p tag h, if_neg (by simpa using (validAddress_iff a).mpr ha)]

end

/-- Settles O22: check by check. -/
theorem fieldPassQueued : Obligations.FieldPassQueued := by
  intro p tag a os s ready
  refine ⟨fun long => ?_, fun short bad => ?_, fun short lo hi shadow => ?_, fun short lo hi live full => ?_,
    fun short lo hi live room => ?_⟩
  · exact request_serves ready (serveFieldPass_of_long p tag long)
  · refine request_serves ready ((serveFieldPass_of_short p tag short).trans (if_pos ?_))
    have invalid : ¬ validAddress a = true := by rw [validAddress_iff]; omega
    simpa using invalid
  · exact request_serves ready ((serveFieldPass_of_address p tag short ⟨lo, hi⟩).trans (if_pos shadow))
  · refine request_serves ready ((serveFieldPass_of_address p tag short ⟨lo, hi⟩).trans ?_)
    rw [if_neg (by simp [live]), if_pos (show Config.passCapacity ≤ _ from full)]
    rfl
  · refine request_serves ready ((serveFieldPass_of_address p tag short ⟨lo, hi⟩).trans ?_)
    rw [if_neg (by simp [live]), if_neg (show ¬ Config.passCapacity ≤ _ from Nat.not_le.mpr room)]
    cases p <;> rfl

/-! ## STAGE_HOLD and STAGE_FREE (06, R104) -/

theorem selectionOfCode_eq_none {o : Octet} (h : o.toNat = 0 ∨ 3 < o.toNat) : selectionOfCode o = none := by
  unfold selectionOfCode
  split
  case h_4 => rfl
  all_goals omega

/-- The hold of each ladder selected, by the selection's code. -/
theorem setHold_of_code {o : Octet} (h : o.toNat = 1 ∨ o.toNat = 2 ∨ o.toNat = 3) (q : Sequencer) (v : Bool) :
    ∃ sel, selectionOfCode o = some sel ∧
      q.setHold sel v = { q with
        chillers := { q.chillers with requestHold := if o.toNat = 2 then q.chillers.requestHold else v },
        pumps := { q.pumps with requestHold := if o.toNat = 1 then q.pumps.requestHold else v } } := by
  unfold selectionOfCode
  rcases h with h | h | h <;> rw [h] <;> exact ⟨_, rfl, rfl⟩

/-- Settles O31: by the selection. -/
theorem stageHoldAndFree : Obligations.StageHoldAndFree := by
  intro p tag o s ready
  refine ⟨fun v code => ?_, fun undefined => ?_⟩
  · obtain ⟨sel, decoded, held⟩ := setHold_of_code code s.seq v
    cases v with
    | true =>
      refine request_serves ready ?_
      unfold serveStageHold
      rw [decoded]
      exact congrArg (fun q => (({ s with seq := q } : State), (⟨.done, []⟩ : Reply))) held
    | false =>
      refine request_serves ready ?_
      unfold serveStageFree
      rw [decoded]
      exact congrArg (fun q => (({ s with seq := q } : State), (⟨.done, []⟩ : Reply))) held
  · have none := selectionOfCode_eq_none undefined
    constructor
    · refine request_serves ready ?_
      unfold serveStageHold
      rw [none]
      rfl
    · refine request_serves ready ?_
      unfold serveStageFree
      rw [none]
      rfl

/-! ## CHANNEL_SET and the edges (10, R159, R160) -/

theorem setLatch_of_latched {s : State} (h : s.inputs.stopLatch = true) (n : Nat) (d : Int) : s.setLatch n d = s :=
  if_pos h

/-- Settles O42: the rank check, and then the settings with the hold judged anew. -/
theorem channelSetKeepsRecord : Obligations.ChannelSetKeepsRecord := by
  intro p tag n ec ac c e a s ready channel edge action
  refine ⟨fun supervisory stop => request_serves ready ?_, fun rank quiet => request_serves ready ?_⟩
  · unfold serveChannelSet
    rw [channel, edge, action]
    exact if_pos ⟨supervisory, stop⟩
  · have allowed : ¬ (p = .supervisory ∧ (c.action = .stopAll ∨ a = .stopAll)) := by
      rintro ⟨rfl, stop⟩
      rcases rank with panel | ⟨old, new⟩
      · cases panel
      · exact stop.elim old new
    unfold serveChannelSet
    rw [channel, edge, action]
    dsimp only
    rw [if_neg allowed]
    split
    next stops =>
      have latched : s.inputs.stopLatch = true := by
        rcases quiet with other | inactive | latched
        · exact absurd stops.1 other
        · have active := stops.2
          rw [show ({ c with edge := e, action := a } : Channel).active = false from inactive] at active
          cases active
        · exact latched
      rw [setLatch_of_latched (by exact latched)]
      rfl
    · rfl

theorem inputEdge_of_released {s : State} (h : s.rst = false) (n : Nat) (high : Bool) :
    inputEdge n high s =
      if 6 < n then { s with inputs := { s.inputs with pins := s.inputs.pins.set (n - 1) high } }
      else takeLevel n high (some s.fc.position)
        { s with inputs := { s.inputs with pins := s.inputs.pins.set (n - 1) high } } := by
  unfold inputEdge
  simp [h]

theorem exec_inputEdge {s : State} {n : Nat} (lo : 1 ≤ n) (hi : n ≤ 8) (high : Bool) :
    exec (.inputEdge n high) s = .next (inputEdge n high s) := if_pos ⟨lo, hi⟩

section
variable {s : State} {n : Nat} {c : Channel} {high : Bool} {position : Option Nat} (channel : s.inputs.channel n = some c)
include channel

theorem takeLevel_of_same (same : c.level = high) : takeLevel n high position s = s := by
  unfold takeLevel
  rw [channel]
  exact if_pos same

theorem takeLevel_of_uncaptured (changed : c.level ≠ high) (uncaptured : c.edge.captures high = false) :
    takeLevel n high position s =
      ({ s with inputs := s.inputs.setChannel n { c with level := high } } : State).updateHold := by
  unfold takeLevel
  rw [channel]
  dsimp only
  rw [if_neg changed, if_neg (by simp [uncaptured])]

/-- A captured change that sets no latch. -/
theorem takeLevel_of_captured (changed : c.level ≠ high) (captured : c.edge.captures high = true)
    (quiet : c.action ≠ .stopAll ∨ ({ c with level := high } : Channel).active = false ∨ s.inputs.stopLatch = true) :
    takeLevel n high position s =
      (({ s with inputs := s.inputs.setChannel n (c.captured s.fc.count position high) } : State).notes
        [⟨.capture, channelSubject n, captureDetail c high⟩]).updateHold := by
  unfold takeLevel
  rw [channel]
  dsimp only
  rw [if_neg changed, if_pos captured]
  unfold takeEdge
  extract_lets c' t
  split
  next stops =>
    refine setLatch_of_latched ?_ _ _
    rcases quiet with other | inactive | latched
    · exact absurd stops.1 other
    · have active := stops.2
      rw [show c'.active = false from inactive] at active
      cases active
    · exact latched
  · rfl

end

/-- Settles O46: by what the change of level is to its channel. -/
theorem edgeCaptured : Obligations.EdgeCaptured := by
  intro n high s hrst lo hi pinned
  refine ⟨fun slow => ?_, fun c fast channel => ?_⟩
  · rw [exec_inputEdge lo hi, inputEdge_of_released hrst, if_pos (by omega)]
  · intro held after
    have taken : exec (.inputEdge n high) s = .next (takeLevel n high (some s.fc.position) { s with inputs := pinned }) := by
      rw [exec_inputEdge lo hi, inputEdge_of_released hrst, if_neg (by omega)]
    have here : ({ s with inputs := pinned } : State).inputs.channel n = some c := channel
    rw [taken]
    refine ⟨fun same => ?_, fun changed uncaptured => ?_, fun changed captured quiet => ?_⟩
    · rw [takeLevel_of_same here same]
    · rw [takeLevel_of_uncaptured here changed uncaptured]
      rfl
    · rw [takeLevel_of_captured here changed captured quiet]
      rfl

/-! ## METER_SNAPSHOT (03, R57) -/

/-- Settles O19: index by index. -/
theorem snapshotTaken : Obligations.SnapshotTaken := by
  intro p tag s ready
  refine ⟨(serveMeterSnapshot s).1, request_serves ready rfl, rfl, fun i => ?_, _, rfl, rfl, rfl,
    List.length_map _, fun i => ?_⟩
  · change (s.branches.map _)[i]?.join = _
    rw [List.getElem?_map]
    unfold State.branch?
    rcases s.branches[i]? with _ | _ | b <;> rfl
  · rw [List.getElem?_map]
    unfold State.branch?
    rcases s.branches[i]? with _ | _ | b <;> rfl

end Sys2Proof.Machine

/-! The requests on one unit that move it and nothing else: UNIT_CLEAR, UNIT_DISABLE, UNIT_ENABLE; and the timers. -/

namespace Sys2Proof.Machine

/-! ## A unit named by a request (07, R119 to R121) -/

section
variable {s : State} {o q : Octet} {l : LadderId} {n : Nat} {u : PlantUnit} {port : Port}

theorem namedUnit_of_place (place : placeOf o q = some (l, n)) (unit : s.unit? l n = some u) :
    namedUnit o q s = .ok ⟨l, n, u⟩ := by
  unfold namedUnit
  rw [place]
  dsimp only
  rw [unit]

theorem guardedUnit_of_place (place : placeOf o q = some (l, n)) (unit : s.unit? l n = some u)
    (may : port = .panel ∨ u.guard = .anyone) (live : s.fc.shadow = false) :
    guardedUnit port o q s = .ok ⟨l, n, u⟩ := by
  unfold guardedUnit
  rw [namedUnit_of_place place unit]
  dsimp only
  rw [if_neg ?_, if_neg (by simp [live])]
  rintro ⟨rfl, guard⟩
  rcases may with panel | anyone
  · cases panel
  · rw [guard] at anyone
    cases anyone

theorem panelUnit_of_place (place : placeOf o q = some (l, n)) (unit : s.unit? l n = some u)
    (live : s.fc.shadow = false) : panelUnit .panel o q s = .ok ⟨l, n, u⟩ := by
  unfold panelUnit
  rw [namedUnit_of_place place unit]
  dsimp only
  rw [if_neg (by simp), if_neg (by simp [live])]

/-! ## One unit changed by the sequencer -/

theorem modUnit_of_unit {L : Ladder} (unit : L.unitAt n = some u) (f : PlantUnit → PlantUnit) :
    L.modUnit n f = L.setUnit n (some (f u)) := by
  unfold Ladder.modUnit
  rw [unit, Option.map_some]

theorem onUnit_of_unit {w : Work} (unit : w.unit l n = some u) (f : PlantUnit → PlantUnit) :
    w.onUnit l n f = w.onLadder l fun L => L.setUnit n (some (f u)) := by
  unfold Work.onUnit Work.onLadder
  dsimp only
  rw [modUnit_of_unit unit]

theorem setpoint_seqEnv (s : State) (l : LadderId) : s.seqEnv.setpoint l = s.setpointFor l := by cases l <;> rfl

/-- A unit's entry into a state, with nothing that follows from it. -/
theorem sequence_enter (unit : s.unit? l n = some u) (st : UnitState) (d : Option Demand)
    (f : Work → PlantUnit → PlantUnit) :
    (s.sequence fun e w => w.enter e l n st d (f w)) =
      (s.setUnit l n (some { f ⟨s.seq, []⟩ u with
        state := st,
        next := match d with
          | some d => some ⟨d, s.setpointFor l⟩
          | none => u.next })).notes [unitNote l n (some st)] := by
  rw [← setpoint_seqEnv]
  have moved := onUnit_of_unit (w := ⟨s.seq, []⟩) unit (PlantUnit.entered s.seqEnv l st d (f ⟨s.seq, []⟩))
  exact congrArg (fun w : Work => ({ s with seq := w.seq } : State).notes (w.out ++ [unitNote l n (some st)])) moved

end

theorem closedFault_iff (u : PlantUnit) :
    u.closedFault = true ↔ ∃ cl, u.station.closed = some cl ∧ cl.status = .fault := by
  unfold PlantUnit.closedFault
  cases u.station.closed <;> simp

/-- Settles O34: by the unit's state. -/
theorem clearDisableEnable : Obligations.ClearDisableEnable := by
  intro p tag o q l u s ready place unit may live x moved
  have guarded := guardedUnit_of_place place unit may live
  refine ⟨fun c late tripped => ⟨fun heard => ?_, fun cl closed fault => ?_⟩, fun idle => ?_, fun out counts => ?_,
    fun out ran => ?_⟩
  · refine request_serves ready ?_
    have sound : ¬ u.closedFault = true := by
      rw [closedFault_iff]
      rintro ⟨cl, closed, fault⟩
      exact heard cl closed fault
    unfold serveUnitClear
    rw [guarded]
    dsimp only
    rw [tripped]
    dsimp only
    rw [if_neg sound]
    exact congrArg (·, _) (sequence_enter unit .resting (some .stop) fun w u =>
      { u with rest := .start (w.seq.ladder l).periods.rest })
  · refine request_serves ready ?_
    unfold serveUnitClear
    rw [guarded]
    dsimp only
    rw [tripped]
    exact if_pos ((closedFault_iff u).mpr ⟨cl, closed, fault⟩)
  · refine request_serves ready ?_
    unfold serveUnitDisable
    rw [guarded]
    dsimp only
    have entered := sequence_enter unit .out none fun _ => id
    rcases idle with off | resting | ⟨c, late, tripped⟩
    · rw [off]
      exact congrArg (·, _) entered
    · rw [resting]
      exact congrArg (·, _) entered
    · rw [tripped]
      exact congrArg (·, _) entered
  · refine request_serves ready ?_
    have counting : u.rest.isCounting = true := by
      cases hr : u.rest with
      | idle => exact absurd hr counts
      | counting => rfl
    unfold serveUnitEnable
    rw [guarded]
    dsimp only
    rw [out]
    refine congrArg (·, _) (Eq.trans ?_ (sequence_enter unit .resting (some .stop) fun _ => id))
    unfold Work.enable
    dsimp only
    rw [counting]
    rfl
  · refine request_serves ready ?_
    unfold serveUnitEnable
    rw [guarded]
    dsimp only
    rw [out]
    refine congrArg (·, _) (Eq.trans ?_ (sequence_enter unit .off none fun _ => id))
    unfold Work.enable
    dsimp only
    rw [ran]
    rfl

/-! ## The unit timer bank (08) -/

theorem timerKind_put_get_of_ne (x : Periods) {j k : TimerKind} (h : j ≠ k) (n : Nat) : (x.put k n).get j = x.get j := by
  cases k <;> cases j <;> simp_all [Periods.put, Periods.get]

theorem timerKind_put_get (x : Periods) (k : TimerKind) (n : Nat) : (x.put k n).get k = n := by cases k <;> rfl

/-- The reply of TIMER_PERIOD_SET: a period of 0 alone is clamped. -/
theorem doneIf_period (v : Half) : doneIf (decide (max 1 v.toNat ≠ v.toNat)) = if v = 0 then .doneClamped else .done := by
  unfold doneIf
  have zero : v = 0 ↔ v.toNat = 0 := BitVec.toNat_inj.symm
  simp only [zero, decide_eq_true_eq]
  by_cases none_given : v.toNat = 0
  · rw [if_pos (by omega), if_pos none_given]
  · rw [if_neg (by omega), if_neg none_given]

section
variable {s : State} {o q kc : Octet} {l : LadderId} {k : TimerKind} {p : Port} {r m a : Nat}

theorem isCounting_of_counting {t : Timer} (h : t = .counting r m a) : t.isCounting = true := by rw [h]; rfl

theorem ladderKindOf_up (kind : TimerKind.ofCode kc = some .up) : ladderKindOf kc = some .up := by
  unfold ladderKindOf
  rw [kind]

theorem ladderKindOf_down (kind : TimerKind.ofCode kc = some .down) : ladderKindOf kc = some .down := by
  unfold ladderKindOf
  rw [kind]

theorem ladderKindOf_of_unit (kind : TimerKind.ofCode kc = some k) (up : k ≠ .up) (down : k ≠ .down) :
    ladderKindOf kc = none := by
  unfold ladderKindOf
  rw [kind]
  cases k with
  | up => exact absurd rfl up
  | down => exact absurd rfl down
  | _ => rfl

theorem onLadder_congr {f g : Ladder → Ladder} (h : f (s.seq.ladder l) = g (s.seq.ladder l)) :
    s.onLadder l f = s.onLadder l g := by
  unfold State.onLadder
  rw [h]

theorem serveTimerReload_of_ladder (ladder : ladderOfCode o = some l) {k : TimerKind} (kind : ladderKindOf kc = some k) :
    serveTimerReload p o q kc s = reloadLadderTimer l k s := by
  unfold serveTimerReload
  rw [ladder]
  dsimp only
  rw [kind]

theorem serveTimerReload_of_unit (ladder : ladderOfCode o = some l) (kind : TimerKind.ofCode kc = some k)
    (up : k ≠ .up) (down : k ≠ .down) (lo : 1 ≤ q.toNat) (hi : q.toNat ≤ ladderSize l) {u : PlantUnit}
    (unit : s.unit? l q.toNat = some u) (may : p = .panel ∨ u.guard = .anyone) :
    serveTimerReload p o q kc s =
      if !(u.timer k).isCounting then refuse s .refusedState
      else (s.setUnit l q.toNat (some (u.setTimer k ((u.timer k).reload ((s.seq.ladder l).periods.get k)))),
        ⟨.done, be 2 ((s.seq.ladder l).periods.get k)⟩) := by
  unfold serveTimerReload
  rw [ladder]
  dsimp only
  rw [ladderKindOf_of_unit kind up down]
  dsimp only
  rw [if_neg (by omega), kind]
  unfold reloadUnitTimer
  rw [unit]
  dsimp only
  rw [if_neg]
  rintro ⟨rfl, guard⟩
  rcases may with panel | anyone
  · cases panel
  · rw [guard] at anyone
    cases anyone

end

/-- Settles O35: the setting, the two ladder timers and the unit timers. -/
theorem timerSettings : Obligations.TimerSettings := by
  intro p tag o kc l k s ready ladder kind
  dsimp only
  refine ⟨fun v => ⟨(s.seq.ladder l).periods.put k (max 1 v.toNat), request_serves ready ?_,
    timerKind_put_get _ _ _, fun j h => timerKind_put_get_of_ne _ h _⟩, fun q hk => ?_, fun q hk => ?_,
    fun q u up down lo hi unit may => ?_⟩
  · unfold serveTimerPeriodSet
    rw [ladder, kind]
    dsimp only
    rw [doneIf_period]
    rfl
  · subst hk
    refine ⟨fun r m a counting => ?_, fun idle => ?_⟩
    · refine request_serves ready ((serveTimerReload_of_ladder ladder (ladderKindOf_up kind)).trans ?_)
      unfold reloadLadderTimer
      dsimp only
      rw [if_pos (isCounting_of_counting counting)]
      exact congrArg (·, _) (onLadder_congr (by rw [counting]; rfl))
    · refine request_serves ready ((serveTimerReload_of_ladder ladder (ladderKindOf_up kind)).trans ?_)
      unfold reloadLadderTimer
      dsimp only
      rw [idle]
      rfl
  · subst hk
    refine ⟨fun r m a counting => ?_, fun idle => ?_⟩
    · refine request_serves ready ((serveTimerReload_of_ladder ladder (ladderKindOf_down kind)).trans ?_)
      unfold reloadLadderTimer
      dsimp only
      rw [if_pos (isCounting_of_counting counting)]
      exact congrArg (·, _) (onLadder_congr (by rw [counting]; rfl))
    · refine request_serves ready ((serveTimerReload_of_ladder ladder (ladderKindOf_down kind)).trans ?_)
      unfold reloadLadderTimer
      dsimp only
      rw [idle]
      rfl
  · have served := serveTimerReload_of_unit ladder kind up down lo hi unit may
    refine ⟨fun r m a counting => ?_, fun idle => ?_⟩
    · refine request_serves ready (served.trans ?_)
      rw [counting]
      rfl
    · refine request_serves ready (served.trans ?_)
      rw [idle]
      rfl

/-! ## The second mark (08, R137; 09, R146) -/

theorem startsAt_iff (ws : List TariffWindow) (minute : Nat) :
    startsAt ws minute = true ↔ ∃ w ∈ ws, w.start = minute := by
  unfold startsAt
  simp

/-- One second of the day clock is one second of the day. -/
theorem clock_tick_seconds {c : Clock} (minute : c.minute ≤ 1439) (second : c.second ≤ 59) :
    c.tick.minute * 60 + c.tick.second = (c.minute * 60 + c.second + 1) % 86400 ∧ c.tick.second ≤ 59 := by
  unfold Clock.tick
  split_ifs with h
  · dsimp only
    omega
  · dsimp only
    omega
  · dsimp only
    omega

theorem unitAt_tick (L : Ladder) (n : Nat) : L.tick.unitAt n = (L.unitAt n).map PlantUnit.tick := unitAt_map L _ _

/-- Settles O36: ladder by ladder, and then the clock. -/
theorem secondMarkCounts : Obligations.SecondMarkCounts := by
  intro s hrst
  have done : exec .secondMark s = .next (secondMark s) := congrArg _ (if_neg (by simp [hrst]))
  refine ⟨secondMark s, done, rfl, rfl, rfl, fun l => ?_, fun _ _ _ => rfl, rfl, fun unset => ?_, fun c set => ?_⟩
  · refine ⟨by cases l <;> rfl, fun n => ?_⟩
    cases l <;> exact unitAt_tick _ n
  · change s.store.tick = s.store
    unfold Scheduler.tick
    rw [unset]
  · have ticked : s.store.tick = { s.store with
        clock := some c.tick,
        boundaryDue := s.store.boundaryDue || (decide (59 ≤ c.second) && startsAt s.store.active c.tick.minute) } := by
      unfold Scheduler.tick
      rw [set]
    refine ⟨c.tick, ?_, clock_tick_seconds, ?_⟩
    · exact ticked.trans (by rw [show (secondMark s).store = _ from ticked])
    · change s.store.tick.boundaryDue = true ↔ _
      rw [ticked]
      simp [startsAt_iff]

end Sys2Proof.Machine

/-! The link ports (11): a request and its frame are one thing, however the frame arrives. -/

namespace Sys2Proof.Machine

/-! ## A request row is the taking of its frame (11, R172, R176) -/

section
variable {p : Port} {s : State} {tag kind : Octet} {body : List Octet} {serve : State → State × Reply}

theorem takeFrame_of_dispatch (other : kind ≠ restartKind) (t : State) :
    takeFrame p ⟨tag, kind, body⟩ t = answer p tag kind (dispatch p ⟨tag, kind, body⟩ t) := by
  unfold takeFrame
  rw [if_neg fun h => other h.1, if_neg other]

theorem request_eq_arrive (other : kind ≠ restartKind) (served : ∀ t, dispatch p ⟨tag, kind, body⟩ t = serve t) :
    request p tag kind body serve s =
      .next (arrive p ⟨tag, kind, body⟩ (takeFrame p ⟨tag, kind, body⟩) s) := by
  have taken : takeFrame p ⟨tag, kind, body⟩ = fun t => answer p tag kind (serve t) :=
    funext fun t => (takeFrame_of_dispatch other t).trans (congrArg _ (served t))
  rw [taken]
  rfl

theorem dispatchBranchLoad_octets (b : BranchLoadBody) (t : State) :
    dispatchBranchLoad p (branchLoadOctets b) t = serveBranchLoad p b t := by
  unfold dispatchBranchLoad
  rw [branchLoadOf_octets]

theorem dispatchUnitLoad_octets (b : UnitLoadBody) (t : State) :
    dispatchUnitLoad p (unitLoadOctets b) t = serveUnitLoad p b t := by
  unfold dispatchUnitLoad
  rw [unitLoadOf_octets]

theorem dispatchLimits_octets (b : LimitsBody) (t : State) :
    dispatchLimits (limitsBodyOctets b) t = servePlantLimitsSet b t := by
  unfold dispatchLimits
  rw [limitsBodyOf_octets]

/-- Every request's row is the arrival of its own frame. -/
theorem exec_of_requestFrame {c : Instr} {f : RequestFrame} (h : requestFrame c = some (p, f)) (s : State) :
    exec c s = .next (arrive p f (takeFrame p f) s) := by
  cases c with
  | branchLoad p tag b => cases h; exact request_eq_arrive (by decide) (dispatchBranchLoad_octets b)
  | branchRelease p tag i => cases h; exact request_eq_arrive (by decide) fun _ => rfl
  | unitLoad p tag b => cases h; exact request_eq_arrive (by decide) (dispatchUnitLoad_octets b)
  | ladderRotate p tag l => cases h; exact request_eq_arrive (by decide) fun _ => rfl
  | slotMapWrite p tag i n es => cases h; exact request_eq_arrive (by decide) fun _ => rfl
  | cycleSet p tag n =>
    cases h
    exact request_eq_arrive (by decide) fun t => congrArg (serveCycleSet · t) (half_hi_lo n)
  | plantLimitsSet p tag b => cases h; exact request_eq_arrive (by decide) (dispatchLimits_octets b)
  | timerPeriodSet p tag l k n =>
    cases h
    exact request_eq_arrive (by decide) fun t => congrArg (serveTimerPeriodSet l k · t) (half_hi_lo n)
  | timerReload p tag l q k => cases h; exact request_eq_arrive (by decide) fun _ => rfl
  | windowSet p tag n ws => cases h; exact request_eq_arrive (by decide) fun _ => rfl
  | windowReload p tag => cases h; exact request_eq_arrive (by decide) fun _ => rfl
  | timeSet p tag m o =>
    cases h
    exact request_eq_arrive (by decide) fun t => congrArg (serveTimeSet · o t) (half_hi_lo m)
  | channelSet p tag n e a => cases h; exact request_eq_arrive (by decide) fun _ => rfl
  | unitHand p tag l q d => cases h; exact request_eq_arrive (by decide) fun _ => rfl
  | unitAuto p tag l q => cases h; exact request_eq_arrive (by decide) fun _ => rfl
  | unitClear p tag l q => cases h; exact request_eq_arrive (by decide) fun _ => rfl
  | stageHold p tag o => cases h; exact request_eq_arrive (by decide) fun _ => rfl
  | stageFree p tag o => cases h; exact request_eq_arrive (by decide) fun _ => rfl
  | releaseStop p tag => cases h; exact request_eq_arrive (by decide) fun _ => rfl
  | goLive p tag => cases h; exact request_eq_arrive (by decide) fun _ => rfl
  | restart p tag => cases h; rfl
  | fieldPass p tag a os => cases h; exact request_eq_arrive (by decide) fun _ => rfl
  | meterSnapshot p tag => cases h; exact request_eq_arrive (by decide) fun _ => rfl
  | readBranch p tag i => cases h; exact request_eq_arrive (by decide) fun _ => rfl
  | readUnit p tag l q => cases h; exact request_eq_arrive (by decide) fun _ => rfl
  | readLadder p tag l => cases h; exact request_eq_arrive (by decide) fun _ => rfl
  | readPlant p tag => cases h; exact request_eq_arrive (by decide) fun _ => rfl
  | readStorage p tag => cases h; exact request_eq_arrive (by decide) fun _ => rfl
  | readEvents p tag => cases h; exact request_eq_arrive (by decide) fun _ => rfl
  | readCapture p tag n => cases h; exact request_eq_arrive (by decide) fun _ => rfl
  | readSnapshot p tag i => cases h; exact request_eq_arrive (by decide) fun _ => rfl
  | unitDisable p tag l q => cases h; exact request_eq_arrive (by decide) fun _ => rfl
  | unitEnable p tag l q => cases h; exact request_eq_arrive (by decide) fun _ => rfl
  | _ => cases h

/-! ## The frame's arrival -/

section
variable {f : RequestFrame} {work : State → State} (released : s.rst = false)
include released

theorem arrive_of_held (held : (s.port p).heldFrame ≠ none) :
    arrive p f work s = s.setPort p { s.port p with overruns := min 65535 ((s.port p).overruns + 1) } := by
  unfold arrive
  rw [if_neg (by simp [released]), if_pos (Option.isSome_iff_ne_none.mpr held)]
  rfl

theorem arrive_of_busy (free : (s.port p).heldFrame = none) (busy : (s.port p).busy = true) :
    arrive p f work s = s.setPort p { s.port p with heldFrame := some f } := by
  unfold arrive
  rw [if_neg (by simp [released]), if_neg (by simp [free]), if_pos busy]

theorem arrive_of_free (free : (s.port p).heldFrame = none) (idle : (s.port p).busy = false) :
    arrive p f work s = work s := by
  unfold arrive
  rw [if_neg (by simp [released]), if_neg (by simp [free]), if_neg (by simp [idle])]

theorem unlessReset_of_released (work : State → State) : unlessReset s work = work s := if_neg (by simp [released])

end

theorem busy_iff (x : LinkPort) : x.busy = true ↔ ∃ r ∈ x.tx, r.immediate = true := List.any_eq_true

end

/-- Settles O7: through the arrival of the request's frame. -/
theorem busyPortHoldsOneFrame : Obligations.BusyPortHoldsOneFrame := by
  intro c p f s frame released
  rw [exec_of_requestFrame frame]
  exact ⟨fun held => congrArg _ (arrive_of_held released held),
    fun free busy => congrArg _ (arrive_of_busy released free ((busy_iff _).mpr busy))⟩

/-- Settles O10: the held frame is taken as its row takes it. -/
theorem heldFrameIsItsRequest : Obligations.HeldFrameIsItsRequest := by
  intro p s released
  have taking : exec (.heldFrameTaken p) s = .next (takeHeld p s) := congrArg _ (unlessReset_of_released released _)
  refine ⟨fun c f frame held idle => ⟨_, taking, ?_⟩, fun stays => taking.trans (congrArg _ ?_)⟩
  · rw [exec_of_requestFrame frame, arrive_of_free (by rw [setPort_rst]; exact released) (by rw [port_setPort])
      (by rw [port_setPort]; exact idle)]
    unfold takeHeld
    rw [held]
    dsimp only
    rw [if_neg (by simp [idle])]
  · unfold takeHeld
    split
    · rfl
    next held =>
      refine if_pos (stays.resolve_left fun free => ?_)
      rw [held] at free
      cases free

/-! ## A whole frame (11, R170, R171; 12, R182) -/

section
variable {tag kind : Octet} {body : List Octet}

theorem oct_toNat {n : Nat} (h : n ≤ 255) : (oct n).toNat = n := by
  unfold oct
  rw [BitVec.toNat_ofNat]
  exact Nat.mod_eq_of_lt (by omega)

theorem linkOctets_length (tag kind : Octet) (body : List Octet) : (linkOctets tag kind body).length = body.length + 5 := by
  unfold linkOctets
  rw [withCrc_length]
  rfl

theorem linkComplete_iff (n : Octet) (kept : List Octet) :
    linkComplete (n :: kept) = true ↔ n.toNat ≤ 240 ∧ kept.length = n.toNat + 4 := by
  unfold linkComplete maxBody
  simp

theorem linkComplete_linkOctets (short : body.length ≤ 240) : linkComplete (linkOctets tag kind body) = true := by
  have len := linkOctets_length tag kind body
  unfold linkOctets withCrc at len ⊢
  rw [List.cons_append, linkComplete_iff, oct_toNat (by omega)]
  rw [List.cons_append, List.length_cons] at len
  omega

theorem linkFields_linkOctets (tag kind : Octet) (body : List Octet) :
    linkFields (linkOctets tag kind body) = ⟨tag, kind, body⟩ := by
  have len := linkOctets_length tag kind body
  unfold linkFields
  rw [len]
  unfold linkOctets withCrc
  simp

end

theorem setReceiver_of_hunt {p : Port} {s : State} (hunt : (s.port p).receiver = .hunt) : s.setReceiver p .hunt = s := by
  unfold State.setReceiver
  rw [← hunt]
  exact setPort_self s p

theorem exec_linkFrameComplete {p : Port} {s : State} (released : s.rst = false) (hunt : (s.port p).receiver = .hunt)
    {octets : List Octet} (complete : linkComplete octets = true) :
    exec (.linkFrameComplete p octets) s = .next (judgeFrame p octets s) := by
  refine congrArg _ ((unlessReset_of_released released _).trans ?_)
  unfold receiveFrame completeFrame
  rw [if_pos (by rw [complete, hunt]; rfl), setReceiver_of_hunt hunt]

theorem judgeFrame_linkOctets {p : Port} {s : State} {tag kind : Octet} {body : List Octet} :
    judgeFrame p (linkOctets tag kind body) s =
      if kind.msb then s.setPort p { s.port p with replyDrops := bump Config.countMax (s.port p).replyDrops }
      else arrive p ⟨tag, kind, body⟩ (takeFrame p ⟨tag, kind, body⟩) s := by
  unfold judgeFrame
  rw [if_neg (by rw [linkOctets, crcMatches_withCrc]; simp), linkFields_linkOctets]

theorem kind_msb_iff (kind : Octet) : kind.msb = true ↔ 128 ≤ kind.toNat := by
  rw [BitVec.msb_eq_decide]
  simp

theorem requestFrame_statement (c : Instr) : Laws.RequestFrames.Statement c := by
  cases c with
  | branchLoad p tag b => exact Laws.RequestFrames.branchLoad p tag b
  | branchRelease p tag index => exact Laws.RequestFrames.branchRelease p tag index
  | readBranch p tag index => exact Laws.RequestFrames.readBranch p tag index
  | slotMapWrite p tag first count entries => exact Laws.RequestFrames.slotMapWrite p tag first count entries
  | cycleSet p tag period => exact Laws.RequestFrames.cycleSet p tag period
  | fieldPass p tag address payload => exact Laws.RequestFrames.fieldPass p tag address payload
  | goLive p tag => exact Laws.RequestFrames.goLive p tag
  | meterSnapshot p tag => exact Laws.RequestFrames.meterSnapshot p tag
  | readSnapshot p tag index => exact Laws.RequestFrames.readSnapshot p tag index
  | plantLimitsSet p tag b => exact Laws.RequestFrames.plantLimitsSet p tag b
  | readPlant p tag => exact Laws.RequestFrames.readPlant p tag
  | unitLoad p tag b => exact Laws.RequestFrames.unitLoad p tag b
  | ladderRotate p tag ladder => exact Laws.RequestFrames.ladderRotate p tag ladder
  | stageHold p tag selection => exact Laws.RequestFrames.stageHold p tag selection
  | stageFree p tag selection => exact Laws.RequestFrames.stageFree p tag selection
  | readUnit p tag ladder position => exact Laws.RequestFrames.readUnit p tag ladder position
  | readLadder p tag ladder => exact Laws.RequestFrames.readLadder p tag ladder
  | unitHand p tag ladder position demand => exact Laws.RequestFrames.unitHand p tag ladder position demand
  | unitAuto p tag ladder position => exact Laws.RequestFrames.unitAuto p tag ladder position
  | unitClear p tag ladder position => exact Laws.RequestFrames.unitClear p tag ladder position
  | unitDisable p tag ladder position => exact Laws.RequestFrames.unitDisable p tag ladder position
  | unitEnable p tag ladder position => exact Laws.RequestFrames.unitEnable p tag ladder position
  | timerPeriodSet p tag ladder kind period => exact Laws.RequestFrames.timerPeriodSet p tag ladder kind period
  | timerReload p tag ladder position kind => exact Laws.RequestFrames.timerReload p tag ladder position kind
  | timeSet p tag minute second => exact Laws.RequestFrames.timeSet p tag minute second
  | windowSet p tag count windows => exact Laws.RequestFrames.windowSet p tag count windows
  | windowReload p tag => exact Laws.RequestFrames.windowReload p tag
  | readStorage p tag => exact Laws.RequestFrames.readStorage p tag
  | channelSet p tag channel edge action => exact Laws.RequestFrames.channelSet p tag channel edge action
  | readCapture p tag channel => exact Laws.RequestFrames.readCapture p tag channel
  | releaseStop p tag => exact Laws.RequestFrames.releaseStop p tag
  | readEvents p tag => exact Laws.RequestFrames.readEvents p tag
  | restart p tag => exact Laws.RequestFrames.restart p tag
  | _ => exact Laws.RequestFrames.noFrame rfl

/-- Settles O8: a well-formed request's kind has the reply flag clear and its body fits a frame. -/
theorem frameIsItsRequest : Obligations.FrameIsItsRequest := by
  intro c p f s frame wf released hunt
  obtain ⟨-, kind, short⟩ := requestFrame_statement c p f frame wf
  refine ⟨_, exec_of_requestFrame frame s, ?_⟩
  rw [exec_linkFrameComplete released hunt (linkComplete_linkOctets short), judgeFrame_linkOctets, if_neg]
  rw [kind_msb_iff]
  omega

/-! ## Octet by octet (11, R170) -/

section
variable {p : Port} {s : State}

theorem exec_linkOctetReceived (released : s.rst = false) (o : Octet) :
    exec (.linkOctetReceived p o) s = .next (receiveOctet p o s) := congrArg _ (unlessReset_of_released released _)

theorem runAll_cons {c : Instr} {t : State} (h : exec c s = .next t) (rest : List Instr) :
    runAll (c :: rest) s = runAll rest t := by
  rw [runAll, h]

theorem setReceiver_setReceiver (r r' : Receiver) : (s.setReceiver p r).setReceiver p r' = s.setReceiver p r' := by
  cases p <;> rfl

theorem setReceiver_rst (r : Receiver) : (s.setReceiver p r).rst = s.rst := setPort_rst _ _ _

theorem receiver_setReceiver (r : Receiver) : ((s.setReceiver p r).port p).receiver = r := by
  unfold State.setReceiver
  rw [port_setPort]

theorem receiveOctet_of_receiving {n : Octet} {kept : List Octet} (receiving : (s.port p).receiver = .receiving (n :: kept))
    (o : Octet) : receiveOctet p o s =
      if linkComplete (n :: kept ++ [o]) then completeFrame p (n :: kept ++ [o]) s
      else s.setReceiver p (.receiving (n :: kept ++ [o])) := by
  unfold receiveOctet
  rw [receiving]

/-- The rest of a frame arriving octet by octet. -/
theorem runAll_octets {n : Octet} {kept rest : List Octet} (some_left : rest ≠ []) (released : s.rst = false)
    (receiving : (s.port p).receiver = .receiving (n :: kept)) (complete : linkComplete (n :: kept ++ rest) = true) :
    runAll (rest.map (.linkOctetReceived p)) s = .next (completeFrame p (n :: kept ++ rest) s) := by
  induction rest generalizing s kept with
  | nil => exact absurd rfl some_left
  | cons o rest ih =>
    rw [List.map_cons, runAll_cons (exec_linkOctetReceived released o), receiveOctet_of_receiving receiving]
    cases rest with
    | nil =>
      rw [if_pos complete]
      rfl
    | cons o' rest =>
      have unfinished : ¬ linkComplete (n :: kept ++ [o]) = true := by
        rw [List.cons_append, linkComplete_iff] at complete ⊢
        simp only [List.length_append, List.length_cons, List.length_nil] at complete ⊢
        omega
      have whole : n :: (kept ++ [o]) ++ o' :: rest = n :: kept ++ o :: o' :: rest := by simp
      rw [if_neg unfinished, List.cons_append, ih (kept := kept ++ [o]) (by simp) ((setReceiver_rst _).trans released)
        (receiver_setReceiver _) (by rw [whole]; exact complete), whole]
      unfold completeFrame
      rw [setReceiver_setReceiver]

end

/-- Settles O9: the start mark, the length octet, and the rest of the frame. -/
theorem octetsMakeTheFrame : Obligations.OctetsMakeTheFrame := by
  intro p tag kind body s short released hunt
  have complete := linkComplete_linkOctets (tag := tag) (kind := kind) short
  refine ⟨_, exec_linkFrameComplete released hunt complete, ?_⟩
  have layout : linkOctets tag kind body =
      oct body.length :: tag :: kind :: (body ++ [hi (crc16 (oct body.length :: tag :: kind :: body)),
        lo (crc16 (oct body.length :: tag :: kind :: body))]) := rfl
  rw [layout] at complete ⊢
  have marked : exec (.linkOctetReceived p startMark) s = .next (s.setReceiver p (.receiving [])) := by
    rw [exec_linkOctetReceived released]
    unfold receiveOctet
    rw [hunt]
    exact congrArg _ (if_pos rfl)
  have counted : exec (.linkOctetReceived p (oct body.length)) (s.setReceiver p (.receiving [])) =
      .next (s.setReceiver p (.receiving [oct body.length])) := by
    rw [exec_linkOctetReceived ((setReceiver_rst _).trans released)]
    unfold receiveOctet receiveLength
    rw [receiver_setReceiver]
    dsimp only
    rw [if_pos (by rw [oct_toNat (by omega)]; exact short), setReceiver_setReceiver]
  rw [List.map_cons, runAll_cons marked, List.map_cons, runAll_cons counted,
    runAll_octets (kept := []) (by simp) ((setReceiver_rst _).trans released) (receiver_setReceiver _) complete]
  unfold completeFrame
  rw [setReceiver_setReceiver, setReceiver_of_hunt hunt]
  rfl

/-! ## Frames that are no request, and lengths a kind cannot have (11, R171, R176) -/

section
variable {p : Port} {s : State} {kind : Octet} {body : List Octet} (tag : Octet)

theorem noBody_of_length {serve : State → State × Reply} (h : body.length ≠ 0) :
    noBody serve body s = refuse s .refusedLength := by
  unfold noBody
  split
  · exact absurd rfl h
  · rfl

theorem oneOctet_of_length {serve : Octet → State → State × Reply} (h : body.length ≠ 1) :
    oneOctet serve body s = refuse s .refusedLength := by
  unfold oneOctet
  split
  · exact absurd rfl h
  · rfl

theorem twoOctets_of_length {serve : Octet → Octet → State → State × Reply} (h : body.length ≠ 2) :
    twoOctets serve body s = refuse s .refusedLength := by
  unfold twoOctets
  split
  · exact absurd rfl h
  · rfl

theorem threeOctets_of_length {serve : Octet → Octet → Octet → State → State × Reply} (h : body.length ≠ 3) :
    threeOctets serve body s = refuse s .refusedLength := by
  unfold threeOctets
  split
  · exact absurd rfl h
  · rfl

theorem fourOctets_of_length {serve : Octet → Octet → Octet → Octet → State → State × Reply} (h : body.length ≠ 4) :
    fourOctets serve body s = refuse s .refusedLength := by
  unfold fourOctets
  split
  · exact absurd rfl h
  · rfl

theorem dispatchLimits_of_length (h : body.length ≠ 27) : dispatchLimits body s = refuse s .refusedLength := by
  unfold dispatchLimits limitsBodyOf
  split
  next decoded =>
    split at decoded
    · exact absurd rfl h
    · cases decoded
  · rfl

theorem dispatchBranchLoad_of_length (h : body.length < 22 ∨ 28 < body.length) :
    dispatchBranchLoad p body s = refuse s .refusedLength := by
  unfold dispatchBranchLoad branchLoadOf
  split
  next decoded =>
    split at decoded
    · cases decoded
      unfold serveBranchLoad
      simp only [List.length_cons] at h
      exact if_pos (by dsimp only; omega)
    · cases decoded
  · rfl

theorem dispatchUnitLoad_of_length (h : body.length < 5 ∨ 7 < body.length) :
    dispatchUnitLoad p body s = refuse s .refusedLength := by
  unfold dispatchUnitLoad unitLoadOf
  split
  next decoded =>
    split at decoded
    · cases decoded
      unfold serveUnitLoad
      simp only [List.length_cons] at h
      exact if_pos (by dsimp only; omega)
    · cases decoded
  · rfl

theorem dispatchSlotMap_of_length (h : body.length < 5 ∨ 194 < body.length) :
    dispatchSlotMap p body s = refuse s .refusedLength := by
  unfold dispatchSlotMap
  split
  · unfold serveSlotMapWrite
    simp only [List.length_cons] at h
    exact if_pos (by omega)
  · rfl

theorem dispatchWindows_of_length (h : body.length < 1 ∨ 41 < body.length) :
    dispatchWindows p body s = refuse s .refusedLength := by
  unfold dispatchWindows
  split
  · unfold serveWindowSet
    simp only [List.length_cons] at h
    exact if_pos (by omega)
  · rfl

theorem dispatchPass_of_length (h : body.length < 1 ∨ 33 < body.length) :
    dispatchPass p tag body s = refuse s .refusedLength := by
  unfold dispatchPass
  split
  · unfold serveFieldPass maxPayload
    simp only [List.length_cons] at h
    exact if_pos (by omega)
  · rfl

theorem takeFrame_of_refused (other : kind ≠ restartKind) {st : Status}
    (refused : dispatch p ⟨tag, kind, body⟩ s = refuse s st) :
    takeFrame p ⟨tag, kind, body⟩ s = s.hand p (replyFrame tag kind st []) := by
  rw [takeFrame_of_dispatch other, refused]
  rfl

/-- RESTART has no body. -/
theorem takeFrame_of_restart (long : body.length ≠ 0) :
    takeFrame p ⟨tag, restartKind, body⟩ s = s.hand p (replyFrame tag restartKind .refusedLength []) := by
  unfold takeFrame
  rw [if_neg fun h => long (congrArg List.length h.2), if_pos rfl]
  rfl

theorem dispatch_of_unknown (unknown : kind.toNat = 0 ∨ 34 ≤ kind.toNat) :
    dispatch p ⟨tag, kind, body⟩ s = refuse s .refusedKind := by
  generalize hn : kind.toNat = n at unknown
  unfold dispatch
  dsimp only
  rw [hn]
  split
  case h_33 => rfl
  all_goals omega

theorem kind_of_toNat {k : Nat} (h : kind.toNat = k) : kind = BitVec.ofNat 8 k := by
  rw [← h, BitVec.ofNat_toNat, BitVec.setWidth_eq]

/-- The kinds with no body, RESTART apart. -/
theorem dispatch_of_noBody {k : Nat} (hk : k ∈ [11, 19, 20, 23, 27, 28, 29]) (kind_eq : kind.toNat = k) :
    ∃ serve, dispatch p ⟨tag, kind, body⟩ s = noBody serve body s := by
  unfold dispatch
  simp only [List.mem_cons, List.not_mem_nil, or_false] at hk
  rcases hk with rfl | rfl | rfl | rfl | rfl | rfl | rfl <;> rw [kind_eq] <;> exact ⟨_, rfl⟩

theorem dispatch_of_oneOctet {k : Nat} (hk : k ∈ [2, 4, 17, 18, 24, 26, 30, 31]) (kind_eq : kind.toNat = k) :
    ∃ serve, dispatch p ⟨tag, kind, body⟩ s = oneOctet serve body s := by
  unfold dispatch
  simp only [List.mem_cons, List.not_mem_nil, or_false] at hk
  rcases hk with rfl | rfl | rfl | rfl | rfl | rfl | rfl | rfl <;> rw [kind_eq] <;> exact ⟨_, rfl⟩

theorem dispatch_of_twoOctets {k : Nat} (hk : k ∈ [6, 15, 16, 25, 32, 33]) (kind_eq : kind.toNat = k) :
    ∃ serve, dispatch p ⟨tag, kind, body⟩ s = twoOctets serve body s := by
  unfold dispatch
  simp only [List.mem_cons, List.not_mem_nil, or_false] at hk
  rcases hk with rfl | rfl | rfl | rfl | rfl | rfl <;> rw [kind_eq] <;> exact ⟨_, rfl⟩

theorem dispatch_of_threeOctets {k : Nat} (hk : k ∈ [9, 12, 13, 14]) (kind_eq : kind.toNat = k) :
    ∃ serve, dispatch p ⟨tag, kind, body⟩ s = threeOctets serve body s := by
  unfold dispatch
  simp only [List.mem_cons, List.not_mem_nil, or_false] at hk
  rcases hk with rfl | rfl | rfl | rfl <;> rw [kind_eq] <;> exact ⟨_, rfl⟩

/-- The kinds whose body may have several lengths. -/
theorem dispatch_of_list {n lo hi : Nat} (row : (n, lo, hi) ∈ [(1, 22, 28), (3, 5, 7), (5, 5, 194), (10, 1, 41), (22, 1, 33)])
    (kind_eq : kind.toNat = n) (wrong : body.length < lo ∨ hi < body.length) :
    dispatch p ⟨tag, kind, body⟩ s = refuse s .refusedLength := by
  unfold dispatch
  rw [kind_eq]
  simp only [List.mem_cons, List.not_mem_nil, or_false, Prod.mk.injEq] at row
  rcases row with ⟨rfl, rfl, rfl⟩ | ⟨rfl, rfl, rfl⟩ | ⟨rfl, rfl, rfl⟩ | ⟨rfl, rfl, rfl⟩ | ⟨rfl, rfl, rfl⟩
  · exact dispatchBranchLoad_of_length wrong
  · exact dispatchUnitLoad_of_length wrong
  · exact dispatchSlotMap_of_length wrong
  · exact dispatchWindows_of_length wrong
  · exact dispatchPass_of_length tag wrong

end

/-- The kinds whose body has one length, by that length. -/
def fixedLengths (n : Nat) (ks : List Nat) : List (Nat × Nat × Nat) := ks.map fun k => (k, n, n)

theorem mem_fixedLengths {n k lo hi : Nat} {ks : List Nat} (h : (k, lo, hi) ∈ fixedLengths n ks) :
    k ∈ ks ∧ lo = n ∧ hi = n := by
  obtain ⟨j, hj, row⟩ := List.mem_map.mp h
  cases row
  exact ⟨hj, rfl, rfl⟩

/-- A body of a length its kind cannot have (11, R176; 12.3). -/
theorem takeFrame_of_wrongLength {p : Port} {s : State} {kind : Octet} {body : List Octet} (tag : Octet) {lo hi : Nat}
    (row : (kind.toNat, lo, hi) ∈ [(1, 22, 28), (3, 5, 7), (5, 5, 194), (10, 1, 41), (22, 1, 33)]
      ++ fixedLengths 0 [11, 19, 20, 21, 23, 27, 28, 29] ++ fixedLengths 1 [2, 4, 17, 18, 24, 26, 30, 31]
      ++ fixedLengths 2 [6, 15, 16, 25, 32, 33] ++ fixedLengths 3 [9, 12, 13, 14] ++ fixedLengths 4 [8]
      ++ fixedLengths 27 [7])
    (wrong : body.length < lo ∨ hi < body.length) :
    takeFrame p ⟨tag, kind, body⟩ s = s.hand p (replyFrame tag kind .refusedLength []) := by
  by_cases restart : kind = restartKind
  · subst restart
    refine takeFrame_of_restart tag ?_
    have zero : lo = 0 ∧ hi = 0 := by
      simp [fixedLengths, restartKind] at row
      exact row
    omega
  · have other : kind.toNat ≠ 21 := fun h => restart (kind_of_toNat h)
    refine takeFrame_of_refused tag restart ?_
    simp only [List.mem_append] at row
    rcases row with (((((row | row) | row) | row) | row) | row) | row
    · exact dispatch_of_list tag row rfl wrong
    · obtain ⟨hk, rfl, rfl⟩ := mem_fixedLengths row
      obtain ⟨serve, served⟩ := dispatch_of_noBody (p := p) (s := s) (body := body) tag (kind := kind)
        (by simp_all) rfl
      rw [served, noBody_of_length (by omega)]
    · obtain ⟨hk, rfl, rfl⟩ := mem_fixedLengths row
      obtain ⟨serve, served⟩ := dispatch_of_oneOctet (p := p) (s := s) (body := body) tag hk rfl
      rw [served, oneOctet_of_length (by omega)]
    · obtain ⟨hk, rfl, rfl⟩ := mem_fixedLengths row
      obtain ⟨serve, served⟩ := dispatch_of_twoOctets (p := p) (s := s) (body := body) tag hk rfl
      rw [served, twoOctets_of_length (by omega)]
    · obtain ⟨hk, rfl, rfl⟩ := mem_fixedLengths row
      obtain ⟨serve, served⟩ := dispatch_of_threeOctets (p := p) (s := s) (body := body) tag hk rfl
      rw [served, threeOctets_of_length (by omega)]
    · obtain ⟨hk, rfl, rfl⟩ := mem_fixedLengths row
      unfold dispatch
      rw [List.mem_singleton.mp hk]
      exact fourOctets_of_length (body := body) (by omega)
    · obtain ⟨hk, rfl, rfl⟩ := mem_fixedLengths row
      unfold dispatch
      rw [List.mem_singleton.mp hk]
      exact dispatchLimits_of_length (body := body) (by omega)

/-- Settles O11: the drops, the unknown kinds, and the lengths row by row. -/
theorem framesThatAreNoRequest : Obligations.FramesThatAreNoRequest := by
  intro p s released hunt
  have arrived : ∀ {tag kind : Octet} {body : List Octet}, s.Ready p → body.length ≤ 240 → kind.toNat < 128 →
      exec (.linkFrameComplete p (linkOctets tag kind body)) s = .next (takeFrame p ⟨tag, kind, body⟩ s) := by
    intro tag kind body ⟨_, free, idle⟩ short request
    rw [exec_linkFrameComplete released hunt (linkComplete_linkOctets short), judgeFrame_linkOctets,
      if_neg (by rw [kind_msb_iff]; omega), arrive_of_free released free idle]
  refine ⟨fun octets complete wrong => ?_, fun tag kind body short reply => ?_,
    fun tag kind body ready short unknown => ?_, ?_⟩
  · rw [exec_linkFrameComplete released hunt complete]
    exact congrArg _ (if_pos (by simp [wrong]))
  · rw [exec_linkFrameComplete released hunt (linkComplete_linkOctets short), judgeFrame_linkOctets,
      if_pos ((kind_msb_iff kind).mpr reply)]
    rfl
  · have other : kind ≠ restartKind := by
      rintro rfl
      revert unknown
      decide
    have known : kind.toNat < 128 := by
      rcases unknown with rfl | ⟨-, known⟩
      · decide
      · exact known
    rw [arrived ready short known, takeFrame_of_refused tag other (dispatch_of_unknown tag ?_)]
    rcases unknown with rfl | ⟨high, -⟩
    · exact .inl rfl
    · exact .inr high
  · intro fixed lengths tag kind body lo hi ready short row wrong
    rw [arrived ready short ?_, takeFrame_of_wrongLength tag row wrong]
    simp [lengths, fixed] at row
    omega

end Sys2Proof.Machine

/-! RST, the receivers, and the field cycle's slots. -/

namespace Sys2Proof.Machine

section
variable {s : State} (released : s.rst = false)
include released

theorem exec_released_receiverGap (p : Port) : exec (.receiverGap p) s = .next (receiverGap p s) :=
  congrArg _ (unlessReset_of_released released _)

theorem exec_released_mappedSlot : exec .mappedSlot s = .next (mappedSlot s) :=
  congrArg _ (unlessReset_of_released released _)

theorem exec_released_fieldReply (os : List Octet) : exec (.fieldReplyReceived os) s = .next (fieldReply os s) :=
  congrArg _ (unlessReset_of_released released _)

theorem exec_released_windowClose : exec .replyWindowClose s = .next (windowClose s) :=
  congrArg _ (unlessReset_of_released released _)

theorem exec_released_openSlot : exec .openSlot s = .next (openSlot s) :=
  congrArg _ (unlessReset_of_released released _)

end

/-! ## RST (11, R179) -/

/-- Settles O4: every block as the reset gives it. -/
theorem coldResetValues : Obligations.ColdResetValues := by
  intro s
  refine ⟨coldReset s, rfl, rfl, ⟨rfl, rfl⟩, ⟨rfl, rfl, rfl, rfl, rfl, rfl, rfl, rfl, rfl, rfl, rfl, rfl, rfl, rfl, rfl⟩,
    ⟨rfl, rfl⟩, rfl, rfl, fun l => ?_, ⟨rfl, rfl⟩, rfl, ⟨rfl, rfl, rfl, fun c hc => ?_⟩, rfl, fun p => ?_⟩
  · cases l <;> exact ⟨rfl, rfl, rfl, rfl, rfl, rfl, rfl, rfl, rfl, rfl, rfl⟩
  · obtain rfl := (List.mem_replicate.mp hc).2
    exact ⟨rfl, rfl, rfl, rfl⟩
  · cases p <;> rfl

theorem channel_release (x : Inputs) (n : Nat) :
    x.release.channel n = (x.channel n).map fun c => { c with level := x.pin n } := by
  cases n with
  | zero => rfl
  | succ n =>
    change (x.channels.zipIdx.map _)[n]? = (x.channels[n]?).map _
    rw [List.getElem?_map, List.getElem?_zipIdx, Option.map_map, Nat.zero_add]
    rfl

/-- A channel whose taken level is its input's takes nothing at a sample. -/
theorem takeLevel_of_level {s : State} {n : Nat} {position : Option Nat}
    (h : ∀ c, s.inputs.channel n = some c → c.level = s.inputs.pin n) :
    takeLevel n (s.inputs.pin n) position s = s := by
  cases hc : s.inputs.channel n with
  | none =>
    unfold takeLevel
    rw [hc]
  | some c => exact takeLevel_of_same hc (h c hc)

theorem sampleSlow_of_levels {s : State}
    (h : ∀ n c, n = 7 ∨ n = 8 → s.inputs.channel n = some c → c.level = s.inputs.pin n) : sampleSlow s = s := by
  unfold sampleSlow
  rw [takeLevel_of_level fun c => h 7 c (.inl rfl)]
  exact takeLevel_of_level fun c => h 8 c (.inr rfl)

theorem inputs_startCycle (s : State) : (startCycle s).inputs = s.inputs := by
  have counted : (countCycle s).inputs = s.inputs := by
    unfold countCycle
    dsimp only
    split <;> rfl
  have fixed : ∀ t : State, (fixPeriod t).inputs = t.inputs := by
    intro t
    unfold fixPeriod
    dsimp only
    split_ifs <;> rfl
  exact (fixed _).trans counted

/-- A cycle start with nothing to sample is the controller's work alone. -/
theorem beginCycle_of_levels {s : State}
    (h : ∀ n c, n = 7 ∨ n = 8 → s.inputs.channel n = some c → c.level = s.inputs.pin n) :
    beginCycle s = startCycle s := by
  refine sampleSlow_of_levels ?_
  rw [inputs_startCycle]
  exact h

/-- The state that the first cycle start after a release works on. -/
def State.freed (s : State) (shadow : Bool) (rate : BitVec 2) : State :=
  { s with
    rst := false, inputs := s.inputs.release, supervisory := .reset, panel := .reset,
    fc := { s.fc with shadow := shadow, rate := rate } }

/-- After a release every taken level is its pin's, so the first cycle start samples nothing. -/
theorem releaseReset_eq (shadow : Bool) (rate : BitVec 2) (s : State) :
    releaseReset shadow rate s = startCycle (s.freed shadow rate) := by
  refine beginCycle_of_levels (s := s.freed shadow rate) fun n c _ hc => ?_
  change s.inputs.release.channel n = some c at hc
  rw [channel_release] at hc
  obtain ⟨d, -, rfl⟩ := Option.map_eq_some_iff.mp hc
  rfl

/-- Settles O5: through the controller's work at the first cycle start. -/
theorem rstReleaseStarts : Obligations.RstReleaseStarts := by
  intro shadow rate s
  refine ⟨fun asserted => ?_, fun released => congrArg _ (if_neg (by simp [released]))⟩
  have done : exec (.rstRelease shadow rate) s = .next (startCycle (s.freed shadow rate)) :=
    (congrArg _ (if_pos asserted)).trans (congrArg _ (releaseReset_eq shadow rate s))
  have fc := startCycle_fc (s.freed shadow rate)
  have only := startOnly_startCycle (s.freed shadow rate)
  have inputs := inputs_startCycle (s.freed shadow rate)
  refine ⟨_, done, (congrArg State.rst only :), (congrArg FieldCycle.shadow fc :), (congrArg FieldCycle.rate fc :),
    (congrArg FieldCycle.lineShadow fc :), (congrArg FieldCycle.count fc :), ?_, fun p => ?_, fun n c hc => ?_,
    (congrArg Inputs.pins inputs :), (congrArg Inputs.stopLatch inputs :), (congrArg State.limits only :),
    (congrArg State.press only :), (congrArg State.load only :), (congrArg State.snapshot only :),
    (congrArg State.store only :)⟩
  · exact (congrArg FieldCycle.position fc).trans (congrArg (·.headD 64) (congrArg FieldCycle.serviceList fc).symm)
  · rw [only]
    cases p <;> rfl
  · rw [inputs]
    exact (channel_release s.inputs n).trans (by rw [hc]; rfl)

/-! ## Requests for the panel alone (11, R177) -/

section
variable {s : State} {o q : Octet}

theorem panelUnit_supervisory (o q : Octet) (s : State) :
    panelUnit .supervisory o q s = .error (match namedUnit o q s with
      | .error st => st
      | .ok _ => .refusedRank) := by
  unfold panelUnit
  cases namedUnit o q s <;> rfl

theorem serveUnitHand_of_error {p : Port} {st : Status} (h : panelUnit p o q s = .error st) (d : Octet) :
    serveUnitHand p o q d s = refuse s st := by
  unfold serveUnitHand
  rw [h]

theorem serveUnitAuto_of_error {p : Port} {st : Status} (h : panelUnit p o q s = .error st) :
    serveUnitAuto p o q s = refuse s st := by
  unfold serveUnitAuto
  rw [h]

end

/-- Settles O13: the rank check, after index and occupancy for the two requests on a unit. -/
theorem panelRequestsRefused : Obligations.PanelRequestsRefused := by
  intro tag s ready
  refine ⟨request_serves ready rfl, request_serves ready rfl, fun l q d => ?_⟩
  have both : ∀ {st : Status}, panelUnit .supervisory l q s = .error st →
      exec (.unitHand .supervisory tag l q d) s = .next (s.hand .supervisory (replyFrame tag 14 st [])) ∧
        exec (.unitAuto .supervisory tag l q) s = .next (s.hand .supervisory (replyFrame tag 15 st [])) :=
    fun h => ⟨request_serves ready (serveUnitHand_of_error h d), request_serves ready (serveUnitAuto_of_error h)⟩
  refine ⟨fun noPlace => both ?_, fun x place empty => both ?_, fun x u place unit => both ?_⟩
  · rw [panelUnit_supervisory]
    unfold namedUnit
    rw [noPlace]
  · rw [panelUnit_supervisory]
    unfold namedUnit
    rw [place]
    dsimp only
    rw [empty]
  · rw [panelUnit_supervisory, namedUnit_of_place place unit]

/-! ## The receiver (11, R170, R174) -/

/-- Settles O12: row by row. -/
theorem receiverTable : Obligations.ReceiverTable := by
  intro p o s
  refine ⟨fun released => ⟨fun hunt mark => ?_, fun hunt other => ?_, fun receiving short => ?_,
    fun receiving long => ?_, fun n kept receiving unfinished => ?_, fun discarding => ?_, fun kept receiving => ?_,
    fun discarding => ?_, fun hunt => ?_⟩, fun f rest queue => ?_⟩
  · rw [exec_linkOctetReceived released]
    unfold receiveOctet
    rw [hunt]
    exact congrArg _ (if_pos mark)
  · rw [exec_linkOctetReceived released]
    unfold receiveOctet
    rw [hunt]
    exact congrArg _ (if_neg other)
  · rw [exec_linkOctetReceived released]
    unfold receiveOctet
    rw [receiving]
    exact congrArg _ (if_pos short)
  · rw [exec_linkOctetReceived released]
    unfold receiveOctet
    rw [receiving]
    exact congrArg _ (if_neg (show ¬ o.toNat ≤ 240 by omega))
  · rw [exec_linkOctetReceived released, receiveOctet_of_receiving receiving, if_neg]
    · rfl
    · rw [List.cons_append, linkComplete_iff, List.length_append, List.length_singleton]
      omega
  · rw [exec_linkOctetReceived released]
    unfold receiveOctet
    rw [discarding]
  · rw [exec_released_receiverGap released]
    unfold receiverGap
    rw [receiving]
    rfl
  · rw [exec_released_receiverGap released]
    unfold receiverGap
    rw [discarding]
    rfl
  · rw [exec_released_receiverGap released]
    unfold receiverGap
    rw [hunt]
  · change Host.Outcome.next (s.setPort p { s.port p with tx := (s.port p).tx.drop 1 }) = _
    rw [queue]
    rfl

/-! ## The mapped slots (02, R31, R32) -/

section
variable {s : State} {k : Nat} {e : SlotEntry}

theorem between_of_cycle (position : s.fc.position ≠ 65) (window : s.fc.window = none) : s.fc.between = true := by
  unfold FieldCycle.between
  rw [window]
  exact Bool.and_eq_true_iff.mpr ⟨decide_eq_true position, rfl⟩

theorem mappedSlot_of_due (between : s.fc.between = true) (due : s.fc.serviceList[s.fc.served]? = some k) :
    mappedSlot s = serveSlot k s := by
  unfold mappedSlot
  rw [if_pos between, due]

theorem entryAt_of_running (running : s.fc.runningMap[k]? = some e) : s.fc.entryAt k = e := by
  unfold FieldCycle.entryAt
  rw [List.getD_eq_getElem?_getD, running, Option.getD_some]

/-- A slot with no target keeps the line quiet. -/
theorem serveSlot_of_quiet (entry : s.fc.entryAt k = e) (quiet : s.slotTarget e.binding = none) :
    serveSlot k s = { s with fc := { s.fc with
      position := k, served := s.fc.served + 1, lineOut := [], window := none } } := by
  unfold serveSlot
  rw [entry]
  dsimp only
  rw [quiet]

/-- A slot with a target polls it. -/
theorem serveSlot_of_target (entry : s.fc.entryAt k = e) {w : WindowTarget} {a : Nat} {block : Option (List Octet)}
    (target : s.slotTarget e.binding = some (w, a, block)) :
    serveSlot k s = { s with fc := { s.fc with
      position := k, served := s.fc.served + 1, window := some ⟨w, a, .waiting⟩,
      lineOut := pollFrame s.fc.lineShadow e.command a block } } := by
  unfold serveSlot
  rw [entry]
  dsimp only
  rw [target]

theorem pollFrame_eq (shadow command : Bool) (a : Nat) (block : Option (List Octet)) :
    pollFrame shadow command a block = match block with
      | some os => if command = true ∧ shadow = false then fieldFrame a 2 os else fieldFrame a 1 []
      | none => fieldFrame a 1 [] := by
  unfold pollFrame
  cases block with
  | none => rfl
  | some os => cases command <;> cases shadow <;> rfl

theorem slotTarget_of_unloaded {b : Binding} (h : s.loaded b = false) : s.slotTarget b = none := by
  cases ht : s.slotTarget b with
  | none => rfl
  | some x =>
    rw [(slotTarget_loaded ht).1] at h
    cases h

end

/-- Settles O25: by what the entry binds. -/
theorem mappedSlotPolls : Obligations.MappedSlotPolls := by
  intro k e s released position window due running quiet polled
  have entry := entryAt_of_running running
  have slot : exec .mappedSlot s = .next (serveSlot k s) :=
    (exec_released_mappedSlot released).trans (congrArg _ (mappedSlot_of_due (between_of_cycle position window) due))
  have stays : s.slotTarget e.binding = none → exec .mappedSlot s = .next quiet :=
    fun none => slot.trans (congrArg _ (serveSlot_of_quiet entry none))
  have polls : ∀ {w a block}, s.slotTarget e.binding = some (w, a, block) →
      exec .mappedSlot s = .next (polled w a block) :=
    fun target => slot.trans (congrArg _ ((serveSlot_of_target entry target).trans
      (congrArg (fun line => ({ s with fc := { s.fc with
        position := k, served := s.fc.served + 1, window := some ⟨_, _, .waiting⟩, lineOut := line } } : State))
        (pollFrame_eq _ _ _ _))))
  refine ⟨fun unloaded => stays (slotTarget_of_unloaded unloaded),
    fun i b binding loaded => ⟨fun joined => stays ?_, fun old => ⟨fun x n c part => polls ?_, fun d n c part => polls ?_⟩⟩,
    fun l q u binding loaded => ⟨fun joined => stays ?_, fun old => polls ?_⟩,
    fun h binding loaded => ⟨fun recent => stays ?_, fun old => polls (w := .header) (a := h.address) (block := none) ?_⟩⟩
  · simp [binding, State.slotTarget, loaded, joined]
  · simp [binding, State.slotTarget, loaded, old, part, BranchPart.payload]
    rfl
  · simp [binding, State.slotTarget, loaded, old, part, BranchPart.payload]
    rfl
  · simp [binding, State.slotTarget, loaded, joined]
  · simp [binding, State.slotTarget, loaded, old]
    rfl
  · simp [binding, State.slotTarget, loaded, recent]
  · simp [binding, State.slotTarget, loaded, old]

/-! ## The reply window's end and the open slot (02, R34, R36) -/

/-- Settles O27: by the window's target, and by the head of the queue. -/
theorem openSlotServesOnePass : Obligations.OpenSlotServesOnePass := by
  intro s released
  refine ⟨fun w window mapped => ?_, fun w e window pass flight => ?_, fun position window unbegun listed => ?_⟩
  · rw [exec_released_windowClose released]
    unfold windowClose
    rw [window]
    dsimp only
    cases ht : w.target with
    | pass => exact absurd ht mapped
    | _ => cases w.verdict <;> rfl
  · intro t ended
    have ends : ∀ {st os}, windowClose s = t.deferred e st os →
        exec .replyWindowClose s = .next (ended (passReply e st os)) :=
      fun h => (exec_released_windowClose released).trans (congrArg _ h)
    refine ⟨fun os good => ends ?_, fun bad => ends ?_⟩
    · unfold windowClose endPass
      rw [window]
      dsimp only
      rw [pass, good, flight]
    · unfold windowClose endPass
      rw [window]
      dsimp only
      rw [pass, flight]
      cases hv : w.verdict with
      | waiting => rfl
      | miss => rfl
      | good os => exact absurd hv (bad os)
  · have due : s.fc.openDue = true := by
      unfold FieldCycle.openDue
      rw [between_of_cycle position window, unbegun]
      simpa using listed
    refine ⟨fun e rest live queue => ?_, fun still => ?_⟩
    · rw [exec_released_openSlot released]
      unfold openSlot
      rw [if_pos due]
      dsimp only
      rw [if_neg (by simp [live]), queue]
      rfl
    · rw [exec_released_openSlot released]
      unfold openSlot
      rw [if_pos due]
      dsimp only
      split
      · rfl
      next live =>
        rw [still.resolve_left live]
        rfl

end Sys2Proof.Machine

/-! The written slot map (02, R24) and the tariff schedules (09, R148 to R150): the octets of a body decode to the entries
and the windows they were made from. -/

namespace Sys2Proof.Machine

/-! ## Lists of entries decoded one by one -/

theorem allSome_map {α β : Type} {f : α → Option β} {g : β → α} {xs : List β} (h : ∀ x ∈ xs, f (g x) = some x) :
    allSome ((xs.map g).map f) = some xs := by
  induction xs with
  | nil => rfl
  | cons x xs ih =>
    obtain ⟨head, tail⟩ := List.forall_mem_cons.mp h
    simp only [List.map_cons, head, allSome, ih tail, Option.map_some]

/-! ## Slot entries -/

/-- An entry's three octets, as a request carries them. -/
def SlotEntry.raw (e : SlotEntry) : RawSlot :=
  ⟨e.octets.getD 0 0, e.octets.getD 1 0, e.octets.getD 2 0⟩

theorem octets_raw (e : SlotEntry) : e.octets = [e.raw.code, e.raw.first, e.raw.second] := by
  unfold SlotEntry.raw SlotEntry.octets
  cases e.binding <;> rfl

theorem rawSlots_octets (es : List SlotEntry) : rawSlots (es.flatMap SlotEntry.octets) = es.map SlotEntry.raw := by
  induction es with
  | nil => rfl
  | cons e es ih =>
    rw [List.flatMap_cons, octets_raw, List.map_cons, ← ih]
    rfl

theorem octets_length (es : List SlotEntry) : (es.flatMap SlotEntry.octets).length = 3 * es.length := by
  induction es with
  | nil => rfl
  | cons e es ih =>
    rw [List.flatMap_cons, octets_raw, List.length_append, ih, List.length_cons]
    simp only [List.length_cons, List.length_nil]
    omega

/-- The code of an entry: its binding's kind and whether a command may go with the poll. -/
theorem raw_code (e : SlotEntry) : e.raw.code.toNat =
    (match e.binding with
      | .unbound => 0
      | .branch _ => 2
      | .unit _ _ => 4
      | .header => 6) + if e.command then 1 else 0 := by
  unfold SlotEntry.raw SlotEntry.octets
  cases e.binding <;> cases e.command <;> rfl

theorem raw_defined (e : SlotEntry) : e.raw.defined = true := by
  unfold RawSlot.defined
  rw [raw_code]
  cases e.binding <;> cases e.command <;> rfl

theorem raw_decode {e : SlotEntry} (valid : e.binding.Valid) : e.raw.decode = some e := by
  obtain ⟨b, command⟩ := e
  have code := raw_code ⟨b, command⟩
  unfold RawSlot.decode
  rw [code]
  cases b with
  | unbound => cases command <;> rfl
  | header => cases command <;> rfl
  | branch i =>
    have index : (oct i).toNat = i := oct_toNat (by have : i ≤ 47 := valid; omega)
    have first : (SlotEntry.raw ⟨.branch i, command⟩).first.toNat = i := index
    have inside : i < Config.branchCount := Nat.lt_succ_of_le valid
    cases command <;> simp [first, inside]
  | unit l q =>
    have small : q ≤ 255 := by
      have : q ≤ ladderSize l := valid.2
      cases l <;> exact this.trans (by decide)
    have second : (SlotEntry.raw ⟨.unit l q, command⟩).second.toNat = q := oct_toNat small
    have first : ladderOfCode (SlotEntry.raw ⟨.unit l q, command⟩).first = some l := by cases l <;> rfl
    have inside : 1 ≤ q ∧ q ≤ ladderSize l := valid
    cases command <;> simp [first, second, inside.1, inside.2]

/-- Settles O21: the checks in their order, the body's entries being those it was made from. -/
theorem slotMapWritten : Obligations.SlotMapWritten := by
  intro p tag first es s ready some_entry fits valid may
  have number : (oct es.length).toNat = es.length := oct_toNat (by omega)
  have length := octets_length es
  have positive : 0 < es.length := List.length_pos_iff.mpr some_entry
  have decoded : allSome ((rawSlots (es.flatMap SlotEntry.octets)).map RawSlot.decode) = some es := by
    rw [rawSlots_octets]
    exact allSome_map fun e he => raw_decode (valid e he)
  have defined : (rawSlots (es.flatMap SlotEntry.octets)).all (·.defined) = true := by
    rw [rawSlots_octets, List.all_map]
    exact List.all_eq_true.mpr fun e _ => raw_defined e
  have allowed : (decide (p = .supervisory)
      && (((s.fc.written.drop first.toNat).take es.length).any (fun e => s.panelBound e.binding)
        || es.any (fun e => s.panelBound e.binding))) = false := by
    rcases may with rfl | free
    · rfl
    · have old : ((s.fc.written.drop first.toNat).take es.length).any (fun e => s.panelBound e.binding) = false := by
        rw [List.any_eq_false]
        intro e he
        simp [free e (List.mem_append_left _ (List.mem_of_mem_drop (List.mem_of_mem_take he)))]
      have new : es.any (fun e => s.panelBound e.binding) = false := by
        rw [List.any_eq_false]
        intro e he
        simp [free e (List.mem_append_right _ he)]
      rw [old, new]
      simp
  refine request_serves ready ?_
  unfold serveSlotMapWrite
  rw [number, if_neg (by omega), if_neg (by omega), if_neg (by omega), if_neg (by simp [defined]), decoded]
  dsimp only
  rw [if_neg (by rw [allowed]; simp)]
  rfl

end Sys2Proof.Machine

/-! An evaluation of the storage mode (09, R151 to R153), and the requests and the event that bring one about. -/

namespace Sys2Proof.Machine

/-! ## The current window (09, R151) -/

section
variable {ws : List TariffWindow} {w : TariffWindow}

/-- The last of windows in ascending order is the one that starts latest. -/
theorem getLast?_of_latest (sorted : (ws.map (·.start)).Pairwise (· < ·)) (mem : w ∈ ws)
    (latest : ∀ v ∈ ws, v.start ≤ w.start) : ws.getLast? = some w := by
  rcases List.eq_nil_or_concat ws with rfl | ⟨init, last, rfl⟩
  · cases mem
  · rw [List.concat_eq_append] at sorted mem latest ⊢
    rw [List.getLast?_concat]
    rw [List.mem_append, List.mem_singleton] at mem
    rcases mem with before | same
    · rw [List.map_append, List.pairwise_append] at sorted
      have earlier := sorted.2.2 w.start (List.mem_map_of_mem before) last.start (by simp)
      have later := latest last (by simp)
      omega
    · rw [same]

theorem findWindow_of_current {q : Scheduler} {c : Clock} (sorted : (q.active.map (·.start)).Pairwise (· < ·))
    (clock : q.clock = some c) (current : w.CurrentAt c.minute q.active) : q.findWindow = some w := by
  obtain ⟨mem, which⟩ := current
  unfold Scheduler.findWindow
  rw [clock]
  dsimp only
  rcases which with ⟨begun, latest⟩ | ⟨none_begun, latest⟩
  · have last : (q.active.filter fun v => decide (v.start ≤ c.minute)).getLast? = some w := by
      refine getLast?_of_latest (List.Pairwise.sublist ((List.filter_sublist).map _) sorted)
        (List.mem_filter.mpr ⟨mem, decide_eq_true begun⟩) fun v hv => ?_
      obtain ⟨hv, hs⟩ := List.mem_filter.mp hv
      exact latest v hv (of_decide_eq_true hs)
    rw [last]
  · have empty : (q.active.filter fun v => decide (v.start ≤ c.minute)) = [] := by
      rw [List.filter_eq_nil_iff]
      intro v hv
      have := none_begun v hv
      simp only [decide_eq_true_eq]
      omega
    rw [empty]
    exact getLast?_of_latest sorted mem latest

theorem findWindow_of_unset {q : Scheduler} (h : q.clock = none ∨ q.active = []) : q.findWindow = none := by
  unfold Scheduler.findWindow
  rcases h with clock | active
  · rw [clock]
  · rw [active]
    cases q.clock <;> rfl

end

/-! ## The evaluation (09, R152) -/

section
variable {q : Scheduler} {st : Option (Nat × Branch)} {count : CycleCount}

/-- No window or no available record: HOLD at rate 0. -/
theorem chooseMode_of_held (h : q.findWindow = none ∨ storageAvailable st = false) : chooseMode q st = (.hold, 0) := by
  unfold chooseMode
  rcases h with window | away
  · rw [window]
    split_ifs <;> rfl
  · rw [away]
    by_cases unset : q.clock.isNone = true
    · rw [if_pos unset]
    · rw [if_neg unset]
      rfl

theorem chooseMode_of_window {c : Clock} {w : TariffWindow} {d : StorageDesc} (clock : q.clock = some c)
    (window : q.findWindow = some w) (part : storagePart st = some d) (available : storageAvailable st = true) :
    chooseMode q st = windowMode q d w := by
  unfold chooseMode
  rw [clock, available, window, part]
  rfl

theorem evaluate_mode : (q.evaluate count st).1.mode = (chooseMode q st).1 := setMode_mode _ _ _

theorem evaluate_rate : (q.evaluate count st).1.rate = (chooseMode q st).2 := by
  unfold Scheduler.evaluate Scheduler.setMode
  split <;> rfl

theorem evaluate_window : (q.evaluate count st).1.window = q.findWindow.map (·.start) := by
  unfold Scheduler.evaluate Scheduler.setMode
  split <;> rfl

theorem evaluate_kept : (q.evaluate count st).1 = { q with
    mode := (q.evaluate count st).1.mode, rate := (q.evaluate count st).1.rate,
    window := (q.evaluate count st).1.window, lastChange := (q.evaluate count st).1.lastChange } := by
  unfold Scheduler.evaluate Scheduler.setMode
  split <;> rfl

theorem evaluate_same (h : (q.evaluate count st).1.mode = q.mode) :
    (q.evaluate count st).2 = [] ∧ (q.evaluate count st).1.lastChange = q.lastChange := by
  rw [evaluate_mode] at h
  unfold Scheduler.evaluate Scheduler.setMode
  rw [if_pos h]
  exact ⟨rfl, rfl⟩

theorem evaluate_changed (h : (q.evaluate count st).1.mode ≠ q.mode) :
    (q.evaluate count st).2 = [⟨.storageMode, storageSubject st, (q.evaluate count st).1.mode.code⟩] ∧
      (q.evaluate count st).1.lastChange = count := by
  rw [evaluate_mode] at h
  rw [evaluate_mode]
  unfold Scheduler.evaluate Scheduler.setMode
  rw [if_neg h]
  exact ⟨rfl, rfl⟩

end

theorem storageAvailable_eq_false {s : State} (h : ∀ i b, s.storage = some (i, b) → b.available = false) :
    storageAvailable s.storage = false := by
  cases hs : s.storage with
  | none => rfl
  | some x => exact h x.1 x.2 hs

theorem writeStorageCmd_of_absent {s : State} (h : s.storage = none) : s.writeStorageCmd = s := by
  unfold State.writeStorageCmd
  rw [h]

/-- The write of the mode (09, R153): a record that is AWAITING keeps its block. -/
theorem writeStorageCmd_branches {s : State} {i : Nat} {b : Branch} {d : StorageDesc} {n c : Option StorageCmd}
    (h : s.storage = some (i, b)) (part : b.part = .storage d n c) :
    s.writeStorageCmd.branches = s.branches.set i (some { b with
      part := .storage d (if b.station.freshness = .awaiting then n else some ⟨s.store.mode, s.store.rate⟩) c }) := by
  unfold State.writeStorageCmd
  rw [h]
  dsimp only
  split
  next awaiting =>
    have here := branch?_eq_some_iff.mp (branch?_of_storage h)
    rw [← part]
    obtain ⟨lt, at_i⟩ := List.getElem?_eq_some_iff.mp here
    rw [← at_i, List.set_getElem_self]
  next heard =>
    unfold Branch.withStorageCmd
    rw [part]
    rfl

/-- What an evaluation makes of a state, rule by rule. -/
theorem modeEvaluated_evaluateMode (s : State) (q : Scheduler) :
    ModeEvaluated q s ({ s with store := q } : State).evaluateMode := by
  have frame := evaluateMode_frame { s with store := q }
  have store : ({ s with store := q } : State).evaluateMode.store = (q.evaluate s.fc.count s.storage).1 :=
    (congrArg State.store frame :)
  have events : ({ s with store := q } : State).evaluateMode.events =
      (s.notes (q.evaluate s.fc.count s.storage).2).events := by
    unfold State.evaluateMode
    rw [writeStorageCmd_frame]
    rfl
  have evaluated : ((({ s with store := q } : State).schedule Scheduler.evaluate)).storage = s.storage := rfl
  constructor
  case frame => exact (storeOnly_evaluateMode { s with store := q }).frame
  case kept => rw [store]; exact evaluate_kept
  case same =>
    rw [store, events]
    intro h
    obtain ⟨none, stamp⟩ := evaluate_same h
    rw [none]
    exact ⟨rfl, stamp⟩
  case changed =>
    rw [store, events]
    intro h
    obtain ⟨note, stamp⟩ := evaluate_changed h
    rw [note]
    exact ⟨stamp, rfl⟩
  case held =>
    rw [store, evaluate_mode, evaluate_rate]
    intro h
    rw [chooseMode_of_held]
    · exact ⟨rfl, rfl⟩
    · rcases h with clock | active | away
      · exact .inl (findWindow_of_unset (.inl clock))
      · exact .inl (findWindow_of_unset (.inr active))
      · exact .inr (storageAvailable_eq_false away)
  case unset =>
    rw [store, evaluate_window]
    intro h
    rw [findWindow_of_unset h]
    rfl
  case current =>
    rw [store, evaluate_mode, evaluate_rate, evaluate_window]
    intro sorted c w clock current
    have window := findWindow_of_current sorted clock current
    refine ⟨by rw [window]; rfl, fun i b d found desc available => ?_⟩
    rw [Prod.mk.eta, chooseMode_of_window clock window ((storagePart_of_storage found).1.trans desc)
      (by rw [found]; exact available)]
    unfold windowMode
    cases w.mode <;> rfl
  case absent =>
    intro h
    unfold State.evaluateMode
    rw [writeStorageCmd_of_absent (evaluated.trans h)]
    rfl
  case written =>
    intro i b d n c h part
    rw [store]
    unfold State.evaluateMode
    exact writeStorageCmd_branches (evaluated.trans h) part

/-- Settles O40: the clock clamped, and the evaluation. -/
theorem timeSetEvaluates : Obligations.TimeSetEvaluates := by
  intro p tag minute second s ready
  have status : doneIf (decide (1439 < minute.toNat) || decide (59 < second.toNat)) =
      if minute.toNat ≤ 1439 ∧ second.toNat ≤ 59 then .done else .doneClamped := by
    unfold doneIf
    by_cases hm : 1439 < minute.toNat
    · simp [hm, Nat.not_le.mpr hm]
    · by_cases hs : 59 < second.toNat
      · simp [hs, Nat.not_le.mpr hs]
      · simp [hm, hs, Nat.not_lt.mp hm, Nat.not_lt.mp hs]
  rw [← status]
  exact ⟨_, request_serves ready rfl, modeEvaluated_evaluateMode s _⟩

/-! ## Windows in a body (09, R148) -/

theorem ofBe_be {n : Nat} (h : n ≤ 65535) : ofBe (be 2 n) = n := by
  simp only [ofBe, be, oct, List.foldl_cons, List.foldl_nil, BitVec.toNat_ofNat]
  omega

/-- A window's five octets, as a request carries them. -/
def TariffWindow.raw (w : TariffWindow) : RawWindow := ⟨ofBe (be 2 w.start), oct w.mode.code, ofBe (be 2 w.rate)⟩

theorem rawWindows_octets (ws : List TariffWindow) :
    rawWindows (ws.flatMap TariffWindow.octets) = ws.map TariffWindow.raw := by
  induction ws with
  | nil => rfl
  | cons w ws ih =>
    rw [List.flatMap_cons, List.map_cons, ← ih]
    rfl

theorem windowOctets_length (ws : List TariffWindow) : (ws.flatMap TariffWindow.octets).length = 5 * ws.length := by
  induction ws with
  | nil => rfl
  | cons w ws ih =>
    have five : w.octets.length = 5 := rfl
    rw [List.flatMap_cons, List.length_append, five, ih, List.length_cons]
    omega

theorem rawWindow_decode {w : TariffWindow} (valid : w.Valid) : w.raw.decode = some w := by
  obtain ⟨start, rate⟩ := valid
  unfold TariffWindow.raw RawWindow.decode
  have mode : StorageMode.ofCode (oct w.mode.code) = some w.mode := by cases w.mode <;> rfl
  dsimp only
  rw [mode, ofBe_be (by omega), ofBe_be rate]
  exact if_pos start

theorem insertWindow_perm (w : TariffWindow) (ws : List TariffWindow) : (insertWindow w ws).Perm (w :: ws) := by
  induction ws with
  | nil => exact .refl _
  | cons v ws ih =>
    unfold insertWindow
    split
    · exact .refl _
    · exact (ih.cons v).trans (.swap w v ws)

theorem insertWindow_sorted {w : TariffWindow} {ws : List TariffWindow}
    (sorted : (ws.map (·.start)).Pairwise (· ≤ ·)) : ((insertWindow w ws).map (·.start)).Pairwise (· ≤ ·) := by
  induction ws with
  | nil => exact List.pairwise_singleton _ _
  | cons v ws ih =>
    obtain ⟨first, rest⟩ := List.pairwise_cons.mp sorted
    unfold insertWindow
    split
    next before =>
      refine List.pairwise_cons.mpr ⟨fun m hm => ?_, sorted⟩
      rcases List.mem_cons.mp hm with rfl | later
      · exact Nat.le_of_lt before
      · exact (Nat.le_of_lt before).trans (first m later)
    next notBefore =>
      refine List.pairwise_cons.mpr ⟨fun m hm => ?_, ih rest⟩
      rcases List.mem_cons.mp (((insertWindow_perm w ws).map (·.start)).mem_iff.mp hm) with rfl | later
      · exact Nat.not_lt.mp notBefore
      · exact first m later

theorem sortWindows_perm (ws : List TariffWindow) : (sortWindows ws).Perm ws := by
  unfold sortWindows
  induction ws with
  | nil => exact .refl _
  | cons w ws ih => exact (insertWindow_perm w _).trans (ih.cons w)

theorem sortWindows_sorted {ws : List TariffWindow} (distinct : (ws.map (·.start)).Nodup) :
    ((sortWindows ws).map (·.start)).Pairwise (· < ·) := by
  have ascending : ((sortWindows ws).map (·.start)).Pairwise (· ≤ ·) := by
    clear distinct
    unfold sortWindows
    induction ws with
    | nil => exact .nil
    | cons w ws ih => exact insertWindow_sorted ih
  have nodup : ((sortWindows ws).map (·.start)).Nodup := ((sortWindows_perm ws).map _).nodup_iff.mpr distinct
  exact ascending.imp₂ (fun _ _ le ne => Nat.lt_of_le_of_ne le ne) nodup

/-! ## Who may set a schedule (09, R148, check 3) -/

theorem storageBars_eq_false {s : State} {p : Port}
    (may : p = .panel ∨ ∀ i b, s.storage = some (i, b) → b.desc.guard = .anyone) : s.storageBars p = false := by
  unfold State.storageBars
  rcases may with rfl | anyone
  · rfl
  · cases hs : s.storage with
    | none => simp
    | some x => simp [anyone x.1 x.2 hs]

theorem exec_released_windowBoundary {s : State} (released : s.rst = false) :
    exec .windowBoundary s = .next (windowBoundary s) := congrArg _ (unlessReset_of_released released _)

/-- Settles O41: the body decodes to the windows it was made from; each placement but the staging ends in an
evaluation. -/
theorem schedulesPlaced : Obligations.SchedulesPlaced := by
  refine ⟨fun p tag ws s ready few valid distinct may => ?_, fun p tag s ready may => ⟨fun unstaged => ?_,
    fun ws staged => ?_⟩, fun s released => ⟨fun undue => ?_, fun due => ?_⟩⟩
  · have number : (oct ws.length).toNat = ws.length := oct_toNat (by omega)
    have length := windowOctets_length ws
    have decoded : allSome ((rawWindows (ws.flatMap TariffWindow.octets)).map RawWindow.decode) = some ws := by
      rw [rawWindows_octets]
      exact allSome_map fun w hw => rawWindow_decode (valid w hw)
    have placed : serveWindowSet p (oct ws.length) (ws.flatMap TariffWindow.octets) s =
        placeSchedule (sortWindows ws) s := by
      unfold serveWindowSet
      rw [number, if_neg (by omega), if_neg (by omega), if_neg (by omega), if_neg (by simp [storageBars_eq_false may]),
        decoded]
      exact if_pos distinct
    by_cases now : s.store.clock = none ∨ s.store.active = []
    · have served : placeSchedule (sortWindows ws) s =
          (({ s with store := { s.store with active := sortWindows ws, staged := none } } : State).evaluateMode,
            ⟨.done, [0]⟩) := if_pos (by simpa using now)
      refine ⟨_, sortWindows ws, sortWindows_perm ws, sortWindows_sorted distinct, ?_,
        fun _ => modeEvaluated_evaluateMode s _, fun clock active => ?_⟩
      · rw [if_pos now]
        exact request_serves ready (placed.trans served)
      · exact absurd now (not_or.mpr ⟨clock, active⟩)
    · have served : placeSchedule (sortWindows ws) s =
          ({ s with store := { s.store with staged := some (sortWindows ws) } }, ⟨.done, [1]⟩) :=
        if_neg (by simpa using now)
      refine ⟨_, sortWindows ws, sortWindows_perm ws, sortWindows_sorted distinct, ?_, fun h => absurd h now,
        fun _ _ => rfl⟩
      rw [if_neg now]
      exact request_serves ready (placed.trans served)
  · refine request_serves ready ?_
    unfold serveWindowReload
    rw [storageBars_eq_false may, unstaged]
    rfl
  · have served : serveWindowReload p s =
        (({ s with store := s.store.reload ws } : State).evaluateMode, ⟨.done, []⟩) := by
      unfold serveWindowReload
      rw [storageBars_eq_false may, staged]
      rfl
    have evaluated := modeEvaluated_evaluateMode s (s.store.reload ws)
    refine ⟨_, request_serves ready served, ?_⟩
    have due : (({ s with store := s.store.reload ws } : State).evaluateMode).store.boundaryDue =
        (s.store.reload ws).boundaryDue := by
      rw [evaluated.kept]
    rw [due]
    exact evaluated
  · exact (exec_released_windowBoundary released).trans (congrArg _ (if_neg (by simp [undue])))
  · refine ⟨_, (exec_released_windowBoundary released).trans (congrArg _ (if_pos due)), ?_⟩
    have adopted : s.store.adopt = { s.store with
        active := s.store.staged.getD s.store.active, staged := none, boundaryDue := false } := by
      unfold Scheduler.adopt
      cases s.store.staged <;> simp
    rw [← adopted]
    exact modeEvaluated_evaluateMode s _

end Sys2Proof.Machine

/-! BRANCH_LOAD and BRANCH_RELEASE (01, R7 to R11): what the checks let pass, and what a load, a reload and a null load
make of the table and of the scheduler. -/

namespace Sys2Proof.Machine

/-! ## Station addresses in use (01, R6) -/

/-- Of records with distinct addresses, two at one address stand at one place. -/
theorem index_of_distinct {α : Type} {f : α → Nat} {xs : List (Option α)}
    (distinct : (xs.filterMap fun x => x.map f).Nodup) {i j : Nat} {x y : α} (hi : xs[i]? = some (some x))
    (hj : xs[j]? = some (some y)) (same : f x = f y) : i = j := by
  have apart := List.pairwise_iff_getElem.mp (List.pairwise_filterMap.mp distinct)
  obtain ⟨li, gi⟩ := List.getElem?_eq_some_iff.mp hi
  obtain ⟨lj, gj⟩ := List.getElem?_eq_some_iff.mp hj
  rcases Nat.lt_trichotomy i j with lt | eq | gt
  · exact absurd same (apart i j li lj lt (f x) (by rw [gi]; rfl) (f y) (by rw [gj]; rfl))
  · exact eq
  · exact absurd same.symm (apart j i lj li gt (f y) (by rw [gj]; rfl) (f x) (by rw [gi]; rfl))

theorem mem_filterMap_of_get {α : Type} {f : α → Nat} {xs : List (Option α)} {i : Nat} {x : α}
    (h : xs[i]? = some (some x)) : f x ∈ xs.filterMap fun x => x.map f :=
  List.mem_filterMap.mpr ⟨some x, List.mem_of_getElem? h, rfl⟩

section
variable {s : State} {a : Nat}

theorem branchHolds_eq_false {i : Option Nat}
    (h : ∀ j b, some j ≠ i → s.branches[j]? = some (some b) → b.desc.address ≠ a) : s.branchHolds a i = false := by
  unfold State.branchHolds
  rw [List.any_eq_false]
  rintro ⟨o, j⟩ hmem
  cases o with
  | none => simp
  | some b =>
    have := h j b
    have here : s.branches[j]? = some (some b) := List.mem_zipIdx_iff_getElem?.mp hmem
    simp only [Bool.and_eq_true, decide_eq_true_eq, not_and]
    exact fun ha hj => this hj here ha

theorem ladderHolds_eq_false {L : Ladder} {i : Option Nat}
    (h : ∀ j u, some (j + 1) ≠ i → L.units[j]? = some (some u) → u.address ≠ a) : L.holds a i = false := by
  unfold Ladder.holds
  rw [List.any_eq_false]
  rintro ⟨o, j⟩ hmem
  cases o with
  | none => simp
  | some u =>
    have := h j u
    have here : L.units[j]? = some (some u) := List.mem_zipIdx_iff_getElem?.mp hmem
    simp only [Bool.and_eq_true, decide_eq_true_eq, not_and]
    exact fun ha hj => this hj here ha

theorem headerHolds_eq_false (h : a ∉ s.header.toList.map (·.address)) : s.headerHolds a = false := by
  unfold State.headerHolds
  cases hh : s.header with
  | none => rfl
  | some x =>
    rw [hh] at h
    simp only [Option.toList_some, List.map_cons, List.map_nil, List.mem_singleton] at h
    simpa using fun ha => h ha.symm

theorem ladderHolds_of_not_mem {L : Ladder} {i : Option Nat} (h : a ∉ L.stations) : L.holds a i = false :=
  ladderHolds_eq_false fun _ _ _ hj ha => h (ha ▸ mem_filterMap_of_get hj)

theorem not_mem_stations (h : a ∉ s.stations) :
    (a ∉ s.branches.filterMap fun b => b.map (·.desc.address)) ∧ a ∉ s.header.toList.map (·.address) ∧
      a ∉ s.seq.chillers.stations ∧ a ∉ s.seq.pumps.stations := by
  unfold State.stations at h
  simp only [List.mem_append, not_or] at h
  obtain ⟨⟨⟨branches, header⟩, chillers⟩, pumps⟩ := h
  exact ⟨branches, header, chillers, pumps⟩

/-- An address that no record carries is in no one's use. -/
theorem holds_of_not_mem (h : a ∉ s.stations) (i : Option Nat) (k : Option (LadderId × Nat)) :
    s.branchHolds a i = false ∧ s.unitHolds a k = false ∧ s.headerHolds a = false := by
  obtain ⟨branches, header, chillers, pumps⟩ := not_mem_stations h
  refine ⟨branchHolds_eq_false fun _ _ _ hj ha => branches (ha ▸ mem_filterMap_of_get hj), ?_,
    headerHolds_eq_false header⟩
  unfold State.unitHolds
  rw [ladderHolds_of_not_mem chillers, ladderHolds_of_not_mem pumps]
  rfl

/-- A branch record's own address is in no other's use. -/
theorem holds_of_own_branch (distinct : AddressesDistinct s) {i : Nat} {x : Branch} (loaded : s.branch? i = some x) :
    s.branchHolds x.desc.address (some i) = false ∧ s.unitHolds x.desc.address none = false ∧
      s.headerHolds x.desc.address = false := by
  have here := branch?_eq_some_iff.mp loaded
  have mem : x.desc.address ∈ s.branches.filterMap fun b => b.map (·.desc.address) := mem_filterMap_of_get here
  unfold AddressesDistinct State.stations at distinct
  rw [List.append_assoc, List.append_assoc, List.nodup_append] at distinct
  obtain ⟨branches, -, apart⟩ := distinct
  have elsewhere := fun hmem => apart x.desc.address mem x.desc.address hmem rfl
  simp only [List.mem_append] at elsewhere
  refine ⟨branchHolds_eq_false fun j b hj hget ha => hj ?_, ?_, headerHolds_eq_false fun h => elsewhere (.inl h)⟩
  · exact congrArg some (index_of_distinct branches hget here ha)
  · unfold State.unitHolds
    rw [ladderHolds_of_not_mem fun h => elsewhere (.inr (.inl h)),
      ladderHolds_of_not_mem fun h => elsewhere (.inr (.inr h))]
    rfl

end

/-! ## The checks of a load (01, R7) -/

/-- A load that asks for a CONSUMER record: type 1 and no storage part. -/
theorem branchCheckFour_consumer {b : BranchLoadBody} {g : Guard} {gr : Granularity} {th : Bool} {s : State}
    (guard : Guard.ofCode b.guardCode = some g) (granularity : Granularity.ofCode b.granularity = some gr)
    (throttle : throttleOfCode b.throttle = some th) (address : validAddress b.address = true) (type : b.typeCode = 1)
    (rest : b.rest = []) : branchCheckFour b s = .ok ⟨branchDescOf b g gr th, none⟩ := by
  unfold branchCheckFour
  rw [guard, granularity, throttle, type, rest]
  simp [storageOfCode, address, storageDescOf]

/-- The storage part that six octets spell. -/
def storageOf (c1 c2 h1 h2 d1 d2 : Octet) : StorageDesc :=
  ⟨c1.toNat * 256 + c2.toNat, h1.toNat * 256 + h2.toNat, d1.toNat * 256 + d2.toNat⟩

theorem storageDescOf_octets (c1 c2 h1 h2 d1 d2 : Octet) :
    storageDescOf [c1, c2, h1, h2, d1, d2] = some (storageOf c1 c2 h1 h2 d1 d2) := by
  simp [storageDescOf, storageOf, ofBe]

/-- A load that asks for the STORAGE record: type 2, six octets more, and no other STORAGE record. -/
theorem branchCheckFour_tank {b : BranchLoadBody} {g : Guard} {gr : Granularity} {th : Bool} {s : State}
    (guard : Guard.ofCode b.guardCode = some g) (granularity : Granularity.ofCode b.granularity = some gr)
    (throttle : throttleOfCode b.throttle = some th) (address : validAddress b.address = true) (type : b.typeCode = 2)
    {c1 c2 h1 h2 d1 d2 : Octet} (rest : b.rest = [c1, c2, h1, h2, d1, d2])
    (alone : ∀ x, s.storage = some x → x.1 = b.index.toNat) :
    branchCheckFour b s = .ok ⟨branchDescOf b g gr th, some (storageOf c1 c2 h1 h2 d1 d2)⟩ := by
  have single : (s.storage.any fun x => decide (x.1 ≠ b.index.toNat)) = false := by
    cases hs : s.storage with
    | none => rfl
    | some x => simp [alone x hs]
  unfold branchCheckFour
  rw [guard, granularity, throttle, type, rest, storageDescOf_octets, single]
  simp [storageOfCode, address]

/-- The later checks of a load: the address free, the record of the load's own type. -/
theorem branchChecks_of_four {b : BranchLoadBody} {r : BranchRequest} {s : State} (four : branchCheckFour b s = .ok r)
    (free : s.branchHolds r.desc.address (some b.index.toNat) = false ∧ s.unitHolds r.desc.address none = false ∧
      s.headerHolds r.desc.address = false)
    (typed : ∀ x, s.branch? b.index.toNat = some x → x.isStorage = r.storage.isSome) : branchChecks b s = .ok r := by
  obtain ⟨branches, units, header⟩ := free
  unfold branchChecks
  rw [four]
  dsimp only
  rw [branches, units, header, if_neg (by simp), if_neg]
  cases hx : s.branch? b.index.toNat with
  | none => simp
  | some x => simp [typed x hx]

theorem branchRankBars_eq_false {p : Port} {o : Option Branch} {asks : Bool}
    (may : p = .panel ∨ (∀ x, o = some x → x.desc.guard = .anyone) ∧ asks = false) : branchRankBars p o asks = false := by
  unfold branchRankBars
  rcases may with rfl | ⟨guards, rfl⟩
  · rfl
  · cases o with
    | none => simp
    | some x => simp [guards x rfl]

theorem guardCode_ne_panel {o : Octet} (h : Guard.ofCode o = some .anyone) : o ≠ 1 := by
  rintro rfl
  cases h

theorem asksPanel_eq_false {b : BranchLoadBody} (h : Guard.ofCode b.guardCode = some .anyone) :
    (decide (b.typeCode ≠ 0) && decide (b.guardCode = 1)) = false := by
  rw [decide_eq_false (guardCode_ne_panel h), Bool.and_false]

/-- A load past its checks fills an unloaded record or reloads a loaded one. -/
theorem serveBranchLoad_of_checks {p : Port} {b : BranchLoadBody} {r : BranchRequest} {s : State}
    (short : b.rest.length ≤ 6) (index : b.index.toNat ≤ 47)
    (rank : branchRankBars p (s.branch? b.index.toNat) (decide (b.typeCode ≠ 0) && decide (b.guardCode = 1)) = false)
    (type : b.typeCode ≠ 0) (checked : branchChecks b s = .ok r) :
    (s.branch? b.index.toNat = none → serveBranchLoad p b s =
      (loadBranch b.index.toNat r.clamped s, ⟨doneIf (decide (r.clamped ≠ r)), []⟩)) ∧
    ∀ x, s.branch? b.index.toNat = some x → serveBranchLoad p b s =
      (reloadBranch b.index.toNat r.clamped x s, ⟨doneIf (decide (r.clamped ≠ r)), []⟩) := by
  have inside : ¬ Config.branchCount ≤ b.index.toNat := Nat.not_le.mpr (Nat.lt_succ_of_le index)
  unfold serveBranchLoad
  rw [if_neg (Nat.not_lt.mpr short), if_neg inside, if_neg (by rw [rank]; simp), if_neg type, checked]
  dsimp only
  exact ⟨fun empty => by rw [empty], fun x loaded => by rw [loaded]⟩

/-! ## The status of a load -/

theorem doneIf_consumer (stored carried : BranchDesc) :
    doneIf (decide ((⟨stored, none⟩ : BranchRequest) ≠ ⟨carried, none⟩)) =
      if stored = carried then .done else .doneClamped := by
  unfold doneIf
  by_cases h : stored = carried <;> simp [h]

theorem doneIf_tank (stored carried : BranchDesc) (d : StorageDesc) :
    doneIf (decide ((⟨stored, some d.clamped⟩ : BranchRequest) ≠ ⟨carried, some d⟩)) =
      if stored = carried ∧ 1 ≤ d.capacity then .done else .doneClamped := by
  have same : d.clamped = d ↔ 1 ≤ d.capacity := by
    unfold StorageDesc.clamped
    constructor
    · intro h
      have := congrArg StorageDesc.capacity h
      simp only at this
      omega
    · intro h
      rw [Nat.max_eq_right h]
  unfold doneIf
  by_cases h : stored = carried
  · by_cases hd : 1 ≤ d.capacity
    · simp [h, hd, same.mpr hd]
    · simp [h, hd, mt same.mp hd]
  · simp [h]

/-! ## The STORAGE record of a changed table -/

theorem storage_setBranch_of_absent {s : State} {i : Nat} {b : Branch} (absent : s.storage = none)
    (inside : i < s.branches.length) (tank : b.isStorage = true) :
    (s.setBranch i (some b)).storage = some (i, b) := by
  have bare := storage_eq_none_iff.mp absent
  rw [isStorage_eq] at tank
  obtain ⟨d, desc⟩ := Option.isSome_iff_exists.mp tank
  cases hs : (s.setBranch i (some b)).storage with
  | none =>
    have gone := storage_eq_none_iff.mp hs i
    rw [tankAt_setBranch, if_pos ⟨rfl, inside⟩] at gone
    exact absurd (desc.symm.trans gone) (by simp)
  | some x =>
    obtain ⟨j, c⟩ := x
    have at_j := branch?_of_storage hs
    have tank_j := tankAt_of_branch at_j
    rw [tankAt_setBranch] at tank_j
    have same : i = j := by
      by_contra other
      rw [if_neg fun h => other h.1, bare j] at tank_j
      have := isStorage_of_storage hs
      rw [isStorage_eq, ← tank_j] at this
      cases this
    subst same
    have here : (s.setBranch i (some b)).branch? i = some b := by
      simp [State.branch?, State.setBranch, inside]
    rw [here] at at_j
    rw [Option.some.inj at_j]

/-- The STORAGE record found at its place when only one is loaded. -/
theorem storage_of_branch {s : State} {i : Nat} {b : Branch} (one : s.OneTank) (loaded : s.branch? i = some b)
    (tank : b.isStorage = true) : s.storage = some (i, b) := by
  rw [isStorage_eq] at tank
  obtain ⟨d, desc⟩ := Option.isSome_iff_exists.mp tank
  have here := (tankAt_of_branch loaded).trans desc
  cases hs : s.storage with
  | none =>
    rw [storage_eq_none_iff.mp hs i] at here
    cases here
  | some x =>
    obtain ⟨j, c⟩ := x
    obtain ⟨e, he⟩ := Option.isSome_iff_exists.mp ((isStorage_eq c).symm.trans (isStorage_of_storage hs))
    obtain rfl := one i j d e here ((tankAt_of_branch (branch?_of_storage hs)).trans he)
    rw [branch?_of_storage hs] at loaded
    rw [Option.some.inj loaded]

/-! ## The flags brought up to date, where no mode is forced -/

theorem sync_unforced {q : Scheduler} {st : Option (Nat × Branch)} {count : CycleCount}
    (charge : isFull st q.soc = true → q.mode ≠ .charge) (discharge : isEmpty st q.soc = true → q.mode ≠ .discharge) :
    q.sync count st = ({ q with full := isFull st q.soc, empty := isEmpty st q.soc }, flagNotes st q) := by
  unfold Scheduler.sync
  dsimp only
  rw [if_neg]
  simp only [Bool.or_eq_true, Bool.and_eq_true, decide_eq_true_eq, not_or, not_and]
  exact ⟨charge, discharge⟩

theorem sync_forced {q : Scheduler} {st : Option (Nat × Branch)} {count : CycleCount}
    (forced : isFull st q.soc = true ∧ q.mode = .charge ∨ isEmpty st q.soc = true ∧ q.mode = .discharge) :
    q.sync count st = ({ q with
        full := isFull st q.soc, empty := isEmpty st q.soc, mode := .hold, rate := 0, lastChange := count },
      flagNotes st q ++ [⟨.storageMode, storageSubject st, StorageMode.hold.code⟩]) := by
  have moved : ¬ StorageMode.hold = q.mode := by
    rcases forced with ⟨-, h⟩ | ⟨-, h⟩ <;> rw [h] <;> simp
  unfold Scheduler.sync Scheduler.setMode
  dsimp only
  rw [if_pos, if_neg moved]
  simpa only [Bool.or_eq_true, Bool.and_eq_true, decide_eq_true_eq] using forced

theorem isFull_of_part {st : Option (Nat × Branch)} {d : StorageDesc} (part : storagePart st = some d) (soc : Nat) :
    isFull st soc = decide (soc = d.full) := by
  unfold isFull
  rw [part, Option.any_some]

theorem isEmpty_of_some {st : Option (Nat × Branch)} (some_st : st.isSome = true) (soc : Nat) :
    isEmpty st soc = decide (soc = 0) := by
  unfold isEmpty
  rw [some_st, Bool.true_and]

theorem full_pos {d : StorageDesc} (h : 1 ≤ d.capacity) : 0 < d.full := Nat.mul_pos h (by decide)

end Sys2Proof.Machine

/-! The three statements on BRANCH_LOAD and BRANCH_RELEASE (01, R9 to R11; 09, R156). -/

namespace Sys2Proof.Machine

/-! ## A load from EMPTY -/

theorem loadBranch_consumer {i : Nat} {d : BranchDesc} {s : State} :
    loadBranch i ⟨d, none⟩ s = (s.setBranch i (some (BranchRequest.fill ⟨d, none⟩))).notes
      [branchStateNote i (some .awaiting)] := rfl

/-- A STORAGE record loaded: SOC 0 and EMPTY, which is noted. -/
theorem loadBranch_tank {i : Nat} {d : BranchDesc} {k : StorageDesc} {s : State} (law : StorageLaw s)
    (absent : s.storage = none) (inside : i < s.branches.length) (positive : 1 ≤ k.capacity) :
    loadBranch i ⟨d, some k⟩ s =
      ({ (s.setBranch i (some (BranchRequest.fill ⟨d, some k⟩))).notes [branchStateNote i (some .awaiting)] with
          store := { s.store with empty := true } } : State).notes [⟨.storageEmpty, i, 0⟩] := by
  have filled := storage_setBranch_of_absent (b := BranchRequest.fill ⟨d, some k⟩) absent inside rfl
  obtain ⟨soc, mode⟩ := law.absent absent
  have full : s.store.full = false := by
    rw [law.full, absent]
    rfl
  have empty : s.store.empty = false := by
    rw [law.empty, absent]
    rfl
  have notFull : isFull (some (i, BranchRequest.fill ⟨d, some k⟩)) 0 = false := by
    rw [isFull_of_part rfl, decide_eq_false_iff_not]
    exact (full_pos positive).ne
  have isEmpty_zero : isEmpty (some (i, BranchRequest.fill ⟨d, some k⟩)) 0 = true := by
    rw [isEmpty_of_some rfl, decide_eq_true_eq]
  have work : (({ s.store with soc := 0 } : Scheduler).sync s.fc.count (some (i, BranchRequest.fill ⟨d, some k⟩))) =
      ({ s.store with empty := true }, [⟨.storageEmpty, i, 0⟩]) := by
    rw [sync_unforced (by rw [mode]; simp) (by rw [mode]; simp)]
    unfold flagNotes
    dsimp only
    rw [notFull, isEmpty_zero, empty]
    refine Prod.ext ?_ rfl
    dsimp only
    rw [← full, ← soc]
  unfold loadBranch storageLoaded State.schedule
  change (let x := Scheduler.sync s.fc.count (s.setBranch i _).storage { s.store with soc := 0 }
    ({ (s.setBranch i _).notes [branchStateNote i (some .awaiting)] with store := x.1 } : State).notes x.2) = _
  rw [filled, work]

theorem fill_consumer (d : BranchDesc) : BranchRequest.fill ⟨d, none⟩ =
    { desc := d, station := ⟨.awaiting, 0, false, true, none, false, none⟩,
      meter := ⟨0, 0, 0, 0, 0, 0, 0, false, false⟩, part := .consumer ⟨0, .none, 1000⟩ none none } := rfl

theorem fill_tank (d : BranchDesc) (k : StorageDesc) : BranchRequest.fill ⟨d, some k⟩ =
    { desc := d, station := ⟨.awaiting, 0, false, true, none, false, none⟩,
      meter := ⟨0, 0, 0, 0, 0, 0, 0, false, false⟩, part := .storage k none none } := rfl

theorem validAddress_of_range {a : Octet} (lo : 1 ≤ a.toNat) (hi : a.toNat ≤ 240) : validAddress a = true :=
  (validAddress_iff a).mpr ⟨lo, hi⟩

/-- Settles O15: the checks pass, and the fill is the clamped request's. -/
theorem branchLoadFills : Obligations.BranchLoadFills := by
  intro p tag b g gr th s ready index empty guard rank granularity throttle lo hi free carried stored filled
  have address := validAddress_of_range lo hi
  have free := holds_of_not_mem free (some b.index.toNat) none
  have bars : branchRankBars p (s.branch? b.index.toNat)
      (decide (b.typeCode ≠ 0) && decide (b.guardCode = 1)) = false := by
    refine branchRankBars_eq_false ?_
    cases p with
    | panel => exact .inl rfl
    | supervisory =>
      obtain rfl := rank rfl
      exact .inr ⟨fun x hx => (by rw [empty] at hx; cases hx), asksPanel_eq_false guard⟩
  have untyped : ∀ (r : BranchRequest) x, s.branch? b.index.toNat = some x → x.isStorage = r.storage.isSome := by
    intro r x hx
    rw [empty] at hx
    cases hx
  refine ⟨fun type rest => ?_, fun c1 c2 h1 h2 d1 d2 type rest absent law size => ?_⟩
  · have four := branchCheckFour_consumer (s := s) guard granularity throttle address type rest
    have served := (serveBranchLoad_of_checks (by simp [rest]) index bars (by rw [type]; decide)
      (branchChecks_of_four four free (untyped _))).1 empty
    refine request_serves ready (served.trans ?_)
    exact congrArg (fun st => ((filled (.consumer ⟨0, .none, 1000⟩ none none), ⟨st, []⟩) : State × Reply))
      (doneIf_consumer stored carried)
  · have four := branchCheckFour_tank (s := s) guard granularity throttle address type rest
      fun x hx => by rw [absent] at hx; cases hx
    have served := (serveBranchLoad_of_checks (by simp [rest]) index bars (by rw [type]; decide)
      (branchChecks_of_four four free (untyped _))).1 empty
    have loaded := loadBranch_tank (d := stored) (k := (storageOf c1 c2 h1 h2 d1 d2).clamped) law absent
      (i := b.index.toNat) (by omega) (Nat.le_max_left _ _)
    intro t
    refine request_serves ready (served.trans ?_)
    exact congrArg₂ (fun u st => ((u, ⟨st, []⟩) : State × Reply)) loaded
      (doneIf_tank stored carried (storageOf c1 c2 h1 h2 d1 d2))

/-! ## A reload -/

theorem reloadCeiling_eq (d : BranchDesc) (c : Nat) :
    reloadCeiling d c = if d.throttleAllowed then max d.floor c else 1000 := rfl

theorem reloadBranch_consumer {i : Nat} {d : BranchDesc} {x : Branch} {s : State} {throttle : Throttle}
    {next cur : Option Nat} (part : x.part = .consumer throttle next cur) :
    reloadBranch i ⟨d, none⟩ x s = s.setBranch i (some { x with
      desc := d,
      part := .consumer { throttle with ceiling := reloadCeiling d throttle.ceiling }
        (if reloadCeiling d throttle.ceiling = throttle.ceiling ∨ x.station.freshness = .localCtl then next
          else some (reloadCeiling d throttle.ceiling)) cur }) := by
  unfold reloadBranch BranchRequest.reload reloadConsumer
  rw [part]
  dsimp only
  by_cases h : reloadCeiling d throttle.ceiling = throttle.ceiling ∨ x.station.freshness = .localCtl
  · rw [if_pos h, if_neg (by tauto)]
  · rw [if_neg h, if_pos (by tauto)]

/-- The scheduler after a reload of its record, whose capacity is `n`: SOC within it, the flags and the mode that go with
it. -/
theorem reload_store {q : Scheduler} {st : Option (Nat × Branch)} {d : StorageDesc} {count : CycleCount} {n : Nat}
    (part : storagePart st = some d) (some_st : st.isSome = true) (capacity : d.full = n) (pos : 0 < n)
    (empty : q.empty = decide (q.soc = 0)) (discharge : q.mode = .discharge → q.empty = false) {r : Scheduler}
    (work : r = (({ q with soc := min n q.soc } : Scheduler).sync count st).1) :
    r = { q with
      soc := min n q.soc, full := r.full, mode := r.mode, rate := r.rate, lastChange := r.lastChange } ∧
    (r.full = true ↔ n ≤ q.soc) ∧
    (r.full = true → q.mode = .charge → r.mode = .hold ∧ r.rate = 0) ∧
    (r.full = false ∨ q.mode ≠ .charge → r.mode = q.mode ∧ r.rate = q.rate) := by
  have fullIff : isFull st (min n q.soc) = decide (n ≤ q.soc) := by
    rw [isFull_of_part part, capacity, decide_eq_decide]
    omega
  have emptyEq : isEmpty st (min n q.soc) = q.empty := by
    rw [isEmpty_of_some some_st, empty, decide_eq_decide]
    omega
  have notDischarge : isEmpty st (min n q.soc) = true → q.mode ≠ .discharge := by
    rw [emptyEq]
    intro he hm
    rw [discharge hm] at he
    cases he
  by_cases forced : isFull st (min n q.soc) = true ∧ q.mode = .charge
  · have moved : r = { q with
        soc := min n q.soc, full := isFull st (min n q.soc), empty := isEmpty st (min n q.soc),
        mode := .hold, rate := 0, lastChange := count } :=
      work.trans (congrArg Prod.fst (sync_forced (q := { q with soc := min n q.soc }) (.inl forced)))
    rw [fullIff, emptyEq] at moved
    subst moved
    rw [fullIff] at forced
    refine ⟨rfl, decide_eq_true_iff, fun _ _ => ⟨rfl, rfl⟩, fun h => ?_⟩
    rcases h with notFull | notCharge
    · exact absurd (forced.1.symm.trans notFull) (by simp)
    · exact absurd forced.2 notCharge
  · have stood : r = { q with
        soc := min n q.soc, full := isFull st (min n q.soc), empty := isEmpty st (min n q.soc) } :=
      work.trans (congrArg Prod.fst (sync_unforced (q := { q with soc := min n q.soc })
        (fun hf hm => forced ⟨hf, hm⟩) notDischarge))
    rw [fullIff, emptyEq] at stood
    subst stood
    rw [fullIff] at forced
    exact ⟨rfl, decide_eq_true_iff, fun hf hm => absurd ⟨hf, hm⟩ forced, fun _ => ⟨rfl, rfl⟩⟩

theorem schedule_with (s : State) (q : Scheduler)
    (f : CycleCount → Option (Nat × Branch) → Scheduler → Scheduler × List Note) :
    (({ s with store := q } : State).schedule f).store = (f s.fc.count s.storage q).1 := rfl

theorem storageReloaded_store (d : StorageDesc) (s : State) : (storageReloaded d s).store =
    (({ s.store with soc := min d.full s.store.soc } : Scheduler).sync s.fc.count s.storage).1 := schedule_with _ _ _

/-- A record put in the STORAGE record's place leaves at most one STORAGE record. -/
theorem oneTank_setBranch {s : State} {i : Nat} {x : Branch} (one : s.OneTank) (loaded : s.branch? i = some x)
    (tank : x.isStorage = true) (y : Option Branch) : (s.setBranch i y).OneTank := by
  obtain ⟨k, desc⟩ := Option.isSome_iff_exists.mp ((isStorage_eq x).symm.trans tank)
  have only : ∀ j d, (s.setBranch i y).tankAt j = some d → i = j := by
    intro j d h
    by_contra other
    rw [tankAt_setBranch, if_neg fun h => other h.1] at h
    exact other (one i j k d ((tankAt_of_branch loaded).trans desc) h)
  exact fun j j' d d' h h' => (only j d h).symm.trans (only j' d' h')

/-- The reload of the STORAGE record: its capacity bounds the SOC. -/
theorem reloadBranch_tank {i : Nat} {x : Branch} {s : State} {desc : BranchDesc} {k d : StorageDesc}
    {next cur : Option StorageCmd} (law : StorageLaw s) (loaded : s.branch? i = some x) (part : x.part = .storage k next cur)
    (positive : 1 ≤ d.capacity) :
    let t : State := reloadBranch i ⟨desc, some d⟩ x s
    t = { s.setBranch i (some { x with desc := desc, part := .storage d next cur }) with
      store := t.store, events := t.events } ∧
    t.store = { s.store with
      soc := min (d.capacity * 36000000) s.store.soc, full := t.store.full, mode := t.store.mode, rate := t.store.rate,
      lastChange := t.store.lastChange } ∧
    (t.store.full = true ↔ d.capacity * 36000000 ≤ s.store.soc) ∧
    (t.store.full = true → s.store.mode = .charge → t.store.mode = .hold ∧ t.store.rate = 0) ∧
    (t.store.full = false ∨ s.store.mode ≠ .charge → t.store.mode = s.store.mode ∧ t.store.rate = s.store.rate) := by
  have tank : x.isStorage = true := by
    unfold Branch.isStorage
    rw [part]
  have one : s.OneTank := ((storageLaw_iff s).mp law).1
  have record : BranchRequest.reload ⟨desc, some d⟩ x = { x with desc := desc, part := .storage d next cur } := by
    unfold BranchRequest.reload
    rw [part]
    rfl
  have inside : i < s.branches.length :=
    (List.getElem?_eq_some_iff.mp (branch?_eq_some_iff.mp loaded)).1
  have here : (s.setBranch i (some (BranchRequest.reload ⟨desc, some d⟩ x))).branch? i =
      some (BranchRequest.reload ⟨desc, some d⟩ x) := by
    simp [State.branch?, State.setBranch, inside]
  have one' : (s.setBranch i (some (BranchRequest.reload ⟨desc, some d⟩ x))).OneTank :=
    oneTank_setBranch one loaded tank _
  have found := storage_of_branch one' here (by rw [record]; rfl)
  have empty : s.store.empty = decide (s.store.soc = 0) := by
    rw [law.empty, storage_of_branch one loaded tank]
    rfl
  have store : (reloadBranch i ⟨desc, some d⟩ x s).store =
      (({ s.store with soc := min d.full s.store.soc } : Scheduler).sync s.fc.count
        (s.setBranch i (some (BranchRequest.reload ⟨desc, some d⟩ x))).storage).1 := storageReloaded_store d _
  have capacity : d.full = d.capacity * 36000000 := rfl
  have pos : 0 < d.full := full_pos positive
  rw [found, capacity] at store
  rw [capacity] at pos
  refine ⟨?_, reload_store (by rw [record]; rfl) rfl capacity pos empty law.discharge store⟩
  rw [← record]
  rfl

/-- Settles O16: the address may be the record's own; the rest is the clamped request's. -/
theorem branchReloadKeeps : Obligations.BranchReloadKeeps := by
  intro p tag b g gr th x s ready index loaded may guard granularity throttle lo hi place carried stored
  have address := validAddress_of_range lo hi
  have free : s.branchHolds b.address.toNat (some b.index.toNat) = false ∧ s.unitHolds b.address.toNat none = false ∧
      s.headerHolds b.address.toNat = false := by
    rcases place with ⟨own, distinct⟩ | free
    · rw [own]
      exact holds_of_own_branch distinct loaded
    · exact holds_of_not_mem free _ _
  have bars : branchRankBars p (s.branch? b.index.toNat)
      (decide (b.typeCode ≠ 0) && decide (b.guardCode = 1)) = false := by
    refine branchRankBars_eq_false (may.imp_right fun ⟨old, new⟩ => ⟨fun y hy => ?_, ?_⟩)
    · rw [loaded] at hy
      rwa [← Option.some.inj hy]
    · exact asksPanel_eq_false (new ▸ guard)
  have typed : ∀ (r : BranchRequest), x.isStorage = r.storage.isSome →
      ∀ y, s.branch? b.index.toNat = some y → y.isStorage = r.storage.isSome := by
    intro r hr y hy
    rw [loaded] at hy
    rwa [← Option.some.inj hy]
  refine ⟨fun throttle' next cur part type rest => ?_, fun d next cur c1 c2 h1 h2 d1 d2 part type rest law => ?_⟩
  · intro c
    have consumer : x.isStorage = false := by
      unfold Branch.isStorage
      rw [part]
    have four := branchCheckFour_consumer (s := s) guard granularity throttle address type rest
    have served := (serveBranchLoad_of_checks (by simp [rest]) index bars (by rw [type]; decide)
      (branchChecks_of_four four free (typed _ consumer))).2 x loaded
    refine request_serves ready (served.trans ?_)
    exact congrArg₂ (fun u st => ((u, ⟨st, []⟩) : State × Reply)) (reloadBranch_consumer (d := stored) part)
      (doneIf_consumer stored carried)
  · have tank : x.isStorage = true := by
      unfold Branch.isStorage
      rw [part]
    obtain ⟨one, settled⟩ := (storageLaw_iff s).mp law
    have found := storage_of_branch one loaded tank
    have four := branchCheckFour_tank (s := s) guard granularity throttle address type rest fun y hy => by
      rw [found] at hy
      rw [← Option.some.inj hy]
    have served := (serveBranchLoad_of_checks (by simp [rest]) index bars (by rw [type]; decide)
      (branchChecks_of_four four free (typed _ tank))).2 x loaded
    intro d'
    refine ⟨reloadBranch b.index.toNat ⟨stored, some d'⟩ x s, request_serves ready (served.trans ?_),
      reloadBranch_tank (d := d') law loaded part (Nat.le_max_left _ _)⟩
    exact congrArg (fun st => ((reloadBranch b.index.toNat ⟨stored, some d'⟩ x s, ⟨st, []⟩) : State × Reply))
      (doneIf_tank stored carried (storageOf c1 c2 h1 h2 d1 d2))

/-! ## A null load -/

theorem nullLoad_consumer {i : Nat} {x : Branch} {s : State} (loaded : s.branch? i = some x)
    (consumer : x.isStorage = false) : nullLoad i s = (s.setBranch i none).notes [branchStateNote i none] := by
  unfold nullLoad
  rw [loaded]
  exact if_neg (by simp [consumer])

theorem nullLoad_empty {i : Nat} {s : State} (empty : s.branch? i = none) : nullLoad i s = s := by
  unfold nullLoad
  rw [empty]

/-- The scheduler's work once the STORAGE record is gone: an empty tank, and an evaluation. -/
theorem modeEvaluated_storageReleased {s : State} (absent : s.storage = none) :
    ModeEvaluated { s.store with soc := 0, full := false, empty := false } s (storageReleased s) := by
  have synced : ({ s with store := { s.store with soc := 0 } } : State).schedule Scheduler.sync =
      ({ s with store := { s.store with soc := 0, full := false, empty := false } } : State).notes [] := by
    have bare : ({ s with store := { s.store with soc := 0 } } : State).storage = none := absent
    unfold State.schedule
    rw [bare]
    exact congrArg (fun x : Scheduler × List Note => ({ s with store := x.1 } : State).notes x.2)
      (sync_unforced (q := { s.store with soc := 0 }) (st := none) nofun nofun)
  have quiet : ({ s with store := { s.store with soc := 0, full := false, empty := false } } : State).notes [] =
      { s with store := { s.store with soc := 0, full := false, empty := false } } := by
    simp [State.notes]
  unfold storageReleased
  rw [synced, quiet]
  exact modeEvaluated_evaluateMode s _

/-- The release of the STORAGE record (09, R156). -/
theorem nullLoad_tank {i : Nat} {x : Branch} {s : State} (loaded : s.branch? i = some x) (tank : x.isStorage = true)
    (law : StorageLaw s) : ∃ t : State, nullLoad i s = t ∧
      t = { s with branches := s.branches.set i none, store := t.store, events := t.events } ∧
      t.store = { s.store with
        soc := 0, full := false, empty := false, mode := .hold, rate := 0, window := t.store.window,
        lastChange := t.store.lastChange } ∧
      t.store.lastChange = (if s.store.mode = .hold then s.store.lastChange else s.fc.count) := by
  have one : s.OneTank := ((storageLaw_iff s).mp law).1
  obtain ⟨d, desc⟩ := Option.isSome_iff_exists.mp ((isStorage_eq x).symm.trans tank)
  have bare : (s.setBranch i none).storage = none := by
    rw [storage_eq_none_iff]
    intro j
    rw [tankAt_setBranch]
    split_ifs with same
    · rfl
    · rw [Option.eq_none_iff_forall_ne_some]
      intro e hj
      exact same ⟨one i j _ _ ((tankAt_of_branch loaded).trans desc) hj,
        (List.getElem?_eq_some_iff.mp (branch?_eq_some_iff.mp loaded)).1⟩
  have work : nullLoad i s = storageReleased ((s.setBranch i none).notes [branchStateNote i none]) := by
    unfold nullLoad
    rw [loaded]
    exact if_pos tank
  have gone : ((s.setBranch i none).notes [branchStateNote i none]).storage = none := bare
  have evaluated := modeEvaluated_storageReleased gone
  generalize ht : storageReleased ((s.setBranch i none).notes [branchStateNote i none]) = t at work evaluated
  obtain ⟨mode, rate⟩ := evaluated.held (.inr (.inr fun j b h => by rw [gone] at h; cases h))
  have kept := evaluated.kept
  rw [mode, rate] at kept
  refine ⟨t, work, ?_, kept, ?_⟩
  · have frame := evaluated.frame
    rw [evaluated.absent gone] at frame
    exact frame
  · by_cases held : s.store.mode = .hold
    · rw [if_pos held]
      exact (evaluated.same (mode.trans held.symm)).2
    · rw [if_neg held]
      exact (evaluated.changed (by rw [mode]; exact Ne.symm held)).1

/-- Both requests of a null load serve it where the port may. -/
theorem exec_nullLoad {p : Port} {tag i : Octet} {b : BranchLoadBody} {s : State} (ready : s.Ready p)
    (index : i.toNat ≤ 47) (at_i : b.index = i) (type : b.typeCode = 0) (short : b.rest.length ≤ 6)
    (may : branchRankBars p (s.branch? i.toNat) false = false) :
    exec (.branchRelease p tag i) s = .next ((nullLoad i.toNat s).hand p (replyFrame tag 2 .done [])) ∧
      exec (.branchLoad p tag b) s = .next ((nullLoad i.toNat s).hand p (replyFrame tag 1 .done [])) := by
  have inside : ¬ Config.branchCount ≤ i.toNat := Nat.not_le.mpr (Nat.lt_succ_of_le index)
  constructor
  · refine request_serves ready ?_
    unfold serveBranchRelease
    rw [if_neg inside, may]
    rfl
  · refine request_serves ready ?_
    unfold serveBranchLoad
    rw [at_i, type, if_neg (Nat.not_lt.mpr short), if_neg inside]
    simp [may]

/-- A null load that the port may not ask for is refused. -/
theorem exec_nullLoad_barred {p : Port} {tag i : Octet} {b : BranchLoadBody} {s : State} (ready : s.Ready p)
    (index : i.toNat ≤ 47) (at_i : b.index = i) (type : b.typeCode = 0) (short : b.rest.length ≤ 6)
    (barred : branchRankBars p (s.branch? i.toNat) false = true) :
    exec (.branchRelease p tag i) s = .next (s.hand p (replyFrame tag 2 .refusedRank [])) ∧
      exec (.branchLoad p tag b) s = .next (s.hand p (replyFrame tag 1 .refusedRank [])) := by
  have inside : ¬ Config.branchCount ≤ i.toNat := Nat.not_le.mpr (Nat.lt_succ_of_le index)
  constructor
  · refine request_serves ready ?_
    unfold serveBranchRelease
    rw [if_neg inside, barred]
    rfl
  · refine request_serves ready ?_
    unfold serveBranchLoad
    rw [at_i, type, if_neg (Nat.not_lt.mpr short), if_neg inside]
    simp [barred, refuse]

/-- Settles O17: both requests come to the same null load. -/
theorem nullLoadEmpties : Obligations.NullLoadEmpties := by
  intro p tag i b s ready index at_i type short
  refine ⟨fun empty => ?_, fun x loaded supervisory guard => ?_, fun x loaded may => ?_⟩
  · have may : branchRankBars p (s.branch? i.toNat) false = false := by
      unfold branchRankBars
      rw [empty]
      exact Bool.and_false _
    have both := exec_nullLoad (tag := tag) ready index at_i type short may
    rwa [nullLoad_empty empty] at both
  · refine exec_nullLoad_barred ready index at_i type short ?_
    unfold branchRankBars
    rw [loaded, supervisory]
    simp [guard]
  · have may : branchRankBars p (s.branch? i.toNat) false = false := by
      refine branchRankBars_eq_false (may.imp_right fun guard => ⟨fun y hy => ?_, rfl⟩)
      rw [loaded] at hy
      rwa [← Option.some.inj hy]
    have both := exec_nullLoad (tag := tag) ready index at_i type short may
    refine ⟨fun consumer => ?_, fun tank law => ?_⟩
    · rwa [nullLoad_consumer loaded consumer] at both
    · obtain ⟨t, work, made⟩ := nullLoad_tank loaded tank law
      rw [work] at both
      exact ⟨t, both.1, both.2, made⟩

end Sys2Proof.Machine

/-! The reads (01, R18, R19; 03, R59; 05, R92; 06, R108, R109; 09, R157): what each answers, group by group. -/

namespace Sys2Proof.Machine

/-- A request whose owner only reads. -/
theorem request_reads {p : Port} {tag kind : Octet} {body os : List Octet} {f : State → List Octet} {s : State}
    (ready : s.Ready p) (octets : f s = os) :
    request p tag kind body (fun t => (t, ⟨.done, f t⟩)) s = .next (s.hand p (replyFrame tag kind .done os)) :=
  request_serves ready (congrArg (fun x => (s, (⟨.done, x⟩ : Reply))) octets)

/-- Settles O18: each reply is the model's groups, spelt out. -/
theorem readsChangeNothing : Obligations.ReadsChangeNothing := by
  refine ⟨fun α f => ⟨rfl, fun a => rfl⟩, ?_⟩
  intro p tag s ready bit timer windows port unitBlock address header sign clock tank
  have timed : ∀ x : Timer, timerOctets x = timer x := fun x => by cases x <;> rfl
  refine ⟨request_reads ready ?_, request_reads ready ?_, ?_, ?_, ?_, ?_⟩
  · have head : headerOctets s.header = header := by
      unfold headerOctets header address
      cases s.header <;> rfl
    have carried : oct ((s.header.map (·.address)).getD 0) = address := by
      unfold address
      cases s.header <;> rfl
    have signed : oct s.load.sign.code = sign := by
      unfold sign
      cases s.load.sign <;> rfl
    unfold plantOctets
    rw [head]
    unfold cycleOctets loadOctets pressureOctets limitsOctets
    rw [carried, signed]
    simp only [List.append_assoc]
    rfl
  · have time : (optional s.store.clock fun c => be 2 c.minute ++ [oct c.second]) = clock := by
      unfold clock
      cases s.store.clock <;> rfl
    have stored : optional (s.storage.map Prod.fst) (fun i => [oct i]) ++ [flag (storageAvailable s.storage)]
        ++ (match storagePart s.storage with
          | some d => be 2 (s.store.soc / Config.joulesPerKWh) ++ be 2 d.capacity
          | none => be 2 0 ++ be 2 0) = tank := by
      unfold tank storagePart storageAvailable
      cases s.storage with
      | none => rfl
      | some x =>
        rw [Option.bind_some]
        dsimp only
        generalize x.2.storageDesc = d
        cases d <;> rfl
    unfold storageOctets
    rw [time, ← stored]
    simp only [List.append_assoc]
    rfl
  · intro o l code L figures
    refine request_serves ready ?_
    have served : serveReadLadder o s = (s, ⟨.done, ladderOctets l s.seq⟩) := by
      unfold serveReadLadder
      rw [code]
    refine served.trans (congrArg (fun x => (s, (⟨.done, x⟩ : Reply))) ?_)
    have flags : ladderFlagOctets l s.seq = [bit L.upPending, bit L.downPending]
        ++ (if l = .chiller then [bit s.seq.waiting] else [])
        ++ [bit L.requestHold, bit s.seq.inputHold, bit L.shortCap]
        ++ optional L.lastIntent (fun x => [oct (Intent.code (some x.intent)), oct x.position] ++ be 4 x.count.toNat) := by
      cases l <;> rfl
    have amounts : figureOctets l L.figures = be 4 L.figures.load ++ be 4 L.figures.count.toNat ++ figures
        ++ [bit L.figures.up, bit L.figures.down] := by
      cases l <;> rfl
    have places : (L.units.flatMap fun u => optional u fun v => [oct v.address, oct (UnitState.code (some v.state))]) =
        L.units.flatMap fun u =>
          match u with
          | none => [0]
          | some v => [1, oct v.address, oct (UnitState.code (some v.state))] := by
      congr 1
      funext u
      cases u <;> rfl
    have up : timerOctets L.up = timer L.up := timed _
    have down : timerOctets L.down = timer L.down := timed _
    unfold ladderOctets
    dsimp only
    rw [flags, amounts, places, up, down]
    unfold periodOctets
    simp only [List.append_assoc, List.cons_append, List.nil_append]
    rfl
  · intro i inside
    have index : ¬ Config.branchCount ≤ i.toNat := Nat.not_le.mpr (Nat.lt_succ_of_le inside)
    refine ⟨fun empty => request_serves ready ?_, fun b loaded => ?_⟩
    · unfold serveReadBranch
      rw [if_neg index, empty]
      rfl
    · intro part
      refine request_serves ready ?_
      have served : serveReadBranch i s = (s, ⟨.done, branchOctets b⟩) := by
        unfold serveReadBranch
        rw [if_neg index, loaded]
      refine served.trans (congrArg (fun x => (s, (⟨.done, x⟩ : Reply))) ?_)
      have tail : partOctets b.part = part := by
        unfold part
        cases b.part <;> simp [partOctets, optional, throttleOctets, ceilingOctets, storageCmdOctets]
      unfold branchOctets descOctets meterOctets
      rw [tail]
      simp only [List.append_assoc]
      rfl
  · intro o q l code one last
    have place : placeOf o q = some (l, q.toNat) := by
      unfold placeOf
      rw [code]
      exact if_pos ⟨one, last⟩
    refine ⟨fun empty => request_serves ready ?_, fun u loaded => ?_⟩
    · unfold serveReadUnit
      rw [place]
      dsimp only
      rw [empty]
      rfl
    · intro desc carried pass
      refine request_serves ready ?_
      have served : serveReadUnit o q s = (s, ⟨.done, unitOctets s.fc.shadow l u⟩) := by
        unfold serveReadUnit
        rw [place]
        dsimp only
        rw [loaded]
      refine served.trans (congrArg (fun x => (s, (⟨.done, x⟩ : Reply))) ?_)
      have described : unitDescOctets l u = desc := by cases l <;> rfl
      have state : unitStateOctets u.state = oct (UnitState.code (some u.state)) :: carried := by
        unfold carried
        cases u.state <;> rfl
      have passed : oct u.prove.pass = pass := by
        unfold pass
        cases u.prove <;> rfl
      have prove : timerOctets u.prove = timer u.prove := timed _
      have stop : timerOctets u.stop = timer u.stop := timed _
      have run : timerOctets u.run = timer u.run := timed _
      have rest : timerOctets u.rest = timer u.rest := timed _
      unfold unitOctets
      rw [described, state, passed, prove, stop, run, rest]
      simp only [List.append_assoc, List.cons_append, List.nil_append]
      rfl
  · intro i inside
    have index : ¬ Config.branchCount ≤ i.toNat := Nat.not_le.mpr (Nat.lt_succ_of_le inside)
    have absent : s.snapAt i.toNat = none → serveReadSnapshot i s = (s, ⟨.refusedAbsent, []⟩) := by
      intro none_there
      unfold serveReadSnapshot
      rw [if_neg index, none_there]
      rfl
    refine ⟨fun empty => request_serves ready (absent ?_), fun t taken bare => request_serves ready (absent ?_),
      fun t e taken held => request_serves ready ?_⟩
    · unfold State.snapAt
      rw [empty]
      rfl
    · unfold State.snapAt
      rw [taken, Option.bind_some, bare]
      rfl
    · have here : s.snapAt i.toNat = some (t, e) := by
        unfold State.snapAt
        rw [taken, Option.bind_some, held]
        rfl
      unfold serveReadSnapshot
      rw [if_neg index, here]
      rfl

end Sys2Proof.Machine

/-! The requests on units: LADDER_ROTATE (06, R107) and UNIT_LOAD (06, R97 to R100). -/

namespace Sys2Proof.Machine

/-! ## LADDER_ROTATE -/

theorem unitAt_eq_none_of_not_mem {L : Ladder} {p : Nat} (h : p ∉ L.occupied) : L.unitAt p = none := by
  rw [mem_occupied] at h
  exact Option.eq_none_iff_forall_ne_some.mpr fun u hu => h ⟨u, hu⟩

/-- A rotation carries what stands at a place, empty or not, to where it takes the place. -/
theorem unitAt_rotate_moved (L : Ladder) (p : Nat) : L.rotate.unitAt (movedTo (rotation L.occupied) p) = L.unitAt p := by
  by_cases h : p ∈ L.occupied
  · exact unitAt_rotate_movedTo L h
  · rw [movedTo_of_not_mem h, unitAt_rotate_of_not_mem L h, unitAt_eq_none_of_not_mem h]

theorem occupied_rotate (L : Ladder) : L.rotate.occupied = L.occupied := by
  conv => lhs; unfold Ladder.occupied
  conv => rhs; unfold Ladder.occupied
  rw [rotate_length]
  refine List.filter_congr fun p _ => ?_
  by_cases h : p ∈ L.occupied
  · obtain ⟨q, hq, rfl⟩ := exists_movedTo (occupied_nodup L) h
    obtain ⟨u, hu⟩ := mem_occupied.mp h
    obtain ⟨v, hv⟩ := mem_occupied.mp hq
    rw [unitAt_rotate_movedTo L hq, hu, hv]
    rfl
  · rw [unitAt_rotate_of_not_mem L h, unitAt_eq_none_of_not_mem h]

/-- The last occupied position comes first, every other one after its own place. -/
theorem rotatedTo_getElem {ps : List Nat} {j : Nat} (h : j < ps.length) :
    (rotatedTo ps)[j]'(by rwa [rotatedTo_length]) =
      ps[(j + ps.length - 1) % ps.length]'(Nat.mod_lt _ (Nat.lt_of_le_of_lt (Nat.zero_le j) h)) := by
  rcases List.eq_nil_or_concat ps with rfl | ⟨init, last, rfl⟩
  · cases h
  · rw [List.concat_eq_append] at h
    have rotated : rotatedTo (init ++ [last]) = last :: init := by
      simp [rotatedTo]
    have length : (init ++ [last]).length = init.length + 1 := by simp
    simp only [List.concat_eq_append, rotated, length] at h ⊢
    cases j with
    | zero =>
      have place : (0 + (init.length + 1) - 1) % (init.length + 1) = init.length := by
        rw [Nat.zero_add, Nat.add_sub_cancel, Nat.mod_eq_of_lt (Nat.lt_succ_self _)]
      simp only [place, List.getElem_cons_zero]
      simp
    | succ k =>
      have place : (k + 1 + (init.length + 1) - 1) % (init.length + 1) = k := by
        rw [show k + 1 + (init.length + 1) - 1 = k + (init.length + 1) by omega, Nat.add_mod_right,
          Nat.mod_eq_of_lt (by omega)]
      simp only [place, List.getElem_cons_succ]
      rw [List.getElem_append_left (by omega)]

theorem any_units_eq_false {L : Ladder} {test : PlantUnit → Bool} (h : ∀ u, some u ∈ L.units → test u = false) :
    (L.units.any fun u => u.any test) = false := by
  rw [List.any_eq_false]
  intro o ho
  cases o with
  | none => simp
  | some u => simp [h u ho]

theorem unit_rotateLadder (l : LadderId) (s : State) (p : Nat) :
    (rotateLadder l s).unit? l (movedTo (rotation (s.seq.ladder l).occupied) p) = s.unit? l p := by
  unfold State.unit? rotateLadder
  dsimp only
  rw [ladder_setLadder]
  exact unitAt_rotate_moved _ p

/-- Settles O30: each conjunct is a fact about where the rotation takes the positions. -/
theorem rotationMovesUnits : Obligations.RotationMovesUnits := by
  intro p tag o l s ready code may quiet ps
  have anyone : (decide (p = .supervisory) &&
      (s.seq.ladder l).units.any fun u => u.any fun v => decide (v.guard = .panel)) = false := by
    rcases may with rfl | anyone
    · rfl
    · have free : ((s.seq.ladder l).units.any fun u => u.any fun v => decide (v.guard = .panel)) = false :=
        any_units_eq_false fun u hu => by rw [anyone u hu]; rfl
      rw [free, Bool.and_false]
  have still : (s.seq.ladder l).hasStarting = false := any_units_eq_false fun u hu => decide_eq_false (quiet u hu)
  have served : serveLadderRotate p o s = (rotateLadder l s, ⟨.done, (s.seq.ladder l).rotate.addresses⟩) := by
    unfold serveLadderRotate
    rw [code]
    dsimp only
    rw [anyone, still]
    rfl
  have ladder : (rotateLadder l s).seq.ladder l = (s.seq.ladder l).rotate := ladder_setLadder _ _ _
  have nodup : ps.Nodup := occupied_nodup _
  refine ⟨rotateLadder l s, (request_serves ready served).trans ?_, rfl, ?_, ?_, ?_, ?_, ?_, ?_, ?_, ?_, ?_⟩
  · rw [ladder]
    rfl
  · exact fun l' other => ladder_setLadder_of_ne _ _ other
  · cases l <;> rfl
  · cases l <;> rfl
  · rw [ladder]
    rfl
  · rw [ladder]
    exact occupied_rotate _
  · intro j h
    rw [← rotatedTo_getElem h, ← movedTo_getElem nodup h]
    exact unit_rotateLadder l s _
  · have stack : ((rotateLadder l s).seq.ladder l).stack = (s.seq.ladder l).stack.map (movedTo (rotation ps)) := by
      rw [ladder]
      rfl
    rw [stack, List.map_map]
    exact List.map_congr_left fun q _ => unit_rotateLadder l s q
  · intro w hw elsewhere
    have same : w.rotated l (rotation ps) = w := by
      unfold Window.rotated
      split
      next l' n target =>
        rw [if_neg]
        rintro rfl
        exact elsewhere n target
      all_goals rfl
    exact (congrArg (Option.map _) hw).trans (congrArg some same)
  · intro w n hw target
    refine ⟨movedTo (rotation ps) n, ?_, unit_rotateLadder l s n⟩
    have moved : w.rotated l (rotation ps) = { w with target := .unit l (movedTo (rotation ps) n) } := by
      unfold Window.rotated
      rw [target]
      exact if_pos rfl
    exact (congrArg (Option.map _) hw).trans (congrArg some moved)

end Sys2Proof.Machine

/-! UNIT_LOAD (06, R97 to R100). -/

namespace Sys2Proof.Machine

/-! ## A unit's own address -/

theorem unitAt_eq_some_iff {L : Ladder} {n : Nat} {u : PlantUnit} :
    L.unitAt n = some u ↔ ∃ k, n = k + 1 ∧ L.units[k]? = some (some u) := by
  cases n with
  | zero => simp [Ladder.unitAt]
  | succ k => simp [Ladder.unitAt, Option.join_eq_some_iff]

/-- A unit's own address is in no other's use. -/
theorem holds_of_own_unit {s : State} (distinct : AddressesDistinct s) {l : LadderId} {n : Nat} {u : PlantUnit}
    (loaded : s.unit? l n = some u) :
    s.branchHolds u.address none = false ∧ s.headerHolds u.address = false ∧
      s.unitHolds u.address (some (l, n)) = false := by
  obtain ⟨k, rfl, here⟩ := unitAt_eq_some_iff.mp (show (s.seq.ladder l).unitAt n = some u from loaded)
  have mem : u.address ∈ (s.seq.ladder l).stations := mem_filterMap_of_get here
  unfold AddressesDistinct State.stations at distinct
  obtain ⟨before, pumps, apart⟩ := List.nodup_append.mp distinct
  obtain ⟨table, chillers, apart'⟩ := List.nodup_append.mp before
  have own : (s.seq.ladder l).holds u.address (some (k + 1)) = false := by
    refine ladderHolds_eq_false fun j v hj hget ha => hj ?_
    have nodup : (s.seq.ladder l).stations.Nodup := by cases l <;> assumption
    rw [index_of_distinct nodup hget here ha]
  have outside : u.address ∉ (s.branches.filterMap fun b => b.map (·.desc.address)) ++ s.header.toList.map (·.address) := by
    cases l with
    | chiller => exact fun h => apart' _ h _ mem rfl
    | pump => exact fun h => apart _ (List.mem_append_left _ h) _ mem rfl
  rw [List.mem_append, not_or] at outside
  refine ⟨branchHolds_eq_false fun _ _ _ hj ha => outside.1 (ha ▸ mem_filterMap_of_get hj),
    headerHolds_eq_false outside.2, ?_⟩
  unfold State.unitHolds
  cases l with
  | chiller =>
    have other : s.seq.pumps.holds u.address none = false :=
      ladderHolds_of_not_mem fun h => apart _ (List.mem_append_right _ mem) _ h rfl
    exact Bool.or_eq_false_iff.mpr ⟨own, other⟩
  | pump =>
    have other : s.seq.chillers.holds u.address none = false :=
      ladderHolds_of_not_mem fun h => apart _ (List.mem_append_right _ h) _ mem rfl
    exact Bool.or_eq_false_iff.mpr ⟨other, own⟩

/-! ## The checks of a load (06, R97) -/

section
variable {l : LadderId} {b : UnitLoadBody} {s : State} {g : Guard} {p : Port}

theorem unitRankBars_eq_false {o : Option PlantUnit} {asks : Bool} (may : ∀ u, o = some u → p = .panel ∨ u.guard = .anyone)
    (new : p = .panel ∨ asks = false) : unitRankBars p o asks = false := by
  unfold unitRankBars
  cases p with
  | panel => rfl
  | supervisory =>
    have asks : asks = false := new.resolve_left (by simp)
    cases o with
    | none => simp [asks]
    | some u => simp [asks, (may u rfl).resolve_left (by simp)]

theorem unitCheckFour_ok (kind : b.kindCode = kindCode l) (guard : Guard.ofCode b.guardCode = some g)
    (address : validAddress b.address = true) (rest : b.rest.length = if l = .chiller then 2 else 0) :
    unitCheckFour l b = .ok ⟨b.address.toNat, g, ofBe b.rest⟩ := by
  have ladder : ladderOfCode b.kindCode = some l := by
    rw [kind]
    cases l <;> rfl
  unfold unitCheckFour
  rw [ladder, guard]
  cases l with
  | chiller => simp_all
  | pump => simp_all

theorem unitChecks_ok {n : Nat} {r : UnitRequest} (four : unitCheckFour l b = .ok r)
    (free : s.branchHolds r.address none = false ∧ s.headerHolds r.address = false ∧
      s.unitHolds r.address (some (l, n)) = false)
    (still : (s.unit? l n).all (·.atRest) = true) : unitChecks l n b s = .ok r := by
  obtain ⟨branches, header, units⟩ := free
  unfold unitChecks
  rw [four]
  dsimp only
  rw [branches, header, units, still]
  rfl

theorem atRest_of_states {u : PlantUnit}
    (h : u.state = .off ∨ u.state = .resting ∨ u.state = .out ∨ ∃ c late, u.state = .tripped c late) :
    u.atRest = true := by
  unfold PlantUnit.atRest
  rcases h with h | h | h | ⟨c, late, h⟩ <;> rw [h]

theorem serveUnitLoad_null {n : Nat} (place : placeOf b.ladder b.position = some (l, n))
    (rank : unitRankBars p (s.unit? l n) false = false) (kind : b.kindCode = 0) (short : b.rest.length ≤ 2)
    (still : (s.unit? l n).all (·.atRest) = true) : serveUnitLoad p b s = (emptyUnit l n s, ⟨.done, []⟩) := by
  unfold serveUnitLoad
  rw [if_neg (Nat.not_lt.mpr short), place]
  simp [kind, rank, still]

theorem serveUnitLoad_of_checks {n : Nat} {r : UnitRequest} (place : placeOf b.ladder b.position = some (l, n))
    (rank : unitRankBars p (s.unit? l n) (decide (b.kindCode ≠ 0) && decide (b.guardCode = 1)) = false)
    (kind : b.kindCode ≠ 0) (short : b.rest.length ≤ 2) (checked : unitChecks l n b s = .ok r) :
    serveUnitLoad p b s = (applyUnit l n (r.clamped l) s, ⟨doneIf (decide (r.clamped l ≠ r)), []⟩) := by
  unfold serveUnitLoad
  rw [if_neg (Nat.not_lt.mpr short), place]
  dsimp only
  rw [rank, if_neg kind, checked]
  rfl

theorem clamped_eq (l : LadderId) (r : UnitRequest) (pump : l = .pump → r.capacity = 0) :
    r.clamped l = { r with capacity := if l = .chiller then max 1 (min 20000 r.capacity) else 0 } := by
  cases l with
  | chiller => rfl
  | pump =>
    have none := pump rfl
    unfold UnitRequest.clamped
    rw [if_neg (by simp), ← none]

theorem doneIf_capacity (r : UnitRequest) (c : Nat) :
    doneIf (decide ({ r with capacity := c } ≠ r)) = if c = r.capacity then .done else .doneClamped := by
  unfold doneIf
  have same : { r with capacity := c } = r ↔ c = r.capacity :=
    ⟨fun h => congrArg UnitRequest.capacity h, fun h => by rw [h]⟩
  by_cases h : c = r.capacity
  · simp [h]
  · simp [h, same]

end

/-- Settles O29: the checks pass, and the load is the clamped request's. -/
theorem unitLoadFillsReloadsEmpties : Obligations.UnitLoadFillsReloadsEmpties := by
  intro p tag b l g s ready place may states
  have still : (s.unit? l b.position.toNat).all (·.atRest) = true := by
    cases hu : s.unit? l b.position.toNat with
    | none => rfl
    | some u => exact atRest_of_states (states u hu)
  refine ⟨fun kind short => ?_, fun kind rest guard asks lo hi => ?_⟩
  · have served := serveUnitLoad_null place (unitRankBars_eq_false may (.inr rfl)) kind short still
    refine ⟨fun empty => request_serves ready (served.trans ?_), fun loaded => request_serves ready (served.trans ?_)⟩
    · unfold emptyUnit
      rw [empty]
    · obtain ⟨u, hu⟩ := Option.ne_none_iff_exists'.mp loaded
      unfold emptyUnit
      rw [hu]
      rfl
  · intro capacity st
    have address := validAddress_of_range lo hi
    have kind_ne : b.kindCode ≠ 0 := by
      rw [kind]
      cases l <;> decide
    have short : b.rest.length ≤ 2 := by
      rw [rest]
      split_ifs <;> omega
    have new : p = .panel ∨ (decide (b.kindCode ≠ 0) && decide (b.guardCode = 1)) = false := by
      refine asks.imp_right fun anyone => ?_
      rw [decide_eq_false (guardCode_ne_panel (anyone ▸ guard)), Bool.and_false]
    have pump : l = .pump → ofBe b.rest = 0 := by
      rintro rfl
      rw [List.length_eq_zero_iff.mp rest]
      rfl
    have served := fun free => serveUnitLoad_of_checks place (unitRankBars_eq_false may new) kind_ne short
      (unitChecks_ok (unitCheckFour_ok kind guard address rest) free still)
    rw [clamped_eq l ⟨b.address.toNat, g, ofBe b.rest⟩ pump, doneIf_capacity] at served
    have absent : b.address.toNat ∉ s.stations → s.branchHolds b.address.toNat none = false ∧
        s.headerHolds b.address.toNat = false ∧ s.unitHolds b.address.toNat (some (l, b.position.toNat)) = false := by
      intro unused
      obtain ⟨branches, units, header⟩ := holds_of_not_mem unused none (some (l, b.position.toNat))
      exact ⟨branches, header, units⟩
    refine ⟨fun empty unused => request_serves ready ((served (absent unused)).trans ?_), fun u loaded free =>
      request_serves ready ((served ?_).trans ?_)⟩
    · unfold applyUnit
      rw [empty]
      rfl
    · rcases free with ⟨own, distinct⟩ | unused
      · rw [own]
        exact holds_of_own_unit distinct loaded
      · exact absent unused
    · unfold applyUnit
      rw [loaded]
      rfl

end Sys2Proof.Machine

/-! PLANT_LIMITS_SET (05, R89, R90; 01, R5). -/

namespace Sys2Proof.Machine

section
variable {s : State} {a : Nat}

/-- An address of a branch record or a unit is held. -/
theorem holds_of_used (h : (∃ i x, s.branch? i = some x ∧ x.desc.address = a) ∨
    ∃ l n u, s.unit? l n = some u ∧ u.address = a) : (s.branchHolds a none || s.unitHolds a none) = true := by
  by_contra free
  obtain ⟨branches, units⟩ := Bool.or_eq_false_iff.mp (Bool.eq_false_iff.mpr free)
  obtain ⟨chillers, pumps⟩ := unitHolds_false units
  rcases h with ⟨i, x, loaded, rfl⟩ | ⟨l, n, u, loaded, rfl⟩
  · exact not_mem_branches_of_holds branches (mem_filterMap_of_get (branch?_eq_some_iff.mp loaded))
  · obtain ⟨k, -, here⟩ := unitAt_eq_some_iff.mp (show (s.seq.ladder l).unitAt n = some u from loaded)
    have mem : u.address ∈ (s.seq.ladder l).stations := mem_filterMap_of_get here
    cases l
    · exact chillers mem
    · exact pumps mem

theorem holds_of_unused (h : ¬ ((∃ i x, s.branch? i = some x ∧ x.desc.address = a) ∨
    ∃ l n u, s.unit? l n = some u ∧ u.address = a)) : (s.branchHolds a none || s.unitHolds a none) = false := by
  obtain ⟨branches, units⟩ := not_or.mp h
  have ladders : ∀ l, (s.seq.ladder l).holds a none = false := fun l =>
    ladderHolds_eq_false fun j u _ hj ha => units ⟨l, j + 1, u, unitAt_eq_some_iff.mpr ⟨j, rfl, hj⟩, ha⟩
  have table : s.branchHolds a none = false :=
    branchHolds_eq_false fun j x _ hj ha => branches ⟨j, x, branch?_eq_some_iff.mpr hj, ha⟩
  have both : s.unitHolds a none = false := Bool.or_eq_false_iff.mpr ⟨ladders .chiller, ladders .pump⟩
  rw [table, both]
  rfl

end

/-! ## The header and the setpoint -/

/-- The header record and the events of an accepted address (01, R5). -/
def headerAfter (a : Octet) (h : Option Header) : Option Header × List Note :=
  match h with
  | none => if a = 0 then (none, []) else (some (freshHeader a.toNat true), [branchStateNote headerSubject (some .awaiting)])
  | some h =>
    if a = 0 then (none, [branchStateNote headerSubject none])
    else if a.toNat = h.address then (some h, [])
    else (some (freshHeader a.toNat h.recent),
      if h.station.freshness = .awaiting then [] else [branchStateNote headerSubject (some .awaiting)])

theorem applyHeader_eq (a : Octet) (s : State) : applyHeader a s =
    ({ s with header := (headerAfter a s.header).1 } : State).notes (headerAfter a s.header).2 := by
  unfold applyHeader headerAfter
  cases hs : s.header with
  | none =>
    have kept : ({ s with header := none } : State) = s := by rw [← hs]
    dsimp only
    split
    · exact kept.symm
    · rfl
  | some h =>
    have kept : ({ s with header := some h } : State) = s := by rw [← hs]
    dsimp only
    split_ifs
    · rfl
    · exact kept.symm
    · rfl
    · rfl

theorem applySetpoint_press (s : State) : (applySetpoint s).press =
    { s.press with setpoint := clamp s.limits.dpMin s.limits.dpMax s.press.setpoint } := by
  unfold applySetpoint
  dsimp only
  split
  next same => rw [same]
  next => rfl

theorem applySetpoint_seq_of_same {s : State} (h : (applySetpoint s).press.setpoint = s.press.setpoint) :
    (applySetpoint s).seq = s.seq := by
  rw [applySetpoint_press] at h
  unfold applySetpoint
  dsimp only
  rw [if_pos h]

theorem applySetpoint_seq_of_changed {s : State} (h : (applySetpoint s).press.setpoint ≠ s.press.setpoint) :
    (applySetpoint s).seq =
      { s.seq with pumps := s.seq.pumps.writeSetpoint (applySetpoint s).press.setpoint } := by
  rw [applySetpoint_press] at h ⊢
  unfold applySetpoint
  dsimp only
  rw [if_neg h]
  rfl

theorem writeSetpoint_eq (v : Nat) (u : PlantUnit) : u.writeSetpoint v =
    if u.state = .starting ∨ u.state = .running ∨ u.state = .hand .run then
      { u with next := u.next.map fun c => { c with setpoint := v } } else u := by
  unfold PlantUnit.writeSetpoint PlantUnit.takesSetpoint
  have same : u.needsFlow = true ↔ u.state = .starting ∨ u.state = .running ∨ u.state = .hand .run := by
    unfold PlantUnit.needsFlow
    simp [PlantUnit.inService]
  simp only [same]

/-! ## The request -/

theorem headerAddressBars_none {a : Octet} {s : State} (h : a = 0 ∨ (a.toNat ≤ 240 ∧
    (s.branchHolds a.toNat none || s.unitHolds a.toNat none) = false)) : headerAddressBars a s = none := by
  unfold headerAddressBars
  by_cases ha : a = 0
  · rw [if_pos ha]
  · obtain ⟨hi, free⟩ := h.resolve_left ha
    have lo : 1 ≤ a.toNat := by bv_omega
    rw [if_neg ha, validAddress_of_range lo hi, free]
    rfl

/-- Settles O28: the address check, then the header and the setpoint one after the other. -/
theorem plantLimitsReplaced : Obligations.PlantLimitsReplaced := by
  intro p tag b s ready used limits
  have carried : limits = (carriedLimits b).ranged.related := rfl
  have orders : (carriedLimits b).ranged.dpMax < (carriedLimits b).ranged.dpMin ↔ limits.dpMax < limits.dpMin := Iff.rfl
  have refused : ∀ st, limits.dpMin ≤ limits.dpMax → headerAddressBars b.headerAddress s = some st →
      servePlantLimitsSet b s = (s, ⟨st, []⟩) := by
    intro st ordered bars
    unfold servePlantLimitsSet
    dsimp only
    rw [if_neg (mt orders.mp (Nat.not_lt.mpr ordered)), bars]
    rfl
  refine ⟨fun disordered => request_serves ready ?_, fun ordered high => request_serves ready (refused _ ordered ?_),
    fun ordered some_address low taken => request_serves ready (refused _ ordered ?_), fun ordered free => ?_⟩
  · unfold servePlantLimitsSet
    exact if_pos disordered
  · unfold headerAddressBars
    have nonzero : b.headerAddress ≠ 0 := by
      intro h
      rw [h] at high
      exact absurd high (by decide)
    have invalid : validAddress b.headerAddress = false := by
      rw [Bool.eq_false_iff, ne_eq, validAddress_iff]
      omega
    rw [if_neg nonzero, invalid]
    rfl
  · unfold headerAddressBars
    have lo : 1 ≤ b.headerAddress.toNat := by bv_omega
    rw [if_neg some_address, validAddress_of_range lo low, holds_of_used taken]
    rfl
  · have passed : headerAddressBars b.headerAddress s = none :=
      headerAddressBars_none (free.imp_right (And.imp_right holds_of_unused))
    have served : servePlantLimitsSet b s = (applySetpoint (applyHeader b.headerAddress { s with limits := limits }),
        ⟨doneIf (decide (limits ≠ carriedLimits b)), []⟩) := by
      unfold servePlantLimitsSet
      dsimp only
      rw [if_neg (mt orders.mp (Nat.not_lt.mpr ordered)), passed]
      rfl
    rw [applyHeader_eq] at served
    generalize hu : (({ s with limits := limits, header := (headerAfter b.headerAddress s.header).1 } : State).notes
      (headerAfter b.headerAddress s.header).2) = u at served
    have press : u.press = s.press := hu ▸ rfl
    have seq : u.seq = s.seq := hu ▸ rfl
    have limits_u : u.limits = limits := hu ▸ rfl
    have header : (applySetpoint u).header = (headerAfter b.headerAddress s.header).1 := by
      rw [applySetpoint_frame]
      exact hu ▸ rfl
    have pressed := applySetpoint_press u
    rw [limits_u, press] at pressed
    have same := applySetpoint_seq_of_same (s := u)
    have changed := applySetpoint_seq_of_changed (s := u)
    rw [press, seq] at same changed
    refine ⟨applySetpoint u, (headerAfter b.headerAddress s.header).2, (request_serves ready served).trans ?_, ?_, pressed,
      same, fun differs => ?_, fun zero => ?_, fun some_address unloaded => ?_, fun h some_address loaded other => ?_,
      fun h loaded own some_address => ?_⟩
    · have spelt : carriedLimits b = ⟨b.dpMin.toNat, b.dpMax.toNat, b.dpFallback.toNat, b.dpMargin.toNat,
          b.dpRamp.toNat, b.trim.toNat, b.trimThreshold.toNat, b.supplySet.toNat, b.supplyBand.toNat, b.upPct.toNat,
          b.downPct.toNat, b.pumpUp.toNat, b.pumpDown.toNat, b.kStale.toNat, b.kLost.toNat⟩ := rfl
      rw [← spelt]
      unfold doneIf
      by_cases h : limits = carriedLimits b <;> simp [h]
    · rw [applySetpoint_frame, ← hu]
      rfl
    · have pumps := changed differs
      refine ⟨by rw [pumps]; rfl, fun n => ?_⟩
      have units : (applySetpoint u).unit? .pump n =
          (s.unit? .pump n).map (PlantUnit.writeSetpoint (applySetpoint u).press.setpoint) := by
        unfold State.unit?
        rw [pumps]
        exact unitAt_map _ _ n
      rw [units]
      exact congrArg (fun f => (s.unit? .pump n).map f) (funext fun v => writeSetpoint_eq _ v)
    · rw [header, zero]
      unfold headerAfter
      cases s.header <;> exact ⟨rfl, rfl⟩
    · rw [header, unloaded]
      unfold headerAfter
      dsimp only
      rw [if_neg some_address]
      exact ⟨rfl, rfl⟩
    · rw [header, loaded]
      unfold headerAfter
      dsimp only
      rw [if_neg some_address, if_neg (Ne.symm other)]
      exact ⟨rfl, rfl⟩
    · rw [header, loaded]
      unfold headerAfter
      dsimp only
      rw [if_neg some_address, if_pos own.symm]
      exact ⟨rfl, rfl⟩

end Sys2Proof.Machine

/-! SUPPORT. What the sequencer's work leaves of the units (07): staging up touches units in OFF alone, and the stops take
a set of units to STOPPING and off the stack. -/

namespace Sys2Proof.Machine

section
variable {e : SeqEnv} {l m : LadderId} {p q : Nat} {w v x : Work}

/-! ## One ladder of the work -/

theorem unit_onLadder_of_ne (h : m ≠ l) (f : Ladder → Ladder) (p : Nat) : (w.onLadder l f).unit m p = w.unit m p := by
  unfold Work.unit
  rw [ladder_onLadder_of_ne _ h]

theorem unit_onLadder_of_units {f : Ladder → Ladder} (h : ∀ L, (f L).units = L.units) (m : LadderId) (p : Nat) :
    (w.onLadder l f).unit m p = w.unit m p := by
  by_cases hm : m = l
  · subst hm
    unfold Work.unit
    rw [ladder_onLadder]
    exact unitAt_of_units (h _) p
  · exact unit_onLadder_of_ne hm f p

theorem unit_onUnit_other (h : (m, q) ≠ (l, p)) (f : PlantUnit → PlantUnit) : (w.onUnit l p f).unit m q = w.unit m q := by
  by_cases hm : m = l
  · subst hm
    unfold Work.unit Work.onUnit
    rw [ladder_onLadder]
    exact unitAt_modUnit_other _ (fun hq => h (by rw [hq])) f
  · exact unit_onLadder_of_ne hm _ q

/-! ## Staging up -/

/-- Work that changes no unit out of OFF: it stands where it stood, on the stack or off it, and nothing appended is taken
back. -/
structure Work.Ups (w v : Work) : Prop where
  unit  : ∀ m p u, w.unit m p = some u → u.state ≠ .off → v.unit m p = some u
  empty : ∀ m p, w.unit m p = none → v.unit m p = none
  stack : ∀ m p, (∀ u, w.unit m p = some u → u.state ≠ .off) →
    (p ∈ (v.seq.ladder m).stack ↔ p ∈ (w.seq.ladder m).stack)
  out   : w.out ⊆ v.out

theorem ups_refl (w : Work) : w.Ups w := ⟨fun _ _ _ h _ => h, fun _ _ h => h, fun _ _ _ => Iff.rfl, fun _ h => h⟩

theorem Work.Ups.trans (h : w.Ups v) (k : v.Ups x) : w.Ups x where
  unit m p u hu hs := k.unit m p u (h.unit m p u hu hs) hs
  empty m p hp := k.empty m p (h.empty m p hp)
  stack m p hp := by
    rw [← h.stack m p hp]
    refine k.stack m p fun u hu => ?_
    cases hw : w.unit m p with
    | none =>
      rw [h.empty m p hw] at hu
      cases hu
    | some u' =>
      rw [h.unit m p u' hw (hp u' hw)] at hu
      rw [← Option.some.inj hu]
      exact hp u' hw
  out := fun _ hn => k.out (h.out hn)

/-- Flags and timers of a ladder. -/
theorem ups_flags {f : Ladder → Ladder} (units : ∀ L, (f L).units = L.units) (stack : ∀ L, (f L).stack = L.stack) :
    w.Ups (w.onLadder l f) where
  unit m p u hu _ := (unit_onLadder_of_units units m p).trans hu
  empty m p hp := (unit_onLadder_of_units units m p).trans hp
  stack m p _ := by
    by_cases hm : m = l
    · rw [hm, ladder_onLadder, stack]
    · rw [ladder_onLadder_of_ne _ hm]
  out := fun _ h => h

theorem ups_say (w : Work) (ns : List Note) : w.Ups (w.say ns) :=
  ⟨fun _ _ _ h _ => h, fun _ _ h => h, fun _ _ _ => Iff.rfl, List.subset_append_left _ _⟩

theorem ups_waiting (w : Work) (b : Bool) : w.Ups { w with seq := { w.seq with waiting := b } } where
  unit m p u hu _ := by cases m <;> exact hu
  empty m p hp := by cases m <;> exact hp
  stack m p _ := by cases m <;> exact Iff.rfl
  out := fun _ h => h

/-- One unit in OFF changed. -/
theorem ups_onUnit {u : PlantUnit} (unit : w.unit l p = some u) (off : u.state = .off) (f : PlantUnit → PlantUnit) :
    w.Ups (w.onUnit l p f) where
  unit m q v hv hs := by
    refine (unit_onUnit_other (fun same => hs ?_) f).trans hv
    obtain ⟨rfl, rfl⟩ := Prod.mk.inj same
    rw [unit] at hv
    rw [← Option.some.inj hv, off]
  empty m q hq := by
    refine (unit_onUnit_other (fun same => ?_) f).trans hq
    obtain ⟨rfl, rfl⟩ := Prod.mk.inj same
    rw [unit] at hq
    cases hq
  stack m q _ := by
    by_cases hm : m = l
    · subst hm
      unfold Work.onUnit
      rw [ladder_onLadder, modUnit_stack]
    · unfold Work.onUnit
      rw [ladder_onLadder_of_ne _ hm]
  out := fun _ h => h

theorem ups_clearShort (w : Work) (l : LadderId) : w.Ups (w.clearShort l) := by
  unfold Work.clearShort
  dsimp only
  split
  · exact (ups_flags (f := fun L => { L with shortCap := false }) (fun _ => rfl) fun _ => rfl).trans (ups_say _ _)
  · exact ups_refl w

theorem ups_setShort (w : Work) (l : LadderId) : w.Ups (w.setShort l) := by
  unfold Work.setShort
  dsimp only
  split
  · exact ups_refl w
  · exact (ups_flags (f := fun L => { L with shortCap := true }) (fun _ => rfl) fun _ => rfl).trans (ups_say _ _)

theorem ups_upDone (w : Work) (l : LadderId) : w.Ups (w.onLadder l Ladder.upDone) := ups_flags (fun _ => rfl) fun _ => rfl

/-- After work that changes no unit out of OFF, a push of a position that held a unit in OFF. -/
theorem Work.Ups.push (h : w.Ups v) {u : PlantUnit} (unit : w.unit l p = some u) (off : u.state = .off) :
    w.Ups (v.onLadder l fun L => (L.push p).upDone) where
  unit m q x hx hs :=
    (unit_onLadder_of_units (f := fun L => (L.push p).upDone) (fun _ => rfl) m q).trans (h.unit m q x hx hs)
  empty m q hq := (unit_onLadder_of_units (f := fun L => (L.push p).upDone) (fun _ => rfl) m q).trans (h.empty m q hq)
  stack m q hq := by
    rw [← h.stack m q hq]
    by_cases hm : m = l
    · subst hm
      have other : q ≠ p := by
        rintro rfl
        exact hq u unit off
      rw [ladder_onLadder]
      change q ∈ (v.seq.ladder m).stack ++ [p] ↔ q ∈ (v.seq.ladder m).stack
      rw [List.mem_append, List.mem_singleton, or_iff_left other]
    · rw [ladder_onLadder_of_ne _ hm]
  out := h.out

theorem ups_startUnit {u : PlantUnit} (unit : w.unit l p = some u) (off : u.state = .off) :
    w.Ups (w.startUnit e l p) := by
  unfold Work.startUnit Work.enter
  refine Work.Ups.trans ?_ (ups_clearShort _ l)
  exact ((ups_onUnit unit off _).trans (ups_say _ _)).push unit off

theorem ups_intend {u : PlantUnit} (unit : w.unit l p = some u) (off : u.state = .off) (i : Intent) :
    w.Ups (w.intend e l p i) := by
  unfold Work.intend
  refine Work.Ups.trans ?_ (ups_say _ _)
  exact (ups_onUnit unit off _).trans (ups_flags (fun _ => rfl) fun _ => rfl)

theorem ups_actUpWith {interlock : Work → Work} (h : w.Ups (interlock w)) : w.Ups (w.actUpWith e l interlock) := by
  unfold Work.actUpWith
  split
  · exact ups_refl w
  · split
    · exact ups_refl w
    · split
      · exact ups_setShort w l
      next p found =>
        obtain ⟨u, unit, off⟩ := first_spec found
        have off : u.state = .off := of_decide_eq_true off
        split
        · exact ((ups_intend unit off .start).trans (ups_upDone _ l)).trans (ups_clearShort _ l)
        · split
          · exact h
          · exact ups_startUnit unit off

theorem ups_actUpPump (w : Work) (e : SeqEnv) : w.Ups (w.actUpPump e) := ups_actUpWith (ups_refl w)

theorem ups_interlock (w : Work) (e : SeqEnv) : w.Ups (w.interlock e) := by
  have flagged : w.Ups { w with
      seq := { w.seq with
        chillers := { w.seq.chillers with upPending := false }, waiting := true,
        pumps := { w.seq.pumps with upPending := true } } } := by
    refine ⟨fun m p u hu _ => ?_, fun m p hp => ?_, fun m p _ => by cases m <;> exact Iff.rfl, fun _ h => h⟩
    · cases m <;> exact (unitAt_of_units rfl p).trans hu
    · cases m <;> exact (unitAt_of_units rfl p).trans hp
  exact flagged.trans (ups_actUpPump _ e)

theorem ups_actUp (w : Work) (e : SeqEnv) (l : LadderId) : w.Ups (w.actUp e l) := by
  cases l with
  | chiller => exact ups_actUpWith (ups_interlock w e)
  | pump => exact ups_actUpPump w e

theorem ups_raiseUp (w : Work) (e : SeqEnv) (l : LadderId) : w.Ups (w.raiseUp e l) :=
  (ups_flags (f := fun L => { L with upPending := true }) (fun _ => rfl) fun _ => rfl).trans (ups_actUp _ e l)

theorem ups_tryUp (w : Work) (e : SeqEnv) (l : LadderId) : w.Ups (w.tryUp e l) := by
  unfold Work.tryUp
  split
  · exact ups_actUp w e l
  · exact ups_refl w

theorem ups_pumpServes (w : Work) (e : SeqEnv) : w.Ups (w.pumpServes e) := by
  unfold Work.pumpServes
  split
  · exact (ups_waiting w false).trans (ups_raiseUp _ e .chiller)
  · exact ups_refl w

/-! ## Which ladder staging up touches -/

theorem chillers_onLadder_pump (w : Work) (f : Ladder → Ladder) : (w.onLadder .pump f).seq.chillers = w.seq.chillers := rfl

theorem chillers_clearShort (w : Work) : (w.clearShort .pump).seq.chillers = w.seq.chillers := by
  unfold Work.clearShort
  dsimp only
  split <;> rfl

theorem chillers_setShort (w : Work) : (w.setShort .pump).seq.chillers = w.seq.chillers := by
  unfold Work.setShort
  dsimp only
  split <;> rfl

/-- Staging up the pumps touches no chiller. -/
theorem chillers_actUpPump (w : Work) (e : SeqEnv) : (w.actUpPump e).seq.chillers = w.seq.chillers := by
  unfold Work.actUpPump Work.actUpWith
  split
  · rfl
  · split
    · rfl
    · split
      · exact chillers_setShort w
      · split
        · exact (chillers_clearShort _).trans rfl
        · split
          · rfl
          · exact (chillers_clearShort _).trans rfl

theorem chillers_raiseUp (w : Work) (e : SeqEnv) : (w.raiseUp e .pump).seq.chillers = w.seq.chillers :=
  chillers_actUpPump _ e

theorem chillers_tryUp (w : Work) (e : SeqEnv) : (w.tryUp e .pump).seq.chillers = w.seq.chillers := by
  unfold Work.tryUp
  split
  · exact chillers_actUpPump w e
  · rfl

/-- With a pump in service, staging up the chillers keeps the waiting flag and the pumps. -/
theorem rest_actUp_chiller (serves : w.seq.pumps.serves = true) :
    (w.actUp e .chiller).seq.waiting = w.seq.waiting ∧ (w.actUp e .chiller).seq.pumps = w.seq.pumps := by
  have clear : ∀ v : Work, (v.clearShort .chiller).seq.waiting = v.seq.waiting ∧
      (v.clearShort .chiller).seq.pumps = v.seq.pumps := by
    intro v
    unfold Work.clearShort
    dsimp only
    split <;> exact ⟨rfl, rfl⟩
  have set : (w.setShort .chiller).seq.waiting = w.seq.waiting ∧ (w.setShort .chiller).seq.pumps = w.seq.pumps := by
    unfold Work.setShort
    dsimp only
    split <;> exact ⟨rfl, rfl⟩
  change (w.actUpWith e .chiller (Work.interlock e)).seq.waiting = _ ∧
    (w.actUpWith e .chiller (Work.interlock e)).seq.pumps = _
  unfold Work.actUpWith
  split
  · exact ⟨rfl, rfl⟩
  · split
    · exact ⟨rfl, rfl⟩
    · split
      · exact set
      · split
        · exact clear _
        · split
          next locked => simp [serves] at locked
          · exact clear _

/-! ## A barred staging up -/

theorem actUpWith_barred {interlock : Work → Work}
    (h : w.held l = true ∨ e.latch = true ∨ (w.seq.ladder l).hasStarting = true) : w.actUpWith e l interlock = w := by
  unfold Work.actUpWith
  by_cases barred : (w.held l || e.latch) = true
  · exact if_pos barred
  · rw [if_neg barred, if_pos]
    simp only [Bool.or_eq_true, not_or] at barred
    exact (h.resolve_left barred.1).resolve_left barred.2

theorem actUp_barred (h : w.held l = true ∨ e.latch = true ∨ (w.seq.ladder l).hasStarting = true) : w.actUp e l = w := by
  cases l <;> exact actUpWith_barred h

/-- Under the STOP latch nothing is staged up. -/
theorem tryUp_latched (h : e.latch = true) : w.tryUp e l = w := by
  unfold Work.tryUp
  rw [actUp_barred (.inr (.inl h))]
  exact ite_self w

end

end Sys2Proof.Machine

/-! SUPPORT. Stops (07, R115, R128, R129): the units taken to STOPPING, the stacks they leave, the flow-loss stop. -/

namespace Sys2Proof.Machine

section
variable {e : SeqEnv} {l m : LadderId} {p q n : Nat} {w v x : Work} {H K : LadderId → Nat → Bool}

/-- Work that takes the units of a set to STOPPING and off the stack, and does nothing else but append events. -/
structure Work.Halts (e : SeqEnv) (H : LadderId → Nat → Bool) (w v : Work) : Prop where
  ladder : ∀ l, v.seq.ladder l = { w.seq.ladder l with
    units := (v.seq.ladder l).units, stack := (w.seq.ladder l).stack.filter fun n => !H l n }
  unit : ∀ l n, v.unit l n = (w.unit l n).map fun u =>
    if H l n then u.stopped (w.seq.ladder l).periods (e.setpoint l) else u
  waiting : v.seq.waiting = w.seq.waiting
  hold : v.seq.inputHold = w.seq.inputHold
  out : w.out ⊆ v.out

theorem map_ite_false (o : Option PlantUnit) (f : PlantUnit → PlantUnit) :
    (o.map fun u => if false = true then f u else u) = o := by
  cases o <;> rfl

theorem halts_refl (w : Work) : w.Halts e (fun _ _ => false) w where
  ladder l := by
    have all : ((w.seq.ladder l).stack.filter fun _ => !false) = (w.seq.ladder l).stack :=
      List.filter_eq_self.mpr fun _ _ => rfl
    rw [all]
  unit l n := (map_ite_false _ _).symm
  waiting := rfl
  hold := rfl
  out := fun _ h => h

theorem halts_say (w : Work) (ns : List Note) : w.Halts e (fun _ _ => false) (w.say ns) :=
  { halts_refl w with out := List.subset_append_left _ _ }

theorem Work.Halts.trans (h : w.Halts e H v) (k : v.Halts e K x) : w.Halts e (fun l n => H l n || K l n) x where
  ladder l := by
    rw [k.ladder l, h.ladder l]
    dsimp only
    rw [List.filter_filter]
    have both : (fun n => (!K l n && !H l n)) = fun n => !(H l n || K l n) := by
      funext n
      rw [Bool.not_or, Bool.and_comm]
    rw [both]
  unit l n := by
    rw [k.unit l n, h.unit l n, h.ladder l, Option.map_map]
    congr 1
    funext u
    cases hH : H l n <;> cases hK : K l n <;> rfl
  waiting := k.waiting.trans h.waiting
  hold := k.hold.trans h.hold
  out := fun _ hn => k.out (h.out hn)

theorem Work.Halts.congr (h : w.Halts e H v) (same : ∀ l n, H l n = K l n) : w.Halts e K v := by
  have : H = K := funext fun l => funext (same l)
  exact this ▸ h

theorem halts_stopOne (w : Work) (e : SeqEnv) (l : LadderId) (p : Nat) :
    w.Halts e (fun m n => decide (m = l ∧ n = p)) (w.stopOne e l p) where
  ladder m := by
    rw [stopOne_seq]
    by_cases hm : m = l
    · subst hm
      rw [ladder_setLadder]
      have off : ((w.seq.ladder m).stack.filter fun n => !decide (m = m ∧ n = p)) =
          (w.seq.ladder m).stack.filter fun n => decide (n ≠ p) := by
        refine List.filter_congr fun n _ => ?_
        simp
      rw [off]
      cases p <;> rfl
    · rw [ladder_setLadder_of_ne _ _ hm]
      have all : ((w.seq.ladder m).stack.filter fun n => !decide (m = l ∧ n = p)) = (w.seq.ladder m).stack :=
        List.filter_eq_self.mpr fun n _ => by simp [hm]
      rw [all]
  unit m n := by
    by_cases hm : m = l
    · subst hm
      by_cases hn : n = p
      · subst hn
        rw [unit_stopOne_same]
        simp
      · rw [unit_stopOne_other hn]
        simp [hn]
    · have same : (w.stopOne e l p).unit m n = w.unit m n := by
        unfold Work.unit
        rw [ladder_stopOne_other hm]
      rw [same]
      simp [hm]
  waiting := by
    rw [stopOne_seq, setLadder_waiting]
  hold := by
    rw [stopOne_seq, setLadder_inputHold]
  out := List.subset_append_left _ _

theorem halts_stops (ps : List Nat) (w : Work) (e : SeqEnv) (l : LadderId) :
    w.Halts e (fun m n => decide (m = l ∧ n ∈ ps)) (ps.foldl (fun v p => v.stopOne e l p) w) := by
  induction ps generalizing w with
  | nil => exact (halts_refl w).congr fun m n => by simp
  | cons p ps ih =>
    refine ((halts_stopOne w e l p).trans (ih _)).congr fun m n => ?_
    by_cases hm : m = l <;> simp [hm]

theorem mem_stoppables_iff (L : Ladder) (n : Nat) : n ∈ L.stoppables ↔ (L.unitAt n).any (·.stoppable) = true := by
  cases hu : L.unitAt n with
  | none =>
    simp only [Option.any_none, Bool.false_eq_true, iff_false]
    intro mem
    have := (List.mem_filter.mp mem).2
    rw [hu] at this
    cases this
  | some u => exact mem_stoppables hu

/-! ## The flow-loss stop (07, R128) -/

/-- The chillers that a flow-loss stop takes to STOPPING. -/
def Work.flowHalts (w : Work) (m : LadderId) (n : Nat) : Bool :=
  decide (m = .chiller) && (w.unit .chiller n).any (·.stoppable)

/-- FLOW_LOSS_STOP with the number of the chillers stopped. -/
def Work.flowNote (w : Work) : Note := ⟨.flowLossStop, ladderSubject .pump, w.seq.chillers.stoppables.length⟩

/-- The stops of a flow-loss stop. -/
def Work.flowStops (e : SeqEnv) (w : Work) : Work :=
  w.seq.chillers.stoppables.foldl (fun v p => v.stopOne e .chiller p) (w.say [w.flowNote])

theorem halts_flowStops (w : Work) (e : SeqEnv) : w.Halts e w.flowHalts (w.flowStops e) := by
  refine ((halts_say w [w.flowNote]).trans (halts_stops w.seq.chillers.stoppables _ e .chiller)).congr fun m n => ?_
  unfold Work.flowHalts
  rw [Bool.false_or, Bool.decide_and]
  congr 1
  rw [Bool.eq_iff_iff, decide_eq_true_eq]
  exact mem_stoppables_iff _ n

theorem flowNote_mem (w : Work) (e : SeqEnv) : w.flowNote ∈ (w.flowStops e).out :=
  (halts_stops w.seq.chillers.stoppables (w.say [w.flowNote]) e .chiller).out
    (List.mem_append_right _ (List.mem_singleton.mpr rfl))

theorem flowLoss_eq (w : Work) (e : SeqEnv) :
    w.flowLoss e = if w.seq.chillers.hasStarting then (w.flowStops e).tryUp e .chiller else w.flowStops e := rfl

theorem flowLoss_latched (w : Work) (h : e.latch = true) : w.flowLoss e = w.flowStops e := by
  rw [flowLoss_eq, tryUp_latched h]
  exact ite_self _

theorem ups_flowLoss (w : Work) (e : SeqEnv) : (w.flowStops e).Ups (w.flowLoss e) := by
  rw [flowLoss_eq]
  split
  · exact ups_tryUp _ e .chiller
  · exact ups_refl _

/-- Live and with no pump in service, staging up the chillers moves no chiller. -/
theorem chillers_tryUp_unserved (live : e.shadow = false) (unserved : w.seq.pumps.serves = false) :
    (w.tryUp e .chiller).seq.chillers.units = w.seq.chillers.units ∧
      (w.tryUp e .chiller).seq.chillers.stack = w.seq.chillers.stack := by
  have set : (w.setShort .chiller).seq.chillers.units = w.seq.chillers.units ∧
      (w.setShort .chiller).seq.chillers.stack = w.seq.chillers.stack := by
    unfold Work.setShort
    dsimp only
    split <;> exact ⟨rfl, rfl⟩
  have locked : (w.interlock e).seq.chillers.units = w.seq.chillers.units ∧
      (w.interlock e).seq.chillers.stack = w.seq.chillers.stack := by
    unfold Work.interlock
    rw [chillers_actUpPump]
    exact ⟨rfl, rfl⟩
  unfold Work.tryUp
  split
  · change (w.actUpWith e .chiller (Work.interlock e)).seq.chillers.units = _ ∧
      (w.actUpWith e .chiller (Work.interlock e)).seq.chillers.stack = _
    unfold Work.actUpWith
    split
    · exact ⟨rfl, rfl⟩
    · split
      · exact ⟨rfl, rfl⟩
      · split
        · exact set
        · rw [if_neg (by simp [live]), if_pos (by simp [unserved])]
          exact locked
  · exact ⟨rfl, rfl⟩

/-- Live and with no pump in service, the flow-loss stop stops the chillers and moves no other. -/
theorem chillers_flowLoss (live : e.shadow = false) (unserved : w.seq.pumps.serves = false) :
    (w.flowLoss e).seq.chillers.units = (w.flowStops e).seq.chillers.units ∧
      (w.flowLoss e).seq.chillers.stack = (w.flowStops e).seq.chillers.stack := by
  have pumps : (w.flowStops e).seq.pumps.serves = false := by
    rw [Bool.eq_false_iff]
    intro serves
    obtain ⟨n, u, hu, hs⟩ := (serves_iff _).mp serves
    have same := (halts_flowStops w e).unit .pump n
    rw [show w.flowHalts .pump n = false from rfl, map_ite_false] at same
    have := (serves_iff w.seq.pumps).mpr ⟨n, u, same.symm.trans hu, hs⟩
    rw [unserved] at this
    cases this
  rw [flowLoss_eq]
  split
  · exact chillers_tryUp_unserved live pumps
  · exact ⟨rfl, rfl⟩

end

/-! ## How many units a stop takes -/

theorem units_eq_map_unitAt (L : Ladder) : L.units = (positions L.units.length).map L.unitAt := by
  apply List.ext_getElem?
  intro k
  by_cases hk : k < L.units.length
  · rw [List.getElem?_map, positions_getElem? hk, Option.map_some, List.getElem?_eq_getElem hk]
    simp [Ladder.unitAt, hk]
  · rw [List.getElem?_eq_none (by omega), List.getElem?_eq_none (by simp [positions]; omega)]

theorem stoppables_length (L : Ladder) : L.stoppables.length = L.units.countP fun u => u.any (·.stoppable) := by
  conv => rhs; rw [units_eq_map_unitAt L]
  rw [List.countP_map, List.countP_eq_length_filter]
  rfl

end Sys2Proof.Machine

/-! SUPPORT. What follows when a unit leaves its state, and when a pump enters service (07, R126, R128); and PROVE's expiry
(07, R114). -/

namespace Sys2Proof.Machine

section
variable {e : SeqEnv} {l m : LadderId} {p q n : Nat} {w v x : Work} {u : PlantUnit}

/-! ## A unit changed and off the stack -/

/-- A unit changed and taken off the stack. -/
def Work.takeOff (l : LadderId) (p : Nat) (f : PlantUnit → PlantUnit) (w : Work) : Work :=
  (w.onUnit l p f).onLadder l (·.remove p)

theorem unit_takeOff_same (f : PlantUnit → PlantUnit) : (w.takeOff l p f).unit l p = (w.unit l p).map f :=
  (unit_onLadder_of_units (f := (·.remove p)) (fun _ => rfl) l p).trans (unit_onUnit_same w l p f)

theorem unit_takeOff_other (h : (m, q) ≠ (l, p)) (f : PlantUnit → PlantUnit) :
    (w.takeOff l p f).unit m q = w.unit m q :=
  (unit_onLadder_of_units (f := (·.remove p)) (fun _ => rfl) m q).trans (unit_onUnit_other h f)

theorem ladder_takeOff_other (h : m ≠ l) (f : PlantUnit → PlantUnit) :
    (w.takeOff l p f).seq.ladder m = w.seq.ladder m :=
  (ladder_onLadder_of_ne _ h _).trans (ladder_onLadder_of_ne _ h _)

theorem not_mem_stack_takeOff (f : PlantUnit → PlantUnit) : p ∉ ((w.takeOff l p f).seq.ladder l).stack := by
  unfold Work.takeOff
  rw [ladder_onLadder]
  simp [Ladder.remove]

/-! ## What follows (07, R125, R128) -/

/-- The flow-loss stop, when the last pump has left service. -/
def Work.flowLost (e : SeqEnv) (l : LadderId) (before : PlantUnit) (w : Work) : Work :=
  if decide (l = .pump) && before.inService && !w.seq.pumps.serves then w.flowLoss e else w

theorem afterLeaving_eq (w : Work) (e : SeqEnv) (l : LadderId) (before : PlantUnit) :
    w.afterLeaving e l before =
      if before.state = .starting then (w.flowLost e l before).tryUp e l else w.flowLost e l before := rfl

theorem flowLost_chiller (before : PlantUnit) : w.flowLost e .chiller before = w := rfl

/-- A chiller that has left another state than STARTING brings nothing with it. -/
theorem afterLeaving_chiller {before : PlantUnit} (h : before.state ≠ .starting) :
    w.afterLeaving e .chiller before = w := by
  rw [afterLeaving_eq, if_neg h, flowLost_chiller]

theorem unit_flowStops_pump (w : Work) (e : SeqEnv) (p : Nat) : (w.flowStops e).unit .pump p = w.unit .pump p := by
  rw [(halts_flowStops w e).unit, show w.flowHalts .pump p = false from rfl, map_ite_false]

/-- The flow-loss stop leaves the unit whose leaving brought it. -/
theorem unit_flowLost (unit : w.unit l p = some u) (on : u.state ≠ .off) (before : PlantUnit) :
    (w.flowLost e l before).unit l p = some u := by
  cases l with
  | chiller => exact unit
  | pump =>
    unfold Work.flowLost
    split
    · exact (ups_flowLoss w e).unit .pump p u ((unit_flowStops_pump w e p).trans unit) on
    · exact unit

theorem stack_flowLost (unit : w.unit l p = some u) (on : u.state ≠ .off) (before : PlantUnit) :
    p ∈ ((w.flowLost e l before).seq.ladder l).stack ↔ p ∈ (w.seq.ladder l).stack := by
  cases l with
  | chiller => exact Iff.rfl
  | pump =>
    unfold Work.flowLost
    split
    · refine ((ups_flowLoss w e).stack .pump p fun u' hu' => ?_).trans ?_
      · rw [unit_flowStops_pump, unit] at hu'
        rwa [← Option.some.inj hu']
      · rw [(halts_flowStops w e).ladder .pump]
        simp [Work.flowHalts]
    · exact Iff.rfl

/-- What follows a unit's leaving leaves that unit, and leaves it off the stack. -/
theorem unit_afterLeaving (unit : w.unit l p = some u) (on : u.state ≠ .off) (gone : p ∉ (w.seq.ladder l).stack)
    (before : PlantUnit) : (w.afterLeaving e l before).unit l p = some u ∧
      p ∉ ((w.afterLeaving e l before).seq.ladder l).stack := by
  have flowed := unit_flowLost (e := e) unit on before
  have off : p ∉ ((w.flowLost e l before).seq.ladder l).stack := (stack_flowLost unit on before).not.mpr gone
  rw [afterLeaving_eq]
  split
  · refine ⟨(ups_tryUp _ e l).unit l p u flowed on, ((ups_tryUp _ e l).stack l p fun u' hu' => ?_).not.mpr off⟩
    rw [flowed] at hu'
    rwa [← Option.some.inj hu']
  · exact ⟨flowed, off⟩

theorem chillers_afterLeaving (w : Work) (e : SeqEnv) (before : PlantUnit) :
    (w.afterLeaving e .pump before).seq.chillers = (w.flowLost e .pump before).seq.chillers := by
  rw [afterLeaving_eq]
  split
  · exact chillers_tryUp _ e
  · rfl

theorem out_afterLeaving (w : Work) (e : SeqEnv) (l : LadderId) (before : PlantUnit) :
    (w.flowLost e l before).out ⊆ (w.afterLeaving e l before).out := by
  rw [afterLeaving_eq]
  split
  · exact (ups_tryUp _ e l).out
  · exact fun _ h => h

end

/-! ## What the chillers see of a pump (07, R126, R128) -/

section
variable {s : State} {n : Nat} {u : PlantUnit} {v x : Work}

/-- The state after the sequencer's work. -/
def State.after (s : State) (x : Work) : State := ({ s with seq := x.seq } : State).notes x.out

theorem sequence_eq (s : State) (f : SeqEnv → Work → Work) : s.sequence f = s.after (f s.seqEnv ⟨s.seq, []⟩) := rfl

theorem after_eq (s : State) (x : Work) : s.after x = { s with seq := (s.after x).seq, events := (s.after x).events } := rfl

/-- The pump has left service in `v`, and `x` is what became of it. -/
theorem pumpLeaves_of (live : s.fc.shadow = false) (chillers : v.seq.chillers = s.seq.chillers)
    (gone : ∀ y, v.unit .pump n = some y → y.inService = false)
    (others : ∀ m, m ≠ n → v.unit .pump m = s.unit? .pump m)
    (follows : x.seq.chillers = (v.flowLost s.seqEnv .pump u).seq.chillers)
    (out : (v.flowLost s.seqEnv .pump u).out ⊆ x.out) : s.PumpLeaves n u (s.after x) := by
  have served : v.seq.pumps.serves = true ↔ ∃ m y, m ≠ n ∧ s.unit? .pump m = some y ∧ y.inService = true := by
    rw [serves_iff]
    constructor
    · rintro ⟨m, y, hy, hs⟩
      have other : m ≠ n := by
        rintro rfl
        rw [gone y hy] at hs
        cases hs
      exact ⟨m, y, other, (others m other).symm.trans hy, hs⟩
    · rintro ⟨m, y, other, hy, hs⟩
      exact ⟨m, y, (others m other).trans hy, hs⟩
  refine ⟨fun ⟨service, alone⟩ => ?_, fun stays => ?_⟩
  · have unserved : v.seq.pumps.serves = false := by
      rw [Bool.eq_false_iff]
      intro serves
      obtain ⟨m, y, other, hy, hs⟩ := served.mp serves
      rw [alone m y other hy] at hs
      cases hs
    have lost : v.flowLost s.seqEnv .pump u = v.flowLoss s.seqEnv := if_pos (by simp [service, unserved])
    rw [lost] at follows out
    obtain ⟨units, stack⟩ := chillers_flowLoss (e := s.seqEnv) live unserved
    have halts := halts_flowStops v s.seqEnv
    have place : ∀ k, v.unit .chiller k = s.unit? .chiller k := fun k => congrArg (Ladder.unitAt · k) chillers
    have periods : (v.seq.ladder .chiller).periods = s.seq.chillers.periods := congrArg Ladder.periods chillers
    constructor
    case units =>
      intro k
      have moved : (s.after x).unit? .chiller k = (v.flowStops s.seqEnv).unit .chiller k :=
        unitAt_of_units ((congrArg Ladder.units follows).trans units) k
      rw [moved, halts.unit, place, periods]
      unfold Work.flowHalts
      rw [place]
      cases hk : s.unit? .chiller k with
      | none => rfl
      | some y => rfl
    case stack =>
      have moved : (s.after x).seq.chillers.stack = (v.flowStops s.seqEnv).seq.chillers.stack :=
        (congrArg Ladder.stack follows).trans stack
      rw [moved]
      have filtered := congrArg Ladder.stack (halts.ladder .chiller)
      refine filtered.trans ?_
      change v.seq.chillers.stack.filter _ = _
      rw [chillers]
      refine List.filter_congr fun k _ => ?_
      unfold Work.flowHalts
      rw [place]
      rfl
    case noted =>
      have note : v.flowNote = ⟨.flowLossStop, 200, s.stoppableChillers⟩ := by
        unfold Work.flowNote State.stoppableChillers
        rw [stoppables_length, chillers]
        rfl
      rw [← note]
      exact notes_appends (s := { s with seq := x.seq }) (out ((ups_flowLoss v s.seqEnv).out (flowNote_mem v s.seqEnv)))
  · have kept : v.flowLost s.seqEnv .pump u = v := by
      refine if_neg fun lost => stays ?_
      simp only [decide_true, Bool.true_and, Bool.and_eq_true, Bool.not_eq_eq_eq_not, Bool.not_true] at lost
      refine ⟨lost.1, fun m y other hy => Bool.eq_false_iff.mpr fun hs => ?_⟩
      have := served.mpr ⟨m, y, other, hy, hs⟩
      rw [lost.2] at this
      cases this
    rw [kept] at follows
    exact follows.trans chillers

/-- A pump is in service in `v`, and a waiting chiller start is carried out. -/
theorem pumpEnters_of (chillers : v.seq.chillers = s.seq.chillers) (waiting : v.seq.waiting = s.seq.waiting)
    (serves : v.seq.pumps.serves = true) : s.PumpEnters (s.after (v.pumpServes s.seqEnv)) := by
  unfold Work.pumpServes
  split
  next waits =>
    refine ⟨?_, fun none_waits => ?_⟩
    · refine (rest_actUp_chiller (e := s.seqEnv) (w := (({ v with seq := { v.seq with waiting := false } } : Work).onLadder
        .chiller fun L => { L with upPending := true })) ?_).1
      exact serves
    · rw [waiting, none_waits] at waits
      cases waits
  next none_waits => exact ⟨Bool.eq_false_iff.mpr none_waits, fun _ => chillers⟩

end

/-! ## A trip (07, R116) -/

section
variable {e : SeqEnv} {l : LadderId} {p n : Nat} {w : Work} {u : PlantUnit} {cause : TripCause}

/-- What a trip makes of the unit. -/
def PlantUnit.trips (e : SeqEnv) (l : LadderId) (cause : TripCause) (u : PlantUnit) : PlantUnit :=
  { u with
    state := .tripped cause false, next := some ⟨.stop, e.setpoint l⟩, prove := .idle, stop := .idle, run := .idle }

/-- The entry into TRIPPED. -/
def Work.tripOne (e : SeqEnv) (l : LadderId) (p : Nat) (cause : TripCause) (w : Work) : Work :=
  ((w.takeOff l p (PlantUnit.trips e l cause)).say [unitNote l p (some (.tripped cause false))]).say
    [⟨.unitTrip, ladderSubject l + p, cause.code⟩]

theorem trip_eq (unit : w.unit l p = some u) : w.trip e l p cause =
    if u.state = .starting ∨ u.state = .running then ((w.tripOne e l p cause).flowLost e l u).raiseUp e l
    else (w.tripOne e l p cause).flowLost e l u := by
  unfold Work.trip
  rw [unit]
  rfl

theorem unit_tripOne (unit : w.unit l p = some u) : (w.tripOne e l p cause).unit l p = some (u.trips e l cause) :=
  (unit_takeOff_same (PlantUnit.trips e l cause)).trans (congrArg (Option.map _) unit)

/-- The tripped unit stands so, off the stack. -/
theorem unit_trip (unit : w.unit l p = some u) : (w.trip e l p cause).unit l p = some (u.trips e l cause) ∧
    p ∉ ((w.trip e l p cause).seq.ladder l).stack := by
  have on : (u.trips e l cause).state ≠ .off := by simp [PlantUnit.trips]
  have flowed := unit_flowLost (e := e) (unit_tripOne (e := e) (cause := cause) unit) on u
  have off : p ∉ (((w.tripOne e l p cause).flowLost e l u).seq.ladder l).stack :=
    (stack_flowLost (unit_tripOne unit) on u).not.mpr (not_mem_stack_takeOff (PlantUnit.trips e l cause))
  rw [trip_eq unit]
  split
  · refine ⟨(ups_raiseUp _ e l).unit l p _ flowed on, ((ups_raiseUp _ e l).stack l p fun u' hu' => ?_).not.mpr off⟩
    rw [flowed] at hu'
    rwa [← Option.some.inj hu']
  · exact ⟨flowed, off⟩

end

theorem pumpLeaves_trip {s : State} {n : Nat} {u : PlantUnit} {w : Work} {cause : TripCause} (live : s.fc.shadow = false)
    (chillers : w.seq.chillers = s.seq.chillers) (unit : w.unit .pump n = some u)
    (others : ∀ m, m ≠ n → w.unit .pump m = s.unit? .pump m) :
    s.PumpLeaves n u (s.after (w.trip s.seqEnv .pump n cause)) := by
  have tripped := unit_tripOne (e := s.seqEnv) (cause := cause) unit
  refine pumpLeaves_of (v := w.tripOne s.seqEnv .pump n cause) live
    ((ladder_takeOff_other (m := .chiller) (by simp) _).trans chillers) (fun y hy => ?_) (fun m other => ?_) ?_ ?_
  · rw [tripped] at hy
    rw [← Option.some.inj hy]
    rfl
  · exact (unit_takeOff_other (fun same => other (Prod.mk.inj same).2) _).trans (others m other)
  · rw [trip_eq unit]
    split
    · exact chillers_raiseUp _ s.seqEnv
    · rfl
  · rw [trip_eq unit]
    split
    · exact (ups_raiseUp _ s.seqEnv .pump).out
    · exact fun _ h => h

/-! ## Expiries (08, R138) -/

theorem exec_expiry_of_ranOut {s : State} {l : LadderId} {n : Nat} {u : PlantUnit} {timer : PlantUnit → Timer}
    {act : SeqEnv → LadderId → Nat → PlantUnit → Work → Work} (released : s.rst = false) (lo : 1 ≤ n)
    (hi : n ≤ ladderSize l) (unit : s.unit? l n = some u) (ran : (timer u).ranOut = true) :
    expiryAt l n (unitExpiry l n timer act) s = .next (s.sequence fun e w => act e l n u w) := by
  unfold expiryAt unlessReset unitExpiry
  rw [if_pos ⟨lo, hi⟩, released, unit]
  exact congrArg Host.Outcome.next (if_pos ran)

theorem exec_expiry_of_not_ranOut {s : State} {l : LadderId} {n : Nat} {u : PlantUnit} {timer : PlantUnit → Timer}
    {act : SeqEnv → LadderId → Nat → PlantUnit → Work → Work} (released : s.rst = false) (lo : 1 ≤ n)
    (hi : n ≤ ladderSize l) (unit : s.unit? l n = some u) (runs : (timer u).ranOut = false) :
    expiryAt l n (unitExpiry l n timer act) s = .next s := by
  unfold expiryAt unlessReset unitExpiry
  rw [if_pos ⟨lo, hi⟩, released, unit]
  exact congrArg Host.Outcome.next (if_neg (c := (timer u).ranOut = true) (by simp [runs]))

theorem ranOut_of_counting {t : Timer} {m a : Nat} (h : t = .counting 0 m a) : t.ranOut = true := by rw [h]; rfl

/-- Settles O37: the second pass, or the trip of the unit with its timer idle. -/
theorem proveExpiryTrips : Obligations.ProveExpiryTrips := by
  intro l n m u s released lo hi unit state
  refine ⟨fun first => ?_, fun second => ?_⟩
  · have ran := exec_expiry_of_ranOut (timer := (·.prove)) (act := fun e l p u w => w.proveExpired e l p u) released lo hi
      unit (ranOut_of_counting first)
    refine ran.trans (congrArg Host.Outcome.next ?_)
    rw [sequence_eq]
    unfold Work.proveExpired
    rw [first]
    dsimp only
    rw [if_pos state, if_pos rfl, onUnit_of_unit (w := ⟨s.seq, []⟩) unit]
    rfl
  · have ran := exec_expiry_of_ranOut (timer := (·.prove)) (act := fun e l p u w => w.proveExpired e l p u) released lo hi
      unit (ranOut_of_counting second)
    have work : Work.proveExpired s.seqEnv l n u ⟨s.seq, []⟩ =
        ((⟨s.seq, []⟩ : Work).onUnit l n fun v => { v with prove := .idle }).trip s.seqEnv l n .noProof := by
      unfold Work.proveExpired
      rw [second]
      dsimp only
      rw [if_pos state]
      rfl
    have idle : ((⟨s.seq, []⟩ : Work).onUnit l n fun v => { v with prove := .idle }).unit l n =
        some { u with prove := .idle } := (unit_onUnit_same _ _ _ _).trans (congrArg (Option.map _) unit)
    obtain ⟨tripped, off⟩ := unit_trip (e := s.seqEnv) (cause := .noProof) idle
    rw [sequence_eq, work] at ran
    refine ⟨_, ran, rfl, tripped.trans ?_, off, ?_⟩
    · rw [← setpoint_seqEnv]
      rfl
    · rintro rfl live
      have leaves := pumpLeaves_trip (cause := .noProof) live rfl idle fun k other =>
        unit_onUnit_other (fun same => other (Prod.mk.inj same).2) _
      exact leaves

end Sys2Proof.Machine

/-! UNIT_HAND and UNIT_AUTO (07, R119, R120). -/

namespace Sys2Proof.Machine

/-! ## UNIT_HAND -/

/-- What UNIT_HAND makes of the unit. -/
def PlantUnit.takenInHand (e : SeqEnv) (l : LadderId) (d : Demand) (x : Periods) (u : PlantUnit) : PlantUnit :=
  { handTimers d x u with state := .hand d, next := some ⟨d, e.setpoint l⟩ }

theorem handProved_iff (u : PlantUnit) :
    u.handProved = true ↔ u.state = .running ∨ (u.state = .hand .run ∧ u.prove = .idle) := by
  have counts : u.prove.isCounting = false ↔ u.prove = .idle := by
    cases u.prove with
    | idle => exact ⟨fun _ => rfl, fun _ => rfl⟩
    | counting r m a => exact ⟨(fun h => by cases h), (fun h => by cases h)⟩
  unfold PlantUnit.handProved PlantUnit.delivers
  simp [counts]

theorem startIfIdle_eq (t : Timer) (n : Nat) : t.startIfIdle n = if t = .idle then .counting n n 1 else t := by
  cases t with
  | idle => rfl
  | counting r m a => rfl

/-- The timers of a unit taken in hand (07, R119). -/
theorem takenInHand_eq (e : SeqEnv) (l : LadderId) (d : Demand) (x : Periods) (u : PlantUnit) :
    u.takenInHand e l d x = { u with
      state := .hand d, next := some ⟨d, e.setpoint l⟩, run := .idle,
      prove := (if d = .run then (if u.state = .running ∨ (u.state = .hand .run ∧ u.prove = .idle) then .idle
                  else .counting x.prove x.prove 1)
                else if u.inService then .idle else u.prove),
      rest := (if d = .stop ∧ u.inService = true ∧ u.rest = .idle then .counting x.rest x.rest 1 else u.rest) } := by
  cases d with
  | run =>
    have proved := handProved_iff u
    unfold PlantUnit.takenInHand handTimers
    by_cases h : u.handProved = true
    · simp [h, proved.mp h]
    · simp [h, proved.not.mp h, Timer.start]
  | stop =>
    unfold PlantUnit.takenInHand handTimers
    by_cases h : u.inService = true
    · simp [h, startIfIdle_eq]
    · simp [h]

section
variable {s : State} {l : LadderId} {n : Nat} {u : PlantUnit} {d : Demand}

/-- The entry into HAND. -/
def Work.handOne (e : SeqEnv) (x : NamedUnit) (d : Demand) (w : Work) : Work :=
  (w.takeOff x.ladder x.position (PlantUnit.takenInHand e x.ladder d (w.seq.ladder x.ladder).periods)).say (handNotes x d)

theorem takeInHand_chiller (w : Work) (e : SeqEnv) (p : Nat) (u : PlantUnit) (d : Demand) :
    w.takeInHand e ⟨.chiller, p, u⟩ d = w.handOne e ⟨.chiller, p, u⟩ d := by
  cases d <;> rfl

theorem takeInHand_pump_run (w : Work) (e : SeqEnv) (p : Nat) (u : PlantUnit) :
    w.takeInHand e ⟨.pump, p, u⟩ .run = (w.handOne e ⟨.pump, p, u⟩ .run).pumpServes e := rfl

theorem takeInHand_pump_stop (w : Work) (e : SeqEnv) (p : Nat) (u : PlantUnit) :
    w.takeInHand e ⟨.pump, p, u⟩ .stop = (w.handOne e ⟨.pump, p, u⟩ .stop).afterLeaving e .pump u := rfl

theorem unit_handOne {w : Work} {e : SeqEnv} (unit : w.unit l n = some u) (d : Demand) :
    (w.handOne e ⟨l, n, u⟩ d).unit l n = some (u.takenInHand e l d (w.seq.ladder l).periods) :=
  (unit_takeOff_same _).trans (congrArg (Option.map _) unit)

theorem unit_handOne_other {w : Work} {e : SeqEnv} {m : LadderId} {k : Nat} (h : (m, k) ≠ (l, n)) (u : PlantUnit)
    (d : Demand) : (w.handOne e ⟨l, n, u⟩ d).unit m k = w.unit m k := unit_takeOff_other h _

theorem unit_takeInHand {w : Work} {e : SeqEnv} (unit : w.unit l n = some u) (d : Demand) :
    (w.takeInHand e ⟨l, n, u⟩ d).unit l n = some (u.takenInHand e l d (w.seq.ladder l).periods) ∧
      n ∉ ((w.takeInHand e ⟨l, n, u⟩ d).seq.ladder l).stack := by
  have entered := unit_handOne (e := e) unit d
  have on : (u.takenInHand e l d (w.seq.ladder l).periods).state ≠ .off := fun h => by cases h
  have off : n ∉ ((w.handOne e ⟨l, n, u⟩ d).seq.ladder l).stack := not_mem_stack_takeOff _
  cases l with
  | chiller =>
    rw [takeInHand_chiller]
    exact ⟨entered, off⟩
  | pump =>
    cases d with
    | run =>
      rw [takeInHand_pump_run]
      refine ⟨(ups_pumpServes _ e).unit .pump n _ entered on, ((ups_pumpServes _ e).stack .pump n fun v hv => ?_).not.mpr off⟩
      rw [entered] at hv
      rwa [← Option.some.inj hv]
    | stop =>
      rw [takeInHand_pump_stop]
      exact unit_afterLeaving entered on off u

theorem handStateOk_of {st : UnitState}
    (h : st = .off ∨ st = .running ∨ st = .out ∨ (∃ x, st = .hand x) ∨ (st = .resting ∧ d = .stop)) :
    handStateOk st d = true := by
  rcases h with rfl | rfl | rfl | ⟨x, rfl⟩ | ⟨rfl, rfl⟩ <;> rfl

/-- UNIT_HAND past its checks. -/
theorem serveUnitHand_of_checks {o q dc : Octet} (place : placeOf o q = some (l, n)) (unit : s.unit? l n = some u)
    (live : s.fc.shadow = false) (demand : Demand.ofCode dc = some d) (state : handStateOk u.state d = true)
    (run : d = .run → handRunBars ⟨l, n, u⟩ s = false) (stop : d = .stop → handStopBars ⟨l, n, u⟩ s = false) :
    serveUnitHand .panel o q dc s = (s.sequence fun e w => w.takeInHand e ⟨l, n, u⟩ d, ⟨.done, []⟩) := by
  unfold serveUnitHand
  rw [panelUnit_of_place place unit live]
  dsimp only
  rw [demand]
  dsimp only
  rw [state]
  cases d with
  | run =>
    dsimp only
    rw [run rfl]
    rfl
  | stop =>
    dsimp only
    rw [stop rfl]
    rfl

end

/-- Settles O32: the entry into HAND, with what it brings on the pump ladder. -/
theorem unitHandTaken : Obligations.UnitHandTaken := by
  intro tag o q dc l u d s ready place unit live demand state run stop proved x
  have runBars : d = .run → handRunBars ⟨l, q.toNat, u⟩ s = false := by
    intro hd
    obtain ⟨rest, latch, serves⟩ := run hd
    unfold handRunBars
    rw [rest, latch]
    cases l with
    | chiller => simp [Timer.isCounting, serves rfl]
    | pump => simp [Timer.isCounting]
  have served := serveUnitHand_of_checks place unit live demand (handStateOk_of state) runBars stop
  rw [sequence_eq] at served
  have here : (⟨s.seq, []⟩ : Work).unit l q.toNat = some u := unit
  obtain ⟨taken, off⟩ := unit_takeInHand (e := s.seqEnv) here d
  refine ⟨_, request_serves ready served, rfl, ?_, off, ?_, ?_, ?_⟩
  · refine taken.trans ?_
    rw [takenInHand_eq, setpoint_seqEnv]
  · rintro rfl
    have kept := takeInHand_chiller ⟨s.seq, []⟩ s.seqEnv q.toNat u d
    rw [kept]
    exact ⟨ladder_takeOff_other (m := .pump) (by simp) _, fun n other =>
      unit_handOne_other (w := ⟨s.seq, []⟩) (m := .chiller) (fun same => other (Prod.mk.inj same).2) u d⟩
  · rintro rfl rfl
    refine pumpLeaves_of (v := (⟨s.seq, []⟩ : Work).handOne s.seqEnv ⟨.pump, q.toNat, u⟩ .stop) live
      (ladder_takeOff_other (m := .chiller) (by simp) _) (fun y hy => ?_) (fun m other => ?_)
      (chillers_afterLeaving _ s.seqEnv u) (out_afterLeaving _ s.seqEnv .pump u)
    · rw [unit_handOne here .stop] at hy
      rw [← Option.some.inj hy]
      rfl
    · exact unit_handOne_other (w := ⟨s.seq, []⟩) (m := .pump) (fun same => other (Prod.mk.inj same).2) u .stop
  · rintro rfl rfl
    refine pumpEnters_of (v := (⟨s.seq, []⟩ : Work).handOne s.seqEnv ⟨.pump, q.toNat, u⟩ .run)
      (ladder_takeOff_other (m := .chiller) (by simp) _) rfl ((serves_iff _).mpr ⟨q.toNat, _, unit_handOne here .run, rfl⟩)

/-! ## UNIT_AUTO -/

section
variable {e : SeqEnv} {l : LadderId} {p : Nat} {w : Work} {u : PlantUnit}

/-- What entering service makes of the unit. -/
def PlantUnit.entersService (e : SeqEnv) (l : LadderId) (x : Periods) (u : PlantUnit) : PlantUnit :=
  { u with
    state := .running, next := some ⟨.run, e.setpoint l⟩, prove := .idle, run := .counting x.run x.run 1 }

/-- The entry into RUNNING, on top of the stack. -/
def Work.serviceOne (e : SeqEnv) (l : LadderId) (p : Nat) (w : Work) : Work :=
  ((w.onUnit l p (PlantUnit.entersService e l (w.seq.ladder l).periods)).say [unitNote l p (some .running)]).onLadder l
    (·.push p)

theorem takeIntoService_eq (w : Work) (e : SeqEnv) (l : LadderId) (p : Nat) :
    w.takeIntoService e l p = if l = .pump then (w.serviceOne e l p).pumpServes e else w.serviceOne e l p := rfl

theorem unit_serviceOne (unit : w.unit l p = some u) :
    (w.serviceOne e l p).unit l p = some (u.entersService e l (w.seq.ladder l).periods) :=
  (unit_onLadder_of_units (f := (·.push p)) (fun _ => rfl) l p).trans
    ((unit_onUnit_same w l p _).trans (congrArg (Option.map _) unit))

theorem unit_serviceOne_other {m : LadderId} {k : Nat} (h : (m, k) ≠ (l, p)) :
    (w.serviceOne e l p).unit m k = w.unit m k :=
  (unit_onLadder_of_units (f := (·.push p)) (fun _ => rfl) m k).trans (unit_onUnit_other h _)

theorem stack_serviceOne : ((w.serviceOne e l p).seq.ladder l).stack = (w.seq.ladder l).stack ++ [p] := by
  unfold Work.serviceOne
  rw [ladder_onLadder]
  change (((w.onUnit l p _)).seq.ladder l).stack ++ [p] = _
  unfold Work.onUnit
  rw [ladder_onLadder, modUnit_stack]

/-- The rest that ends hand control without proof. -/
def PlantUnit.rests (e : SeqEnv) (l : LadderId) (x : Periods) (u : PlantUnit) : PlantUnit :=
  { u with
    state := .resting, next := some ⟨.stop, e.setpoint l⟩, prove := .idle, rest := u.rest.startIfIdle x.rest }

/-- The entry into RESTING at the end of hand control. -/
def Work.restOne (e : SeqEnv) (l : LadderId) (p : Nat) (w : Work) : Work :=
  (w.onUnit l p (PlantUnit.rests e l (w.seq.ladder l).periods)).say [unitNote l p (some .resting)]

theorem unit_restOne (unit : w.unit l p = some u) :
    (w.restOne e l p).unit l p = some (u.rests e l (w.seq.ladder l).periods) :=
  (unit_onUnit_same w l p _).trans (congrArg (Option.map _) unit)

theorem unit_restOne_other {m : LadderId} {k : Nat} (h : (m, k) ≠ (l, p)) : (w.restOne e l p).unit m k = w.unit m k :=
  unit_onUnit_other h _

theorem takeOutOfHand_eq (w : Work) (e : SeqEnv) (l : LadderId) (p : Nat) (u : PlantUnit) :
    w.takeOutOfHand e ⟨l, p, u⟩ =
      if !u.proof then (w.restOne e l p).afterLeaving e l u
      else if e.latch || (decide (l = .chiller) && !w.seq.pumps.serves) then (w.stopOne e l p).afterLeaving e l u
      else w.takeIntoService e l p := rfl

end

/-- A stack that only grows by units in OFF at a time when the ladder serves. -/
theorem stack_pumpServes_pump {w : Work} {e : SeqEnv} (serves : w.seq.pumps.serves = true) :
    (w.pumpServes e).seq.pumps = w.seq.pumps := by
  unfold Work.pumpServes
  split
  · exact (rest_actUp_chiller (e := e) (w := (({ w with seq := { w.seq with waiting := false } } : Work).onLadder
        .chiller fun L => { L with upPending := true })) serves).2
  · rfl

/-- A pump taken to STOPPING, with what follows. -/
theorem pumpLeaves_stopOne {s : State} {w : Work} {n : Nat} {u : PlantUnit} (live : s.fc.shadow = false)
    (place : ∀ m, w.unit .pump m = s.unit? .pump m) (chillers : w.seq.chillers = s.seq.chillers) :
    s.PumpLeaves n u (s.after ((w.stopOne s.seqEnv .pump n).afterLeaving s.seqEnv .pump u)) := by
  refine pumpLeaves_of (v := w.stopOne s.seqEnv .pump n) live
    ((ladder_stopOne_other (m := .chiller) (by simp)).trans chillers) (fun y hy => ?_)
    (fun m other => (unit_stopOne_other other).trans (place m)) (chillers_afterLeaving _ s.seqEnv u)
    (out_afterLeaving _ s.seqEnv .pump u)
  rw [unit_stopOne_same] at hy
  obtain ⟨y', -, rfl⟩ := Option.map_eq_some_iff.mp hy
  rfl

/-- Settles O33: by proof, the latch and the interlock, as the operation branches. -/
theorem unitAutoEndsHand : Obligations.UnitAutoEndsHand := by
  intro tag o q l u d s ready place unit live hand x serves
  have served : serveUnitAuto .panel o q s = (s.sequence fun e w => w.takeOutOfHand e ⟨l, q.toNat, u⟩, ⟨.done, []⟩) := by
    unfold serveUnitAuto
    rw [panelUnit_of_place place unit live]
    dsimp only
    rw [hand]
  rw [sequence_eq, takeOutOfHand_eq] at served
  have here : (⟨s.seq, []⟩ : Work).unit l q.toNat = some u := unit
  have latched : s.seqEnv.latch = s.inputs.stopLatch := rfl
  have notStarting : u.state ≠ .starting := by rw [hand]; simp
  have barred : (s.seqEnv.latch || (decide (l = .chiller) && !s.seq.pumps.serves)) = true ↔
      s.inputs.stopLatch = true ∨ ¬ serves := by
    rw [latched]
    cases l <;> simp [serves]
  refine ⟨_, request_serves ready served, rfl, fun proof latch free => ?_, fun proof bars => ?_, fun unproved => ?_, ?_, ?_⟩
  · have takes : ¬ ((s.seqEnv.latch || (decide (l = .chiller) && !s.seq.pumps.serves)) = true) := by
      rw [barred, latch]
      simp [free]
    rw [if_neg (by simp [proof]), if_neg takes, takeIntoService_eq]
    have entered := unit_serviceOne (e := s.seqEnv) here
    have on_stack := stack_serviceOne (e := s.seqEnv) (l := l) (p := q.toNat) (w := ⟨s.seq, []⟩)
    cases l with
    | chiller => exact ⟨entered, on_stack, fun h => by cases h⟩
    | pump =>
      have running : ((⟨s.seq, []⟩ : Work).serviceOne s.seqEnv .pump q.toNat).seq.pumps.serves = true :=
        (serves_iff _).mpr ⟨q.toNat, _, entered, rfl⟩
      have pumps := stack_pumpServes_pump (e := s.seqEnv) running
      rw [if_pos rfl]
      exact ⟨(congrArg (Ladder.unitAt · q.toNat) pumps).trans entered, (congrArg Ladder.stack pumps).trans on_stack,
        fun _ => pumpEnters_of rfl rfl running⟩
  · rw [if_neg (by simp [proof]), if_pos (barred.mpr bars)]
    have stopped : ((⟨s.seq, []⟩ : Work).stopOne s.seqEnv l q.toNat).unit l q.toNat =
        some (u.stopped x (s.setpointFor l)) := by
      rw [← setpoint_seqEnv]
      exact unit_stopOne_same.trans (congrArg (Option.map _) here)
    have off : q.toNat ∉ (((⟨s.seq, []⟩ : Work).stopOne s.seqEnv l q.toNat).seq.ladder l).stack := by
      rw [(halts_stopOne _ s.seqEnv l q.toNat).ladder l]
      simp
    exact unit_afterLeaving stopped (fun h => by cases h) off u
  · rw [if_pos (by simp [unproved]), afterLeaving_eq, if_neg notStarting]
    have rested := unit_restOne (e := s.seqEnv) here
    refine (unit_flowLost rested (fun h => by cases h) u).trans ?_
    unfold PlantUnit.rests
    rw [setpoint_seqEnv, startIfIdle_eq]
  · rintro rfl leaves
    by_cases proof : u.proof = true
    · have latch : s.inputs.stopLatch = true := leaves.resolve_left (by simp [proof])
      rw [if_neg (by simp [proof]), if_pos (by simp [latched, latch])]
      exact pumpLeaves_stopOne (w := ⟨s.seq, []⟩) live (fun _ => rfl) rfl
    · rw [if_pos (by simp [proof])]
      refine pumpLeaves_of (v := (⟨s.seq, []⟩ : Work).restOne s.seqEnv .pump q.toNat) live rfl (fun y hy => ?_)
        (fun m other => unit_restOne_other (w := ⟨s.seq, []⟩) (m := .pump) fun same => other (Prod.mk.inj same).2) (chillers_afterLeaving _ s.seqEnv u)
        (out_afterLeaving _ s.seqEnv .pump u)
      rw [unit_restOne here] at hy
      rw [← Option.some.inj hy]
      rfl
  · rintro rfl
    rw [takeIntoService_eq, if_neg (show ¬ LadderId.chiller = .pump by simp), afterLeaving_chiller notStarting, afterLeaving_chiller notStarting]
    split
    · exact ⟨rfl, fun n other => unit_restOne_other (w := ⟨s.seq, []⟩) (m := .chiller) fun same => other (Prod.mk.inj same).2⟩
    · split
      · exact ⟨ladder_stopOne_other (m := .pump) (by simp), fun n other => unit_stopOne_other (w := ⟨s.seq, []⟩) (l := .chiller) other⟩
      · exact ⟨rfl, fun n other => unit_serviceOne_other (w := ⟨s.seq, []⟩) (m := .chiller) fun same => other (Prod.mk.inj same).2⟩

end Sys2Proof.Machine

/-! The STOP latch's stop of every unit (07, R129), and the statements on the latch and on GO_LIVE (10, R164; 07, R131). -/

namespace Sys2Proof.Machine

section
variable {e : SeqEnv} {l m : LadderId} {p n : Nat} {w v x : Work} {H : LadderId → Nat → Bool}

/-! ## Every unit stopped -/

/-- A unit that stops can still take is one they have not taken. -/
theorem Work.Halts.stoppable_back (h : w.Halts e H v) (able : (v.unit m n).any (·.stoppable) = true) :
    (w.unit m n).any (·.stoppable) = true ∧ H m n = false := by
  rw [h.unit] at able
  cases hu : w.unit m n with
  | none =>
    rw [hu] at able
    cases able
  | some u =>
    rw [hu] at able
    cases hH : H m n with
    | true =>
      rw [hH] at able
      cases able
    | false =>
      rw [hH] at able
      exact ⟨able, rfl⟩

/-- What stops have not taken stands. -/
theorem Work.Halts.unit_of_false (h : w.Halts e H v) (free : H m n = false) : v.unit m n = w.unit m n := by
  rw [h.unit, free, map_ite_false]

/-- One unit taken to STOPPING, under the latch: it, and the chillers that the flow-loss stop takes. -/
theorem halts_stopUnit (latch : e.latch = true) (w : Work) (l : LadderId) (p : Nat) :
    ∃ H, w.Halts e H (w.stopUnit e l p) ∧
      (∀ m n, H m n = true → m = l ∧ n = p ∨ m = .chiller ∧ (w.unit .chiller n).any (·.stoppable) = true) ∧
      ((w.unit l p).isSome = true → H l p = true) := by
  unfold Work.stopUnit
  split
  next none_there =>
    refine ⟨_, halts_refl w, (fun _ _ h => by cases h), fun h => ?_⟩
    rw [none_there] at h
    cases h
  next u unit =>
    have stopped := halts_stopOne w e l p
    have left : (w.stopOne e l p).afterLeaving e l u = (w.stopOne e l p).flowLost e l u := by
      rw [afterLeaving_eq, tryUp_latched latch]
      exact ite_self _
    rw [left]
    unfold Work.flowLost
    split
    · rw [flowLoss_latched _ latch]
      refine ⟨_, stopped.trans (halts_flowStops _ e), fun m n h => ?_, fun _ => by simp⟩
      rcases Bool.or_eq_true_iff.mp h with one | flow
      · exact .inl (of_decide_eq_true one)
      · obtain ⟨chiller, able⟩ := Bool.and_eq_true_iff.mp flow
        exact .inr ⟨of_decide_eq_true chiller, (stopped.stoppable_back able).1⟩
    · exact ⟨_, stopped, fun m n h => .inl (of_decide_eq_true h), fun _ => by simp⟩

/-- The units of a list taken to STOPPING, under the latch. -/
theorem halts_stopUnits (latch : e.latch = true) (ps : List Nat) (w : Work) (l : LadderId) :
    ∃ H, w.Halts e H (ps.foldl (fun v p => v.stopUnit e l p) w) ∧
      (∀ m n, H m n = true → m = l ∧ n ∈ ps ∨ m = .chiller ∧ (w.unit .chiller n).any (·.stoppable) = true) ∧
      ∀ n ∈ ps, (w.unit l n).isSome = true → H l n = true := by
  induction ps generalizing w with
  | nil => exact ⟨_, halts_refl w, (fun _ _ h => by cases h), (fun _ h => by cases h)⟩
  | cons p ps ih =>
    obtain ⟨H, one, within, self⟩ := halts_stopUnit latch w l p
    obtain ⟨K, rest, within', all⟩ := ih (w.stopUnit e l p)
    refine ⟨_, one.trans rest, fun m n h => ?_, fun n hn loaded => ?_⟩
    · rcases Bool.or_eq_true_iff.mp h with first | later
      · exact (within m n first).imp (fun ⟨hm, hn⟩ => ⟨hm, hn ▸ List.mem_cons_self⟩) id
      · exact (within' m n later).imp (fun ⟨hm, hn⟩ => ⟨hm, List.mem_cons_of_mem _ hn⟩)
          fun ⟨hm, able⟩ => ⟨hm, (one.stoppable_back able).1⟩
    · rcases List.mem_cons.mp hn with rfl | later
      · exact Bool.or_eq_true_iff.mpr (.inl (self loaded))
      · refine Bool.or_eq_true_iff.mpr (.inr (all n later ?_))
        rw [one.unit, Option.isSome_map]
        exact loaded

theorem isSome_of_stoppable {o : Option PlantUnit} (h : o.any (·.stoppable) = true) : o.isSome = true := by
  cases o with
  | none => cases h
  | some u => rfl

/-- Live and under the latch, the stop takes every unit in STARTING, RUNNING or HAND. -/
theorem halts_stopAll (live : e.shadow = false) (latch : e.latch = true) (w : Work) :
    w.Halts e (fun m n => (w.unit m n).any (·.stoppable)) (w.stopAll e) := by
  obtain ⟨H, pumps, within, all⟩ := halts_stopUnits latch w.seq.pumps.stoppables w .pump
  have split : w.stopAll e = (w.seq.pumps.stoppables.foldl (fun v p => v.stopUnit e .pump p) w).seq.chillers.stoppables.foldl
      (fun v p => v.stopUnit e .chiller p) (w.seq.pumps.stoppables.foldl (fun v p => v.stopUnit e .pump p) w) :=
    if_neg (by simp [live])
  rw [split]
  generalize w.seq.pumps.stoppables.foldl (fun v p => v.stopUnit e .pump p) w = v at pumps
  obtain ⟨K, chillers, within', all'⟩ := halts_stopUnits latch v.seq.chillers.stoppables v .chiller
  have able : ∀ n, n ∈ v.seq.chillers.stoppables → (w.unit .chiller n).any (·.stoppable) = true := fun n hn =>
    (pumps.stoppable_back (m := .chiller) ((mem_stoppables_iff _ n).mp hn)).1
  refine (pumps.trans chillers).congr fun m n => ?_
  rw [Bool.eq_iff_iff, Bool.or_eq_true]
  constructor
  · rintro (first | later)
    · rcases within m n first with ⟨rfl, hn⟩ | ⟨rfl, h⟩
      · exact (mem_stoppables_iff _ n).mp hn
      · exact h
    · rcases within' m n later with ⟨rfl, hn⟩ | ⟨rfl, h⟩
      · exact able n hn
      · exact (pumps.stoppable_back h).1
  · intro h
    cases m with
    | pump => exact .inl (all n ((mem_stoppables_iff w.seq.pumps n).mpr h) (isSome_of_stoppable h))
    | chiller =>
      cases hH : H .chiller n with
      | true => exact .inl rfl
      | false =>
        have same := pumps.unit_of_false hH
        rw [← same] at h
        exact .inr (all' n ((mem_stoppables_iff v.seq.chillers n).mpr h) (isSome_of_stoppable h))

/-- Under the latch, while pumps are stopped one by one, either one still serves and the chillers stand, or the flow-loss
stop has been noted. -/
def Work.FlowWatch (w₀ w : Work) : Prop :=
  (w.seq.pumps.serves = true ∧ w.seq.chillers = w₀.seq.chillers) ∨ w₀.flowNote ∈ w.out

theorem flowWatch_stopUnit (latch : e.latch = true) {w₀ : Work} (h : w₀.FlowWatch w) (p : Nat) :
    w₀.FlowWatch (w.stopUnit e .pump p) := by
  rcases h with ⟨serves, chillers⟩ | noted
  · unfold Work.stopUnit
    split
    · exact .inl ⟨serves, chillers⟩
    next u unit =>
      have stands : (w.stopOne e .pump p).seq.chillers = w₀.seq.chillers :=
        (ladder_stopOne_other (m := .chiller) (by simp)).trans chillers
      have left : (w.stopOne e .pump p).afterLeaving e .pump u = (w.stopOne e .pump p).flowLost e .pump u := by
        rw [afterLeaving_eq, tryUp_latched latch]
        exact ite_self _
      rw [left]
      unfold Work.flowLost
      split
      · right
        rw [flowLoss_latched _ latch]
        have note : w₀.flowNote = (w.stopOne e .pump p).flowNote := by
          unfold Work.flowNote
          rw [stands]
        rw [note]
        exact flowNote_mem _ e
      next kept =>
        refine .inl ⟨?_, stands⟩
        by_cases own : u.inService = true
        · simpa [own] using kept
        · obtain ⟨k, y, hy, hs⟩ := (serves_iff _).mp serves
          have other : k ≠ p := by
            rintro rfl
            have same : w.unit .pump k = some y := hy
            rw [unit] at same
            exact own (Option.some.inj same ▸ hs)
          exact (serves_iff _).mpr ⟨k, y, (unit_stopOne_other (l := .pump) other).trans hy, hs⟩
  · obtain ⟨H, halts, -⟩ := halts_stopUnit latch w .pump p
    exact .inr (halts.out noted)

/-- Under the latch and with a pump in service, the stop of every unit notes the flow-loss stop. -/
theorem flowNote_stopAll (live : e.shadow = false) (latch : e.latch = true) (serves : w.seq.pumps.serves = true) :
    w.flowNote ∈ (w.stopAll e).out := by
  have watch : ∀ (ps : List Nat) (v : Work), w.FlowWatch v → w.FlowWatch (ps.foldl (fun v p => v.stopUnit e .pump p) v) := by
    intro ps
    induction ps with
    | nil => exact fun v h => h
    | cons p ps ih => exact fun v h => ih _ (flowWatch_stopUnit latch h p)
  obtain ⟨H, pumps, -, all⟩ := halts_stopUnits latch w.seq.pumps.stoppables w .pump
  have watched := watch w.seq.pumps.stoppables w (.inl ⟨serves, rfl⟩)
  have split : w.stopAll e = (w.seq.pumps.stoppables.foldl (fun v p => v.stopUnit e .pump p) w).seq.chillers.stoppables.foldl
      (fun v p => v.stopUnit e .chiller p) (w.seq.pumps.stoppables.foldl (fun v p => v.stopUnit e .pump p) w) :=
    if_neg (by simp [live])
  rw [split]
  generalize w.seq.pumps.stoppables.foldl (fun v p => v.stopUnit e .pump p) w = v at pumps watched
  have unserved : ¬ v.seq.pumps.serves = true := by
    intro still
    obtain ⟨k, y, hy, hs⟩ := (serves_iff _).mp still
    have able : (v.unit .pump k).any (·.stoppable) = true := by
      rw [show v.unit .pump k = some y from hy]
      exact stoppable_of_needsFlow (needsFlow_of_inService hs)
    obtain ⟨was, free⟩ := pumps.stoppable_back able
    rw [all k ((mem_stoppables_iff w.seq.pumps k).mpr was) (isSome_of_stoppable was)] at free
    cases free
  obtain ⟨K, chillers, -⟩ := halts_stopUnits latch v.seq.chillers.stoppables v .chiller
  exact chillers.out (watched.resolve_left fun h => unserved h.1)

end

/-! ## The latch set (10, R164) -/

/-- What the setting of the STOP latch does to the units. -/
def State.LatchStops (s t : State) : Prop :=
  (s.fc.shadow = true → ∀ l, t.seq.ladder l = s.seq.ladder l) ∧
  (s.fc.shadow = false → s.seq.pumps.serves = true →
    s.Appends t ⟨s.fc.count, s.fc.position, ⟨.flowLossStop, 200, s.stoppableChillers⟩⟩) ∧
  (s.fc.shadow = false → ∀ l m,
    (∀ u, s.unit? l m = some u → u.stoppable = true →
      ∃ u', t.unit? l m = some u' ∧ u'.state = .stopping ∧
        u'.next = some ⟨.stop, s.setpointFor l⟩ ∧ u'.prove = .idle ∧ u'.run = .idle ∧
        u'.stop = .counting (s.seq.ladder l).periods.stop (s.seq.ladder l).periods.stop 1 ∧
        m ∉ (t.seq.ladder l).stack) ∧
    (∀ u, s.unit? l m = some u → u.stoppable = false → t.unit? l m = some u) ∧
    (s.unit? l m = none → t.unit? l m = none))

theorem latchStops_stopAll {s : State} (latch : s.inputs.stopLatch = true) :
    s.LatchStops (s.after (Work.stopAll s.seqEnv ⟨s.seq, []⟩)) := by
  refine ⟨fun shadow l => ?_, fun live serves => ?_, fun live l m => ?_⟩
  · rw [stopAll_of_shadow shadow]
    rfl
  · have noted := flowNote_stopAll (e := s.seqEnv) (w := ⟨s.seq, []⟩) live latch serves
    have note : (⟨s.seq, []⟩ : Work).flowNote = ⟨.flowLossStop, 200, s.stoppableChillers⟩ := by
      unfold Work.flowNote State.stoppableChillers
      rw [stoppables_length]
      rfl
    rw [note] at noted
    exact notes_appends (s := { s with seq := (Work.stopAll s.seqEnv ⟨s.seq, []⟩).seq }) noted
  · have halts := halts_stopAll (e := s.seqEnv) live latch ⟨s.seq, []⟩
    have unit := halts.unit l m
    refine ⟨fun u loaded able => ?_, fun u loaded rests => ?_, fun empty => ?_⟩
    · have here : (⟨s.seq, []⟩ : Work).unit l m = some u := loaded
      rw [here] at unit
      refine ⟨u.stopped (s.seq.ladder l).periods (s.setpointFor l), ?_, rfl, rfl, rfl, rfl, rfl, ?_⟩
      · rw [← setpoint_seqEnv]
        exact unit.trans (congrArg some (if_pos able))
      · have stack := congrArg Ladder.stack (halts.ladder l)
        intro mem
        rw [show ((s.after (Work.stopAll s.seqEnv ⟨s.seq, []⟩)).seq.ladder l).stack = _ from stack] at mem
        have kept := (List.mem_filter.mp mem).2
        rw [here] at kept
        simp [able] at kept
    · have here : (⟨s.seq, []⟩ : Work).unit l m = some u := loaded
      rw [here] at unit
      exact unit.trans (congrArg some (if_neg (by simp [rests])))
    · have here : (⟨s.seq, []⟩ : Work).unit l m = none := empty
      rw [here] at unit
      exact unit

end Sys2Proof.Machine

/-! The STOP latch set by an edge and by CHANNEL_SET (10, R164), and GO_LIVE (07, R131). -/

namespace Sys2Proof.Machine

section
variable {r s t : State}

/-- The same, seen from before the work that set the latch. -/
theorem State.LatchStops.from (h : s.LatchStops t) (ladders : ∀ l, s.seq.ladder l = r.seq.ladder l) (fc : s.fc = r.fc)
    (limits : s.limits = r.limits) (press : s.press = r.press)
    {rs : List EventRecord} (told : s.events = rs.foldl EventList.append r.events) : r.LatchStops t := by
  obtain ⟨shadow, noted, units⟩ := h
  have unit : ∀ l m, s.unit? l m = r.unit? l m := fun l m => congrArg (Ladder.unitAt · m) (ladders l)
  have setpoint : ∀ l, s.setpointFor l = r.setpointFor l := by
    intro l
    unfold State.setpointFor
    rw [limits, press]
  have chillers : s.seq.chillers = r.seq.chillers := ladders .chiller
  have pumps : s.seq.pumps = r.seq.pumps := ladders .pump
  have count : s.stoppableChillers = r.stoppableChillers := by
    unfold State.stoppableChillers
    rw [chillers]
  rw [fc] at shadow noted units
  rw [count, pumps] at noted
  refine ⟨fun on l => (shadow on l).trans (ladders l), fun live serves => Appends_after rs told (noted live serves),
    fun live l m => ?_⟩
  have here := units live l m
  rw [unit, setpoint, ladders] at here
  exact here

theorem setLatch_of_clear (clear : s.inputs.stopLatch = false) (n : Nat) (d : Int) :
    s.setLatch n d = (({ s with inputs := { s.inputs with stopLatch := true } } : State).notes
      [⟨.stopLatchOn, channelSubject n, d⟩]).sequence fun e w => w.stopAll e :=
  if_neg (by simp [clear])

/-- The latch set on a clear latch. -/
theorem setLatch_stops (clear : s.inputs.stopLatch = false) (n : Nat) (d : Int) :
    ∃ (t : State) (rs : List EventRecord), s.setLatch n d = t ∧
      t = { s with inputs := { s.inputs with stopLatch := true }, seq := t.seq, events := t.events } ∧
      t.events = rs.foldl EventList.append (s.notes [⟨.stopLatchOn, channelSubject n, d⟩]).events ∧ s.LatchStops t := by
  have stops := latchStops_stopAll (s := ({ s with inputs := { s.inputs with stopLatch := true } } : State).notes
    [⟨.stopLatchOn, channelSubject n, d⟩]) rfl
  rw [setLatch_of_clear clear, sequence_eq]
  generalize Work.stopAll _ _ = x at stops
  refine ⟨_, x.out.map fun n => ⟨s.fc.count, s.fc.position, n⟩, rfl, rfl, List.foldl_map.symm, ?_⟩
  exact stops.from (r := s) (fun _ => rfl) rfl rfl rfl (rs := [⟨s.fc.count, s.fc.position, ⟨.stopLatchOn, channelSubject n, d⟩⟩])
    rfl

end

/-- A captured edge of a STOP_ALL channel whose input becomes active, the latch clear. -/
theorem takeLevel_stops {s : State} {n : Nat} {c : Channel} {high : Bool} {position : Option Nat}
    (channel : s.inputs.channel n = some c) (changed : c.level ≠ high) (captured : c.edge.captures high = true)
    (stops : c.action = .stopAll) (active : ({ c with level := high } : Channel).active = true) :
    takeLevel n high position s =
      ((({ s with inputs := s.inputs.setChannel n (c.captured s.fc.count position high) } : State).notes
        [⟨.capture, channelSubject n, captureDetail c high⟩]).updateHold).setLatch n 1 := by
  unfold takeLevel
  rw [channel]
  dsimp only
  rw [if_neg changed, if_pos captured]
  exact if_pos ⟨stops, active⟩

/-- Such an edge takes the level, sets the latch and stops every unit. -/
theorem takeLevel_latches {s : State} {n : Nat} {c : Channel} {high : Bool} {position : Option Nat}
    (clear : s.inputs.stopLatch = false) (channel : s.inputs.channel n = some c) (changed : c.level ≠ high)
    (captured : c.edge.captures high = true) (stops : c.action = .stopAll)
    (active : ({ c with level := high } : Channel).active = true) :
    ∃ (t : State) (rs : List EventRecord), takeLevel n high position s = t ∧
      t = { s with
        inputs := { s.inputs.setChannel n (c.captured s.fc.count position high) with stopLatch := true },
        seq := t.seq, events := t.events } ∧
      t.events = rs.foldl EventList.append (s.notes
        [⟨.capture, channelSubject n, captureDetail c high⟩, ⟨.stopLatchOn, channelSubject n, 1⟩]).events ∧
      s.LatchStops t := by
  rw [takeLevel_stops channel changed captured stops active]
  generalize hu : (({ s with inputs := s.inputs.setChannel n (c.captured s.fc.count position high) } : State).notes
    [⟨.capture, channelSubject n, captureDetail c high⟩]).updateHold = u
  have clear' : u.inputs.stopLatch = false := hu ▸ clear
  obtain ⟨t, rs, set, frame, told, halted⟩ := setLatch_stops clear' n 1
  refine ⟨t, rs, set, ?_, ?_, ?_⟩
  · rw [frame, ← hu]
    rfl
  · rw [told, ← hu]
    rfl
  · exact halted.from (fun l => hu ▸ (by cases l <;> rfl)) (hu ▸ rfl) (hu ▸ rfl) (hu ▸ rfl)
      (rs := [⟨s.fc.count, s.fc.position, ⟨.capture, channelSubject n, captureDetail c high⟩⟩]) (hu ▸ rfl)

/-- Settles O47: the latch set after the edge's work, and after the channel's. -/
theorem stopLatchStopsAll : Obligations.StopLatchStopsAll := by
  intro s released clear
  refine ⟨fun n high c lo hi channel changed captured action active => ?_, fun tag n ec ac c e ready channel edge action active => ?_⟩
  · obtain ⟨t, rs, taken, frame, told, stops⟩ :=
      takeLevel_latches (s := { s with inputs := { s.inputs with pins := s.inputs.pins.set (n - 1) high } })
        (position := some s.fc.position) clear channel changed captured action active
    refine ⟨t, rs, ?_, ?_, ?_, ?_, told, ?_⟩
    · rw [exec_inputEdge lo (by omega), inputEdge_of_released released, if_neg (by omega), taken]
    · rw [frame]
    · rw [frame]
      rfl
    · rw [frame]
    · exact stops.from (fun _ => rfl) rfl rfl rfl (rs := []) rfl
  · obtain ⟨t, rs, set, frame, told, stops⟩ := setLatch_stops
      (s := ({ s with inputs := s.inputs.setChannel n.toNat { c with edge := e, action := .stopAll } } : State).updateHold)
      clear n.toNat 2
    have served : serveChannelSet .panel n ec ac s = (t, ⟨.done, []⟩) := by
      unfold serveChannelSet
      rw [channel]
      dsimp only
      rw [edge, action]
      dsimp only
      rw [if_neg (by simp), ← set]
      exact congrArg (·, _) (if_pos ⟨rfl, active⟩)
    refine ⟨t, rs, request_serves ready served, ?_, ?_, ?_, told, ?_⟩
    · rw [frame]
      rfl
    · rw [frame]
      rfl
    · rw [frame]
      rfl
    · exact stops.from (fun l => by cases l <;> rfl) rfl rfl rfl (rs := []) rfl

/-! ## GO_LIVE (07, R131) -/

theorem hasRunning_iff (L : Ladder) : L.hasRunning = true ↔ ∃ u, some u ∈ L.units ∧ u.state = .running := by
  unfold Ladder.hasRunning
  rw [any_units_iff]
  constructor
  · rintro ⟨p, u, hu, running⟩
    exact ⟨u, (mem_units_iff L).mpr ⟨p, hu⟩, of_decide_eq_true running⟩
  · rintro ⟨u, hu, running⟩
    obtain ⟨p, hp⟩ := (mem_units_iff L).mp hu
    exact ⟨p, u, hp, decide_eq_true running⟩

/-- The sequencer with every RUN timer started and no intent. -/
def Sequencer.live (q : Sequencer) : Sequencer := { q with chillers := q.chillers.goLive, pumps := q.pumps.goLive }

theorem ladder_live (q : Sequencer) (l : LadderId) : q.live.ladder l = (q.ladder l).goLive := by cases l <;> rfl

theorem unitAt_goLive (L : Ladder) (n : Nat) :
    L.goLive.unitAt n = (L.unitAt n).map (PlantUnit.goLive L.periods.run) := unitAt_map L _ n

theorem goLive_of_clear {s : State} (clear : s.inputs.stopLatch = false) :
    goLive s = { s with fc := { s.fc with shadow := false }, seq := s.seq.live } := by
  have work : goLive s = ({ s with fc := { s.fc with shadow := false } } : State).after
      (if s.inputs.stopLatch then Work.stopAll _ ⟨s.seq.live, []⟩ else ⟨s.seq.live, []⟩) := rfl
  rw [work, clear]
  rfl

theorem goLive_of_latched {s : State} (latch : s.inputs.stopLatch = true) :
    goLive s = ({ s with fc := { s.fc with shadow := false } } : State).after
      (Work.stopAll ({ s with fc := { s.fc with shadow := false } } : State).seqEnv ⟨s.seq.live, []⟩) := by
  have work : goLive s = ({ s with fc := { s.fc with shadow := false } } : State).after
      (if s.inputs.stopLatch then
        Work.stopAll ({ s with fc := { s.fc with shadow := false } } : State).seqEnv ⟨s.seq.live, []⟩
      else ⟨s.seq.live, []⟩) := rfl
  rw [work, latch]
  rfl

/-- A unit that was stopped is off its stack. -/
theorem Work.Halts.not_mem_stack {e : SeqEnv} {w v : Work} {l : LadderId} {n : Nat} {u : PlantUnit}
    (halts : w.Halts e (fun m n => (w.unit m n).any (·.stoppable)) v) (unit : w.unit l n = some u)
    (able : u.stoppable = true) : n ∉ (v.seq.ladder l).stack := by
  rw [halts.ladder l]
  intro mem
  have kept := (List.mem_filter.mp mem).2
  rw [unit] at kept
  simp [able] at kept

/-- Settles O23: the timers and intents, and under the latch the stop of every unit. -/
theorem goLiveStartsRunTimers : Obligations.GoLiveStartsRunTimers := by
  intro tag s ready
  have chillers := hasRunning_iff s.seq.chillers
  have pumps := hasRunning_iff s.seq.pumps
  refine ⟨fun live => request_serves ready ?_, fun shadow some_chiller no_pump => request_serves ready ?_,
    fun shadow may => ?_⟩
  · unfold serveGoLive
    rw [if_neg (by simp), live]
    rfl
  · have bars : (s.seq.chillers.hasRunning && !s.seq.pumps.hasRunning) = true := by
      have idle : s.seq.pumps.hasRunning = false := by
        rw [Bool.eq_false_iff, ne_eq, pumps]
        rintro ⟨u, hu, running⟩
        exact no_pump u hu running
      rw [chillers.mpr some_chiller, idle]
      rfl
    unfold serveGoLive
    rw [if_neg (by simp), shadow, if_neg (by simp)]
    exact if_pos bars
  · have free : ¬ (s.seq.chillers.hasRunning && !s.seq.pumps.hasRunning) = true := by
      rw [Bool.and_eq_true, chillers]
      rintro ⟨⟨u, hu, running⟩, idle⟩
      rcases may with no_chiller | some_pump
      · exact no_chiller u hu running
      · rw [pumps.mpr some_pump] at idle
        cases idle
    have served : serveGoLive .panel s = (goLive s, ⟨.done, []⟩) := by
      unfold serveGoLive
      rw [if_neg (by simp), shadow, if_neg (by simp)]
      exact if_neg free
    refine ⟨goLive s, request_serves ready served, ?_, fun clear => ?_, fun latch => ?_, fun latch l n u loaded able => ?_⟩
    · cases latch : s.inputs.stopLatch with
      | false => rw [goLive_of_clear latch]; rfl
      | true => rw [goLive_of_latched latch]; rfl
    · rw [goLive_of_clear clear]
      refine ⟨rfl, rfl, rfl, fun l => ⟨?_, fun n => ?_⟩⟩
      · cases l <;> rfl
      · exact (congrArg (Ladder.unitAt · n) (ladder_live s.seq l)).trans (unitAt_goLive _ n)
    · rw [goLive_of_latched latch]
      refine ⟨rfl, fun l n => ?_⟩
      have halts := halts_stopAll (e := ({ s with fc := { s.fc with shadow := false } } : State).seqEnv) rfl latch
        ⟨s.seq.live, []⟩
      have unit := halts.unit l n
      have live : (⟨s.seq.live, []⟩ : Work).unit l n = (s.unit? l n).map (PlantUnit.goLive (s.seq.ladder l).periods.run) :=
        (congrArg (Ladder.unitAt · n) (ladder_live s.seq l)).trans (unitAt_goLive _ n)
      have periods : ((⟨s.seq.live, []⟩ : Work).seq.ladder l).periods = (s.seq.ladder l).periods := by cases l <;> rfl
      rw [live, periods] at unit
      refine unit.trans ?_
      rw [setpoint_seqEnv]
      cases hu : s.unit? l n with
      | none => rfl
      | some u =>
        have same : (u.goLive (s.seq.ladder l).periods.run).stoppable = u.stoppable := rfl
        by_cases able : u.stoppable = true
        · exact congrArg some ((if_pos (same.trans able)).trans (if_pos able).symm)
        · have notRunning : ¬ u.state = .running := by
            intro running
            unfold PlantUnit.stoppable at able
            rw [running] at able
            exact able rfl
          have kept : u.goLive (s.seq.ladder l).periods.run = { u with intent := none } := by
            unfold PlantUnit.goLive
            rw [if_neg notRunning]
          exact congrArg some (((if_neg (c := (u.goLive (s.seq.ladder l).periods.run).stoppable = true) able).trans kept).trans (if_neg able).symm)
    · rw [goLive_of_latched latch]
      have halts := halts_stopAll (e := ({ s with fc := { s.fc with shadow := false } } : State).seqEnv) rfl latch
        ⟨s.seq.live, []⟩
      have live : (⟨s.seq.live, []⟩ : Work).unit l n = some (u.goLive (s.seq.ladder l).periods.run) :=
        ((congrArg (Ladder.unitAt · n) (ladder_live s.seq l)).trans (unitAt_goLive _ n)).trans (congrArg (Option.map _) loaded)
      exact halts.not_mem_stack live able

end Sys2Proof.Machine

/-! A frame that completes in an open reply window (02, R33, R34): judged, counted and taken. -/

namespace Sys2Proof.Machine

/-! ## The judgement of a whole frame (12, R182) -/

section
variable {a k c1 c2 : Octet} {os : List Octet}

theorem oct_self (a : Octet) : oct a.toNat = a := BitVec.ofNat_toNat .. |>.trans (BitVec.setWidth_eq a)

/-- A frame of five octets and its payload is good when it is the payload's own frame, a REPLY, from the station polled. -/
theorem judgeField_whole (short : os.length ≤ 32) (address : Nat) :
    judgeField address (a :: k :: oct os.length :: os ++ [c1, c2]) =
      if withCrc (a :: k :: oct os.length :: os) = a :: k :: oct os.length :: os ++ [c1, c2] ∧ k = 4 ∧ a.toNat = address
      then .good os else .miss := by
  have length : (oct os.length).toNat = os.length := oct_toNat (by omega)
  have all : (os ++ [c1, c2]).take (os.length + 2) = os ++ [c1, c2] := List.take_of_length_le (by simp)
  have payload : (os ++ [c1, c2]).take os.length = os := List.take_left' rfl
  change judgeField address (a :: k :: oct os.length :: (os ++ [c1, c2])) = _
  unfold judgeField
  dsimp only
  rw [length, all, payload, if_neg (show ¬ maxPayload < os.length from Nat.not_lt.mpr short), if_neg (by simp)]
  simp only [Bool.and_eq_true, decide_eq_true_eq, and_assoc]
  rfl

theorem fieldFrame_eq (a : Octet) (k : Octet) (os : List Octet) :
    fieldFrame a.toNat k os = a :: k :: oct os.length :: os ++
      [hi (crc16 (a :: k :: oct os.length :: os)), lo (crc16 (a :: k :: oct os.length :: os))] := by
  unfold fieldFrame
  rw [oct_self]
  rfl

theorem judgeField_good {address : Nat} (short : os.length ≤ 32) (octet : address ≤ 255) :
    judgeField address (fieldFrame address 4 os) = .good os := by
  have here : (oct address).toNat = address := oct_toNat octet
  have frame := fieldFrame_eq (oct address) 4 os
  rw [here] at frame
  rw [frame, judgeField_whole short, if_pos ⟨rfl, rfl, here⟩]

theorem judgeField_other {address : Nat} (short : os.length ≤ 32) (other : k ≠ 4 ∨ a.toNat ≠ address) :
    judgeField address (fieldFrame a.toNat k os) = .miss := by
  rw [fieldFrame_eq, judgeField_whole short, if_neg]
  rintro ⟨-, kind, polled⟩
  rcases other with h | h
  · exact h kind
  · exact h polled

theorem judgeField_corrupt {address : Nat} (short : os.length ≤ 32)
    (corrupt : a :: k :: oct os.length :: os ++ [c1, c2] ≠ fieldFrame a.toNat k os) :
    judgeField address (a :: k :: oct os.length :: os ++ [c1, c2]) = .miss := by
  rw [judgeField_whole short, if_neg]
  rintro ⟨whole, -⟩
  refine corrupt (whole.symm.trans ?_)
  rw [fieldFrame_eq]
  rfl

end

/-! ## The taking (02, R33, R34) -/

section
variable {s t : State} {w : Window} {os payload : List Octet}

theorem fieldReply_miss (window : s.fc.window = some w) (waits : w.verdict = .waiting)
    (judged : judgeField w.address os = .miss) :
    fieldReply os s = { s with fc := { s.fc with window := some { w with verdict := .miss } } } := by
  unfold fieldReply
  rw [window]
  dsimp only
  rw [waits]
  dsimp only
  rw [judged]
  rfl

theorem fieldReply_good (window : s.fc.window = some w) (waits : w.verdict = .waiting)
    (judged : judgeField w.address os = .good payload) : fieldReply os s = takeGood w payload s := by
  unfold fieldReply
  rw [window]
  dsimp only
  rw [waits]
  dsimp only
  rw [judged]

/-- The state `t` with the reply counted and the window's verdict. -/
def State.tallied (s : State) (w : Window) (t : State) (v : Verdict) : State :=
  { t with fc := { s.fc with good := s.fc.good + 1, window := some { w with verdict := v } } }

/-- The part with one good reply more. -/
def State.counted (s : State) : State := { s with fc := { s.fc with good := s.fc.good + 1 } }

theorem takeGood_eq (w : Window) (payload : List Octet) (s : State) : takeGood w payload s =
    ((handReply s.counted payload w.target).map fun t => t.setVerdict w (.good payload)).getD
      (s.counted.setVerdict w .miss) := by
  unfold takeGood State.counted
  dsimp only
  split
  next t h => rw [h]; rfl
  next h => rw [h]; rfl

theorem takeGood_rejected (h : handReply s.counted payload w.target = none) :
    takeGood w payload s = s.tallied w s .miss := by
  rw [takeGood_eq, h]
  rfl

theorem takeGood_taken (h : handReply s.counted payload w.target = some t) (fc : t.fc = s.counted.fc) :
    takeGood w payload s = s.tallied w t (.good payload) := by
  rw [takeGood_eq, h]
  unfold State.setVerdict
  rw [Option.map_some, Option.getD_some, fc]
  rfl

/-- A good frame in an open window. -/
theorem exec_good (released : s.rst = false) (window : s.fc.window = some w) (waits : w.verdict = .waiting)
    (octet : w.address ≤ 255) (short : payload.length ≤ 32) :
    exec (.fieldReplyReceived (fieldFrame w.address 4 payload)) s = .next (takeGood w payload s) := by
  rw [exec_released_fieldReply released, fieldReply_good window waits (judgeField_good short octet)]

end

/-! ## What a payload says (12, R183) -/

/-- A station after a reply of status OK, LOCAL or FAULT. -/
def Station.heard {α : Type} (st : Octet) (v : α) (x : Station α) : Station α :=
  if st = 2 then { x with faultMark := true } else { x with cycle := some ⟨decide (st = 1), v⟩ }

theorem octet_eq_iff (o : Octet) (n : Nat) (h : n < 256) : o = BitVec.ofNat 8 n ↔ o.toNat = n := by
  rw [← BitVec.toNat_inj, BitVec.toNat_ofNat, Nat.mod_eq_of_lt (by omega)]

theorem stationReply_taken {α : Type} {st : Octet} (h : st.toNat ≤ 2) (v : α) :
    ∃ r, stationReply st v = some r ∧ ∀ x : Station α, x.takeReply r = x.heard st v := by
  have cases : st = 0 ∨ st = 1 ∨ st = 2 := by
    have zero := octet_eq_iff st 0 (by omega)
    have one := octet_eq_iff st 1 (by omega)
    have two := octet_eq_iff st 2 (by omega)
    have : st.toNat = 0 ∨ st.toNat = 1 ∨ st.toNat = 2 := by omega
    exact this.imp zero.mpr fun h => h.imp one.mpr two.mpr
  rcases cases with rfl | rfl | rfl
  · exact ⟨_, rfl, fun _ => rfl⟩
  · exact ⟨_, rfl, fun _ => rfl⟩
  · exact ⟨_, rfl, fun _ => rfl⟩

theorem stationReply_undefined {α : Type} {st : Octet} (h : 3 ≤ st.toNat) (v : α) : stationReply st v = none := by
  unfold stationReply
  split
  next z => omega
  next z => omega
  next z => omega
  · rfl

theorem consumerReply_octets (st : Octet) {ts tr q dpb v : Nat} (hts : ts < 65536) (htr : tr < 65536) (hq : q < 65536)
    (hd : dpb < 65536) (hv : v < 65536) :
    consumerReply (st :: (be 2 ts ++ be 2 tr ++ be 2 q ++ be 2 dpb ++ be 2 v)) =
      stationReply st ⟨min 3000 ts, min 3000 tr, q, .consumer (min 10000 dpb) (min 1000 v)⟩ := by
  change stationReply st (⟨min 3000 (ofBe (be 2 ts)), min 3000 (ofBe (be 2 tr)), ofBe (be 2 q),
    .consumer (min 10000 (ofBe (be 2 dpb))) (min 1000 (ofBe (be 2 v)))⟩ : BranchValues) = _
  rw [ofBe_be (by omega), ofBe_be (by omega), ofBe_be (by omega), ofBe_be (by omega), ofBe_be (by omega)]

theorem consumerReply_misfit {os : List Octet} (h : os.length ≠ 11) : consumerReply os = none := by
  unfold consumerReply
  split
  · exact absurd rfl h
  · rfl

theorem direction_ofCode {dir : Octet} (h : dir.toNat ≤ 2) : Direction.ofCode dir =
    some (if dir = 0 then .idle else if dir = 1 then .charging else .discharging) := by
  have cases : dir = 0 ∨ dir = 1 ∨ dir = 2 := by
    have zero := octet_eq_iff dir 0 (by omega)
    have one := octet_eq_iff dir 1 (by omega)
    have two := octet_eq_iff dir 2 (by omega)
    have : dir.toNat = 0 ∨ dir.toNat = 1 ∨ dir.toNat = 2 := by omega
    exact this.imp zero.mpr fun h => h.imp one.mpr two.mpr
  rcases cases with rfl | rfl | rfl <;> rfl

theorem direction_undefined {dir : Octet} (h : 3 ≤ dir.toNat) : Direction.ofCode dir = none := by
  unfold Direction.ofCode
  split
  next z => omega
  next z => omega
  next z => omega
  · rfl

/-- The octets of a STORAGE payload, read up to the direction. -/
theorem storageReply_octets (st dir : Octet) {ts tr q : Nat} (hts : ts < 65536) (htr : tr < 65536) (hq : q < 65536) :
    storageReply (st :: (be 2 ts ++ be 2 tr ++ be 2 q ++ [dir])) =
      (Direction.ofCode dir).bind fun x => stationReply st ⟨min 3000 ts, min 3000 tr, q, .storage x⟩ := by
  have read : storageReply (st :: (be 2 ts ++ be 2 tr ++ be 2 q ++ [dir])) =
      (Direction.ofCode dir).bind fun x =>
        stationReply st ⟨min 3000 (ofBe (be 2 ts)), min 3000 (ofBe (be 2 tr)), ofBe (be 2 q), .storage x⟩ := by
    change (match Direction.ofCode dir with
      | none => none
      | some x => stationReply st _) = _
    cases Direction.ofCode dir <;> rfl
  rw [read, ofBe_be (by omega), ofBe_be (by omega), ofBe_be (by omega)]

theorem storageReply_misfit {os : List Octet} (h : os.length ≠ 8) : storageReply os = none := by
  unfold storageReply
  split
  · exact absurd rfl h
  · rfl

theorem headerReply_octets (st : Octet) {dph tsup tret q : Nat} (hd : dph < 65536) (hs : tsup < 65536)
    (hr : tret < 65536) (hq : q < 65536) :
    headerReply (st :: (be 2 dph ++ be 2 tsup ++ be 2 tret ++ be 2 q)) =
      stationReply st ⟨min 10000 dph, min 3000 tsup, min 3000 tret, q⟩ := by
  change stationReply st (⟨min 10000 (ofBe (be 2 dph)), min 3000 (ofBe (be 2 tsup)), min 3000 (ofBe (be 2 tret)),
    ofBe (be 2 q)⟩ : HeaderValues) = _
  rw [ofBe_be (by omega), ofBe_be (by omega), ofBe_be (by omega), ofBe_be (by omega)]

theorem headerReply_misfit {os : List Octet} (h : os.length ≠ 9) : headerReply os = none := by
  unfold headerReply
  split
  · exact absurd rfl h
  · rfl

theorem proof_ofCode {o : Octet} (h : o.toNat ≤ 1) : proofOfCode o = some (decide (o = 1)) := by
  have cases : o = 0 ∨ o = 1 := by
    have zero := octet_eq_iff o 0 (by omega)
    have one := octet_eq_iff o 1 (by omega)
    have : o.toNat = 0 ∨ o.toNat = 1 := by omega
    exact this.imp zero.mpr one.mpr
  rcases cases with rfl | rfl <;> rfl

theorem proof_undefined {o : Octet} (h : 2 ≤ o.toNat) : proofOfCode o = none := by
  unfold proofOfCode
  split
  next z => omega
  next z => omega
  · rfl

theorem unitReply_octets (l : LadderId) (st pr : Octet) {v : Nat} (hv : v < 65536) :
    unitReply l (st :: pr :: be 2 v) = (proofOfCode pr).bind fun x =>
      stationReply st ⟨x, min (if l = .chiller then 3000 else 1000) v⟩ := by
  have read : unitReply l (st :: pr :: be 2 v) = (proofOfCode pr).bind fun x =>
      stationReply st ⟨x, min (if l = .chiller then 3000 else 1000) (ofBe (be 2 v))⟩ := by
    change (match proofOfCode pr with
      | none => none
      | some x => stationReply st _) = _
    cases l <;> cases proofOfCode pr <;> rfl
  rw [read, ofBe_be (by omega)]

theorem unitReply_misfit {l : LadderId} {os : List Octet} (h : os.length ≠ 4) : unitReply l os = none := by
  unfold unitReply
  split
  · exact absurd rfl h
  · rfl

/-! ## The owners (01, R13; 06, R102) -/

section
variable {s : State} {os : List Octet}

theorem handReply_branch {i : Nat} {b : Branch} (loaded : s.branch? i = some b) :
    handReply s os (.branch i) =
      (b.judge os).map fun r => s.setBranch i (some { b with station := b.station.takeReply r }) := by
  unfold handReply
  dsimp only
  rw [loaded]

theorem handReply_unit {l : LadderId} {n : Nat} {u : PlantUnit} (loaded : s.unit? l n = some u) :
    handReply s os (.unit l n) =
      (unitReply l os).map fun r => s.setUnit l n (some { u with station := u.station.takeReply r }) := by
  unfold handReply
  dsimp only
  rw [loaded]
  rfl

theorem handReply_header {h : Header} (loaded : s.header = some h) :
    handReply s os .header =
      (headerReply os).map fun r => { s with header := some { h with station := h.station.takeReply r } } := by
  unfold handReply
  dsimp only
  rw [loaded]

/-- A payload for which no record stands is not taken and rejects nothing. -/
theorem handReply_absent {x : WindowTarget} (h : x = .pass ∨ (∃ i, x = .branch i ∧ s.branch? i = none) ∨
    (∃ l n, x = .unit l n ∧ s.unit? l n = none) ∨ (x = .header ∧ s.header = none)) : handReply s os x = some s := by
  rcases h with rfl | ⟨i, rfl, empty⟩ | ⟨l, n, rfl, empty⟩ | ⟨rfl, empty⟩
  · rfl
  all_goals
    unfold handReply
    dsimp only
    rw [empty]

end

/-- Settles O26: the judgement of the frame, then its owner's of the payload. -/
theorem replyJudgedAndTaken : Obligations.ReplyJudgedAndTaken := by
  intro w s released window
  refine ⟨fun judged os => ?_, fun waits => ⟨fun a k os short other => ?_, fun a k c1 c2 os short corrupt => ?_,
    fun octet => ?_⟩⟩
  · rw [exec_released_fieldReply released]
    unfold fieldReply
    rw [window]
    dsimp only
    cases hv : w.verdict with
    | waiting => exact absurd hv judged
    | miss => rfl
    | good payload => rfl
  · rw [exec_released_fieldReply released, fieldReply_miss window waits (judgeField_other short other)]
  · rw [exec_released_fieldReply released, fieldReply_miss window waits (judgeField_corrupt short corrupt)]
  · intro received tallied after
    have good := fun (os : List Octet) (short : os.length ≤ 32) => exec_good (payload := os) released window waits octet short
    have taken : ∀ os t, os.length ≤ 32 → handReply s.counted os w.target = some t → t.fc = s.counted.fc →
        exec (received os) s = .next (s.tallied w t (.good os)) := fun os t short hand fc =>
      (good os short).trans (congrArg Host.Outcome.next (takeGood_taken hand fc))
    have missed : ∀ os, os.length ≤ 32 → handReply s.counted os w.target = none →
        exec (received os) s = .next (tallied s .miss) := fun os short hand =>
      (good os short).trans (congrArg Host.Outcome.next (takeGood_rejected hand))
    refine ⟨fun os short pass => ?_, fun os short absent => ?_, fun i b target loaded consumer => ?_,
      fun i b target loaded tank => ?_, fun h target loaded => ?_, fun l n u target loaded => ?_⟩
    · exact taken os s.counted short (handReply_absent (.inl pass)) rfl
    · exact taken os s.counted short (handReply_absent (.inr absent)) rfl
    · have hand : ∀ os, handReply s.counted os w.target = (consumerReply os).map fun r =>
          s.counted.setBranch i (some { b with station := b.station.takeReply r }) := by
        intro os
        rw [target, handReply_branch (s := s.counted) loaded]
        unfold Branch.judge
        rw [consumer]
        rfl
      refine ⟨fun st ts tr q dpb v hts htr hq hd hv => ?_, fun os short misfit => missed os short ?_⟩
      · intro os values
        have read : consumerReply os = stationReply st values := consumerReply_octets st hts htr hq hd hv
        refine ⟨fun defined => ?_, fun undefined => missed os (Nat.le_of_ble_eq_true rfl) ?_⟩
        · obtain ⟨r, reply, heard⟩ := stationReply_taken defined values
          refine taken os (s.counted.setBranch i (some { b with station := b.station.heard st values }))
            (Nat.le_of_ble_eq_true rfl) ((hand os).trans ?_) rfl
          rw [read, reply, Option.map_some, heard]
        · rw [hand, read, stationReply_undefined undefined]
          rfl
      · rw [hand, consumerReply_misfit misfit]
        rfl
    · have hand : ∀ os, handReply s.counted os w.target = (storageReply os).map fun r =>
          s.counted.setBranch i (some { b with station := b.station.takeReply r }) := by
        intro os
        rw [target, handReply_branch (s := s.counted) loaded]
        unfold Branch.judge
        rw [tank]
        rfl
      refine ⟨fun st dir ts tr q hts htr hq => ?_, fun os short misfit => missed os short ?_⟩
      · intro os direction values
        have read : storageReply os = (Direction.ofCode dir).bind fun x =>
            stationReply st ⟨min 3000 ts, min 3000 tr, q, .storage x⟩ := storageReply_octets st dir hts htr hq
        refine ⟨fun defined known => ?_, fun undefined => missed os (Nat.le_of_ble_eq_true rfl) ?_⟩
        · obtain ⟨r, reply, heard⟩ := stationReply_taken defined values
          have whole : storageReply os = some r := by
            rw [read, direction_ofCode known]
            exact reply
          refine taken os (s.counted.setBranch i (some { b with station := b.station.heard st values }))
            (Nat.le_of_ble_eq_true rfl) ((hand os).trans ?_) rfl
          rw [whole, Option.map_some, heard]
        · have none_read : storageReply os = none := by
            rw [read]
            by_cases known : dir.toNat ≤ 2
            · rw [direction_ofCode known]
              exact stationReply_undefined (undefined.resolve_right (by omega)) values
            · rw [direction_undefined (by omega)]
              rfl
          rw [hand, none_read]
          rfl
      · rw [hand, storageReply_misfit misfit]
        rfl
    · have hand : ∀ os, handReply s.counted os w.target = (headerReply os).map fun r =>
          { s.counted with header := some { h with station := h.station.takeReply r } } := by
        intro os
        rw [target, handReply_header (s := s.counted) loaded]
      refine ⟨fun st dph tsup tret q hd hs hr hq => ?_, fun os short misfit => missed os short ?_⟩
      · intro os values
        have read : headerReply os = stationReply st values := headerReply_octets st hd hs hr hq
        refine ⟨fun defined => ?_, fun undefined => missed os (Nat.le_of_ble_eq_true rfl) ?_⟩
        · obtain ⟨r, reply, heard⟩ := stationReply_taken defined values
          refine taken os { s.counted with header := some { h with station := h.station.heard st values } }
            (Nat.le_of_ble_eq_true rfl) ((hand os).trans ?_) rfl
          rw [read, reply, Option.map_some, heard]
        · rw [hand, read, stationReply_undefined undefined]
          rfl
      · rw [hand, headerReply_misfit misfit]
        rfl
    · have hand : ∀ os, handReply s.counted os w.target = (unitReply l os).map fun r =>
          s.counted.setUnit l n (some { u with station := u.station.takeReply r }) := by
        intro os
        rw [target, handReply_unit (s := s.counted) loaded]
      refine ⟨fun st proof v hv => ?_, fun os short misfit => missed os short ?_⟩
      · intro os values
        have read : unitReply l os = (proofOfCode proof).bind fun x =>
            stationReply st ⟨x, min (if l = .chiller then 3000 else 1000) v⟩ := unitReply_octets l st proof hv
        refine ⟨fun defined known => ?_, fun undefined => missed os (Nat.le_of_ble_eq_true rfl) ?_⟩
        · obtain ⟨r, reply, heard⟩ := stationReply_taken defined values
          have whole : unitReply l os = some r := by
            rw [read, proof_ofCode known]
            exact reply
          refine taken os (s.counted.setUnit l n (some { u with station := u.station.heard st values }))
            (Nat.le_of_ble_eq_true rfl) ((hand os).trans ?_) rfl
          rw [whole, Option.map_some, heard]
        · have none_read : unitReply l os = none := by
            rw [read]
            by_cases known : proof.toNat ≤ 1
            · rw [proof_ofCode known]
              exact stationReply_undefined (undefined.resolve_right (by omega)) values
            · rw [proof_undefined (by omega)]
              rfl
          rw [hand, none_read]
          rfl
      · rw [hand, unitReply_misfit misfit]
        rfl

end Sys2Proof.Machine

/-! The samples of channels 7 and 8 at cycle start (10, R161), as functions of the inputs. -/

namespace Sys2Proof.Machine

/-! ## The units at a stop that a sample brings (10, R164) -/

/-- The sequencer of `t` is that of `s`, but for the input hold and, where a latch was set, the stop of every unit. -/
def State.Halted (latched : Bool) (s t : State) : Prop :=
  let stops : PlantUnit → Bool := fun u => latched && !s.fc.shadow && u.stoppable
  t.seq.waiting = s.seq.waiting ∧ ∀ l,
    t.seq.ladder l = { s.seq.ladder l with
      units := (t.seq.ladder l).units, stack := (s.seq.ladder l).stack.filter fun n => !(s.unit? l n).any stops } ∧
    ∀ n, t.unit? l n = (s.unit? l n).map fun u =>
      if stops u then u.stopped (s.seq.ladder l).periods (s.setpointFor l) else u

section
variable {r s t : State} {a b : Bool}

theorem any_false (o : Option PlantUnit) : (o.any fun _ => false) = false := by cases o <;> rfl

/-- What no stop touches. -/
theorem halted_of_ladders (waiting : t.seq.waiting = s.seq.waiting) (ladders : ∀ l, t.seq.ladder l = s.seq.ladder l)
    (still : a = false ∨ s.fc.shadow = true) : s.Halted a t := by
  have none_stops : ∀ u : PlantUnit, (a && !s.fc.shadow && u.stoppable) = false := by
    intro u
    rcases still with h | h <;> simp [h]
  refine ⟨waiting, fun l => ⟨?_, fun n => ?_⟩⟩
  · simp only [none_stops]
    rw [ladders, List.filter_eq_self.mpr fun n _ => by rw [any_false]; rfl]
  · simp only [none_stops]
    exact (congrArg (Ladder.unitAt · n) (ladders l)).trans (map_ite_false _ _).symm

/-- With no latch set the ladders stand. -/
theorem State.Halted.stands (h : s.Halted false t) :
    t.seq.waiting = s.seq.waiting ∧ ∀ l, (∃ us, t.seq.ladder l = { s.seq.ladder l with units := us }) ∧
      ∀ n, t.unit? l n = s.unit? l n := by
  obtain ⟨waiting, each⟩ := h
  refine ⟨waiting, fun l => ?_⟩
  obtain ⟨ladder, unit⟩ := each l
  refine ⟨⟨(t.seq.ladder l).units, ladder.trans ?_⟩, fun n => (unit n).trans (map_ite_false _ _)⟩
  simp only [Bool.false_and]
  rw [List.filter_eq_self.mpr fun n _ => by rw [any_false]; rfl]

/-- Two stretches of work, of which at most one sets the latch. -/
theorem State.Halted.trans (h : r.Halted a s) (k : s.Halted b t) (once : a = false ∨ b = false) (fc : s.fc = r.fc)
    (setpoint : ∀ l, s.setpointFor l = r.setpointFor l) : r.Halted (a || b) t := by
  cases a with
  | false =>
    obtain ⟨waiting, stands⟩ := h.stands
    obtain ⟨waiting', each⟩ := k
    refine ⟨waiting'.trans waiting, fun l => ?_⟩
    obtain ⟨⟨us, ladder⟩, unit⟩ := stands l
    obtain ⟨ladder', unit'⟩ := each l
    rw [fc, ladder, funext unit] at ladder'
    refine ⟨ladder', fun n => (unit' n).trans ?_⟩
    rw [unit, fc, ladder, setpoint]
    rfl
  | true =>
    obtain rfl := once.resolve_left Bool.noConfusion
    obtain ⟨waiting, each⟩ := h
    obtain ⟨waiting', stands⟩ := k.stands
    refine ⟨waiting'.trans waiting, fun l => ?_⟩
    obtain ⟨ladder, unit⟩ := each l
    obtain ⟨⟨us, ladder'⟩, unit'⟩ := stands l
    refine ⟨?_, fun n => (unit' n).trans (unit n)⟩
    rw [ladder', ladder]
    rfl

theorem State.Halted.of (h : s.Halted a t) (waiting : s.seq.waiting = r.seq.waiting)
    (ladders : ∀ l, s.seq.ladder l = r.seq.ladder l) (fc : s.fc = r.fc)
    (setpoint : ∀ l, s.setpointFor l = r.setpointFor l) : r.Halted a t := by
  have joined := (halted_of_ladders (s := r) (a := false) waiting ladders (.inl rfl)).trans h (.inl rfl) fc setpoint
  rwa [Bool.false_or] at joined

/-- The latch set on a clear latch stops every unit, and leaves the input hold. -/
theorem halted_setLatch (clear : s.inputs.stopLatch = false) (n : Nat) (d : Int) :
    s.Halted true (s.setLatch n d) ∧ (s.setLatch n d).seq.inputHold = s.seq.inputHold := by
  generalize hr : (({ s with inputs := { s.inputs with stopLatch := true } } : State).notes
    [⟨.stopLatchOn, channelSubject n, d⟩]) = r
  have latch : r.seqEnv.latch = true := hr ▸ rfl
  have seq : r.seq = s.seq := hr ▸ rfl
  have fc : r.fc = s.fc := hr ▸ rfl
  have setpoint : ∀ l, r.setpointFor l = s.setpointFor l := fun l => hr ▸ by cases l <;> rfl
  have set : s.setLatch n d = r.after (Work.stopAll r.seqEnv ⟨r.seq, []⟩) := by
    rw [setLatch_of_clear clear, hr, sequence_eq]
  rw [set]
  have stopped : r.Halted true (r.after (Work.stopAll r.seqEnv ⟨r.seq, []⟩)) ∧
      (r.after (Work.stopAll r.seqEnv ⟨r.seq, []⟩)).seq.inputHold = r.seq.inputHold := by
    cases shadow : r.fc.shadow with
    | true =>
      rw [stopAll_of_shadow shadow]
      exact ⟨halted_of_ladders rfl (fun _ => rfl) (.inr shadow), rfl⟩
    | false =>
      have halts := halts_stopAll (e := r.seqEnv) shadow latch ⟨r.seq, []⟩
      refine ⟨⟨halts.waiting, fun l => ⟨?_, fun n => ?_⟩⟩, halts.hold⟩
      · simp only [shadow]
        exact halts.ladder l
      · simp only [shadow]
        refine (halts.unit l n).trans ?_
        rw [setpoint_seqEnv]
        change (r.unit? l n).map (fun u => if (r.unit? l n).any (·.stoppable) = true then _ else u) = _
        cases r.unit? l n <;> rfl
  exact ⟨stopped.1.of (congrArg Sequencer.waiting seq) (fun l => congrArg (Sequencer.ladder · l) seq) fc setpoint,
    stopped.2.trans (congrArg Sequencer.inputHold seq)⟩

end

/-! ## One sample (10, R160, R161, R164) -/

/-- A channel after the sample of its input. -/
def Channel.sampled (count : CycleCount) (high : Bool) (c : Channel) : Channel :=
  if c.level = high then c
  else if c.edge.captures high then c.captured count none high
  else { c with level := high }

/-- The sample of its input calls for the STOP latch. -/
def Channel.trips (high : Bool) (c : Channel) : Bool :=
  decide (c.level ≠ high) && c.edge.captures high && decide (c.action = .stopAll)
    && ({ c with level := high } : Channel).active

theorem trips_iff {high : Bool} {c : Channel} :
    c.trips high = true ↔ c.level ≠ high ∧ c.edge.captures high = true ∧ c.action = .stopAll ∧
      ({ c with level := high } : Channel).active = true := by
  simp [Channel.trips, and_assoc]

/-- The inputs after the sample of channel n. -/
def Inputs.sampled (count : CycleCount) (n : Nat) (x : Inputs) : Inputs :=
  match x.channel n with
  | none => x
  | some c =>
    { x.setChannel n (c.sampled count (x.pin n)) with stopLatch := x.stopLatch || c.trips (x.pin n) }

theorem sampled_of_channel {x : Inputs} {n : Nat} {c : Channel} (h : x.channel n = some c) (count : CycleCount) :
    x.sampled count n =
      { x.setChannel n (c.sampled count (x.pin n)) with stopLatch := x.stopLatch || c.trips (x.pin n) } := by
  unfold Inputs.sampled
  rw [h]

theorem setChannel_self {x : Inputs} {n : Nat} {c : Channel} (h : x.channel n = some c) : x.setChannel n c = x := by
  cases n with
  | zero => cases h
  | succ k =>
    obtain ⟨lt, here⟩ := List.getElem?_eq_some_iff.mp h
    unfold Inputs.setChannel
    rw [Nat.add_sub_cancel, ← here, List.set_getElem_self]

theorem sampled_of_level {x : Inputs} {n : Nat} {c : Channel} (h : x.channel n = some c) (level : c.level = x.pin n)
    (count : CycleCount) : x.sampled count n = x := by
  have keeps : c.sampled count (x.pin n) = c := if_pos level
  have quiet : c.trips (x.pin n) = false := by simp [Channel.trips, level]
  rw [sampled_of_channel h, keeps, setChannel_self h, quiet, Bool.or_false]

/-- The sample of channel n, as far as the inputs, the units, the hold and the events see it. -/
structure State.Sampled (n : Nat) (s t : State) : Prop where
  inputs : t.inputs = s.inputs.sampled s.fc.count n
  halted : s.Halted (!s.inputs.stopLatch && (s.inputs.channel n).any (Channel.trips (s.inputs.pin n))) t
  stays : (∀ c, s.inputs.channel n = some c → c.level = s.inputs.pin n) → t = s
  held : ∀ c, s.inputs.channel n = some c → c.level ≠ s.inputs.pin n → t.seq.inputHold = t.inputs.holds
  quiet : (∀ c, s.inputs.channel n = some c → c.action ≠ .stopAll) →
    t.events = s.events ∨ ∃ r, t.events = s.events.append r
  told : ∀ c, s.inputs.channel n = some c → c.action ≠ .stopAll → c.level ≠ s.inputs.pin n →
    c.edge.captures (s.inputs.pin n) = true →
    t.events = s.events.append ⟨s.fc.count, s.fc.position, ⟨.capture, channelSubject n, captureDetail c (s.inputs.pin n)⟩⟩

section
variable {s : State} {n : Nat}

theorem sampled_of_levels (h : ∀ c, s.inputs.channel n = some c → c.level = s.inputs.pin n) : s.Sampled n s := by
  have still : s.inputs.sampled s.fc.count n = s.inputs := by
    cases hc : s.inputs.channel n with
    | none =>
      unfold Inputs.sampled
      rw [hc]
    | some c => exact sampled_of_level hc (h c hc) _
  have silent : (s.inputs.channel n).any (Channel.trips (s.inputs.pin n)) = false := by
    cases hc : s.inputs.channel n with
    | none => rfl
    | some c => simp [Channel.trips, h c hc]
  exact ⟨still.symm, halted_of_ladders rfl (fun _ => rfl) (.inl (by rw [silent, Bool.and_false])), fun _ => rfl,
    fun c hc changed => absurd (h c hc) changed, fun _ => .inl rfl, fun c hc _ changed => absurd (h c hc) changed⟩

theorem sampled_takeLevel (s : State) (n : Nat) : s.Sampled n (takeLevel n (s.inputs.pin n) none s) := by
  by_cases same : ∀ c, s.inputs.channel n = some c → c.level = s.inputs.pin n
  · rw [takeLevel_of_level same]
    exact sampled_of_levels same
  · obtain ⟨c, channel, changed⟩ : ∃ c, s.inputs.channel n = some c ∧ c.level ≠ s.inputs.pin n := by
      simpa using same
    have only : ∀ d, s.inputs.channel n = some d → d = c := fun d hd => Option.some.inj (hd.symm.trans channel)
    have any_trips : (s.inputs.channel n).any (Channel.trips (s.inputs.pin n)) = c.trips (s.inputs.pin n) := by
      rw [channel]
      rfl
    cases captured : c.edge.captures (s.inputs.pin n) with
    | false =>
      have follows : c.sampled s.fc.count (s.inputs.pin n) = { c with level := s.inputs.pin n } :=
        (if_neg changed).trans (if_neg (by simp [captured]))
      have silent : c.trips (s.inputs.pin n) = false := by simp [Channel.trips, captured]
      rw [takeLevel_of_uncaptured channel changed captured]
      refine ⟨?_, halted_of_ladders rfl (fun l => by cases l <;> rfl) (.inl ?_), fun still => absurd (still c channel) changed,
        fun _ _ _ => rfl, fun _ => .inl rfl, fun d hd _ _ took => ?_⟩
      · rw [sampled_of_channel channel, follows, silent, Bool.or_false]
        rfl
      · rw [any_trips, silent, Bool.and_false]
      · rw [only d hd, captured] at took
        cases took
    | true =>
      have follows : c.sampled s.fc.count (s.inputs.pin n) = c.captured s.fc.count none (s.inputs.pin n) :=
        (if_neg changed).trans (if_pos captured)
      by_cases fires : s.inputs.stopLatch = false ∧ c.trips (s.inputs.pin n) = true
      · obtain ⟨clear, trips⟩ := fires
        obtain ⟨-, -, stops, active⟩ := trips_iff.mp trips
        rw [takeLevel_stops channel changed captured stops active]
        generalize hu : (({ s with inputs := s.inputs.setChannel n (c.captured s.fc.count none (s.inputs.pin n)) } : State).notes
          [⟨.capture, channelSubject n, captureDetail c (s.inputs.pin n)⟩]).updateHold = u
        have uclear : u.inputs.stopLatch = false := hu ▸ clear
        have uinputs : u.inputs = s.inputs.setChannel n (c.captured s.fc.count none (s.inputs.pin n)) := hu ▸ rfl
        have uhold : u.seq.inputHold = u.inputs.holds := hu ▸ rfl
        obtain ⟨halted, hold⟩ := halted_setLatch uclear n 1
        obtain ⟨t, rs, set, frame, -, -⟩ := setLatch_stops uclear n 1
        rw [set] at halted hold ⊢
        have inputs : t.inputs = { u.inputs with stopLatch := true } := congrArg State.inputs frame
        refine ⟨?_, ?_, fun still => absurd (still c channel) changed, fun _ _ _ => ?_, fun quiet => ?_,
          fun d hd quiet _ _ => ?_⟩
        · rw [inputs, uinputs, sampled_of_channel channel, follows, trips, Bool.or_true]
        · rw [any_trips, trips, clear]
          exact halted.of (hu ▸ rfl) (fun l => hu ▸ (by cases l <;> rfl)) (hu ▸ rfl) (fun l => hu ▸ (by cases l <;> rfl))
        · rw [hold, uhold, inputs]
          rfl
        · exact absurd stops (quiet c channel)
        · rw [only d hd] at quiet
          exact absurd stops quiet
      · have quiet : c.action ≠ .stopAll ∨ ({ c with level := s.inputs.pin n } : Channel).active = false ∨
            s.inputs.stopLatch = true := by
          by_contra none_of
          simp only [not_or, Bool.not_eq_false, Bool.not_eq_true, not_not] at none_of
          obtain ⟨stops, active, clear⟩ := none_of
          exact fires ⟨clear, trips_iff.mpr ⟨changed, captured, stops, active⟩⟩
        have latch : (s.inputs.stopLatch || c.trips (s.inputs.pin n)) = s.inputs.stopLatch := by
          cases hl : s.inputs.stopLatch with
          | true => rfl
          | false => simpa [hl] using fires
        rw [takeLevel_of_captured channel changed captured quiet]
        refine ⟨?_, halted_of_ladders rfl (fun l => by cases l <;> rfl) (.inl ?_),
          fun still => absurd (still c channel) changed, fun _ _ _ => rfl, fun _ => .inr ⟨_, rfl⟩, fun d hd _ _ _ => ?_⟩
        · rw [sampled_of_channel channel, follows, latch]
          rfl
        · rw [any_trips]
          cases hl : s.inputs.stopLatch with
          | true => rfl
          | false => simpa [hl] using fires
        · rw [only d hd]
          rfl

end

end Sys2Proof.Machine

/-! Cycle start as a whole (02, R25, R27 to R30; 10, R161). -/

namespace Sys2Proof.Machine

section
variable {x : Inputs} {count : CycleCount} {n m : Nat}

theorem channel_setChannel_same (n : Nat) (c : Channel) (h : (x.channel n).isSome = true) :
    (x.setChannel n c).channel n = some c := by
  cases n with
  | zero => cases h
  | succ k =>
    change (x.channels.set (k + 1 - 1) c)[k]? = some c
    have lt : k < x.channels.length := by
      by_contra out
      rw [show x.channel (k + 1) = none from List.getElem?_eq_none (by omega)] at h
      cases h
    rw [Nat.add_sub_cancel, List.getElem?_set_self lt]

theorem channel_setChannel_other (c : Channel) (lo : 1 ≤ n) (other : m ≠ n) :
    (x.setChannel n c).channel m = x.channel m := by
  cases m with
  | zero => rfl
  | succ k =>
    change (x.channels.set (n - 1) c)[k]? = x.channels[k]?
    exact List.getElem?_set_ne (by omega)

theorem pins_sampled (count : CycleCount) (n : Nat) (x : Inputs) : (x.sampled count n).pins = x.pins := by
  unfold Inputs.sampled
  split <;> rfl

theorem pin_sampled (count : CycleCount) (n : Nat) (x : Inputs) (m : Nat) : (x.sampled count n).pin m = x.pin m := by
  unfold Inputs.pin
  rw [pins_sampled]

theorem channel_sampled_same (count : CycleCount) (n : Nat) (x : Inputs) :
    (x.sampled count n).channel n = (x.channel n).map (Channel.sampled count (x.pin n)) := by
  cases hc : x.channel n with
  | none =>
    unfold Inputs.sampled
    rw [hc]
    exact hc
  | some c =>
    rw [sampled_of_channel hc]
    exact channel_setChannel_same n _ (by rw [hc]; rfl)

theorem channel_sampled_other (count : CycleCount) (x : Inputs) (lo : 1 ≤ n) (other : m ≠ n) :
    (x.sampled count n).channel m = x.channel m := by
  cases hc : x.channel n with
  | none =>
    unfold Inputs.sampled
    rw [hc]
  | some c =>
    rw [sampled_of_channel hc]
    exact channel_setChannel_other (x := x) _ lo other

theorem stopLatch_sampled (count : CycleCount) (n : Nat) (x : Inputs) :
    (x.sampled count n).stopLatch = (x.stopLatch || (x.channel n).any (Channel.trips (x.pin n))) := by
  cases hc : x.channel n with
  | none =>
    unfold Inputs.sampled
    rw [hc]
    exact (Bool.or_false _).symm
  | some c =>
    rw [sampled_of_channel hc]
    rfl

end

/-! ## Both samples -/

section
variable (s : State)

theorem sampleSlow_sampled :
    ∃ a : State, s.Sampled 7 a ∧ a.Sampled 8 (sampleSlow s) ∧ a.fc = s.fc ∧ ∀ l, a.setpointFor l = s.setpointFor l :=
  ⟨_, sampled_takeLevel s 7, sampled_takeLevel _ 8, takeLevel_fc _ _ _ _, fun l => by
    rw [(inputOnly_takeLevel s 7 (s.inputs.pin 7) none).frame]
    cases l <;> rfl⟩

theorem sampleSlow_inputs : (sampleSlow s).inputs = (s.inputs.sampled s.fc.count 7).sampled s.fc.count 8 := by
  obtain ⟨a, seven, eight, fc, -⟩ := sampleSlow_sampled s
  rw [eight.inputs, seven.inputs, fc]

theorem sampleSlow_pins : (sampleSlow s).inputs.pins = s.inputs.pins := by
  rw [sampleSlow_inputs, pins_sampled, pins_sampled]

theorem sampleSlow_channel_slow {n : Nat} (slow : n = 7 ∨ n = 8) :
    (sampleSlow s).inputs.channel n = (s.inputs.channel n).map (Channel.sampled s.fc.count (s.inputs.pin n)) := by
  rw [sampleSlow_inputs]
  rcases slow with rfl | rfl
  · rw [channel_sampled_other _ _ (by omega) (by omega), channel_sampled_same]
  · rw [channel_sampled_same, channel_sampled_other _ _ (by omega) (by omega), pin_sampled]

theorem sampleSlow_channel_fast {n : Nat} (seven : n ≠ 7) (eight : n ≠ 8) :
    (sampleSlow s).inputs.channel n = s.inputs.channel n := by
  rw [sampleSlow_inputs, channel_sampled_other _ _ (by omega) eight, channel_sampled_other _ _ (by omega) seven]

theorem sampleSlow_stopLatch : (sampleSlow s).inputs.stopLatch =
    (s.inputs.stopLatch || (s.inputs.channel 7).any (Channel.trips (s.inputs.pin 7))
      || (s.inputs.channel 8).any (Channel.trips (s.inputs.pin 8))) := by
  rw [sampleSlow_inputs, stopLatch_sampled, stopLatch_sampled, channel_sampled_other _ _ (by omega) (by omega), pin_sampled]

theorem sampleSlow_stopLatch_iff : (sampleSlow s).inputs.stopLatch = true ↔ s.inputs.stopLatch = true ∨
    ∃ n c, (n = 7 ∨ n = 8) ∧ s.inputs.channel n = some c ∧ c.trips (s.inputs.pin n) = true := by
  rw [sampleSlow_stopLatch, Bool.or_eq_true, Bool.or_eq_true, or_assoc, Option.any_eq_true, Option.any_eq_true]
  refine or_congr_right ⟨?_, ?_⟩
  · rintro (⟨c, hc, trips⟩ | ⟨c, hc, trips⟩)
    · exact ⟨7, c, .inl rfl, hc, trips⟩
    · exact ⟨8, c, .inr rfl, hc, trips⟩
  · rintro ⟨n, c, rfl | rfl, hc, trips⟩
    · exact .inl ⟨c, hc, trips⟩
    · exact .inr ⟨c, hc, trips⟩

/-- Both samples together stop every unit where one of them set the latch. -/
theorem sampleSlow_halted : s.Halted ((sampleSlow s).inputs.stopLatch && !s.inputs.stopLatch) (sampleSlow s) := by
  obtain ⟨a, seven, eight, fc, setpoint⟩ := sampleSlow_sampled s
  have latch : a.inputs.stopLatch = (s.inputs.stopLatch || (s.inputs.channel 7).any (Channel.trips (s.inputs.pin 7))) := by
    rw [seven.inputs, stopLatch_sampled]
  have whole := seven.halted.trans eight.halted (by
    rw [latch]
    cases s.inputs.stopLatch <;> cases (s.inputs.channel 7).any _ <;> simp) fc setpoint
  have same : (sampleSlow s).inputs.stopLatch = (a.inputs.stopLatch || (a.inputs.channel 8).any (Channel.trips (a.inputs.pin 8))) := by
    rw [eight.inputs, stopLatch_sampled]
  rw [same, latch]
  rw [latch] at whole
  revert whole
  cases s.inputs.stopLatch <;> cases (s.inputs.channel 7).any _ <;> simp

theorem sampleSlow_held {n : Nat} {c : Channel} (slow : n = 7 ∨ n = 8) (hc : s.inputs.channel n = some c)
    (changed : c.level ≠ s.inputs.pin n) : (sampleSlow s).seq.inputHold = (sampleSlow s).inputs.holds := by
  obtain ⟨a, seven, eight, -, -⟩ := sampleSlow_sampled s
  by_cases still : ∀ d, a.inputs.channel 8 = some d → d.level = a.inputs.pin 8
  · rw [eight.stays still]
    rcases slow with rfl | rfl
    · exact seven.held c hc changed
    · rw [seven.inputs, channel_sampled_other _ _ (by omega) (by omega), pin_sampled] at still
      exact absurd (still c hc) changed
  · obtain ⟨d, hd, moved⟩ : ∃ d, a.inputs.channel 8 = some d ∧ d.level ≠ a.inputs.pin 8 := by simpa using still
    exact eight.held d hd moved

theorem mem_append_self (x : EventList) (r : EventRecord) : r ∈ (x.append r).records := by
  unfold EventList.append
  split <;> exact List.mem_append_right _ List.mem_cons_self

/-- The list's newest record outlives the next append. -/
theorem mem_append_append (x : EventList) (r q : EventRecord) : r ∈ ((x.append r).append q).records := by
  obtain ⟨l, last⟩ : ∃ l, (x.append r).records = l ++ [r] := by
    unfold EventList.append
    split
    · exact ⟨_, rfl⟩
    · exact ⟨_, rfl⟩
  generalize x.append r = y at last
  unfold EventList.append
  split
  · exact List.mem_append_left _ (by simp [last])
  next full =>
    refine List.mem_append_left _ ?_
    have long : 1 ≤ l.length := by
      rw [last, List.length_append, List.length_singleton] at full
      have capacity : 2 ≤ Config.eventCapacity := by decide
      omega
    rw [last, List.drop_append_of_le_length long]
    exact List.mem_append_right _ List.mem_cons_self

/-- With no STOP_ALL channel among the two, each captured sample's event stands at the end of both. -/
theorem sampleSlow_told {n : Nat} {c : Channel} (slow : n = 7 ∨ n = 8) (hc : s.inputs.channel n = some c)
    (changed : c.level ≠ s.inputs.pin n) (captured : c.edge.captures (s.inputs.pin n) = true)
    (quiet : ∀ m d, m = 7 ∨ m = 8 → s.inputs.channel m = some d → d.action ≠ .stopAll) :
    (⟨s.fc.count, s.fc.position, ⟨.capture, channelSubject n, captureDetail c (s.inputs.pin n)⟩⟩ : EventRecord)
      ∈ (sampleSlow s).events.records := by
  obtain ⟨a, seven, eight, fc, -⟩ := sampleSlow_sampled s
  have channel : a.inputs.channel 8 = s.inputs.channel 8 := by
    rw [seven.inputs, channel_sampled_other _ _ (by omega) (by omega)]
  have pin : a.inputs.pin 8 = s.inputs.pin 8 := by rw [seven.inputs, pin_sampled]
  rcases slow with rfl | rfl
  · have first := seven.told c hc (quiet 7 c (.inl rfl) hc) changed captured
    rcases eight.quiet fun d hd => quiet 8 d (.inr rfl) (channel ▸ hd) with same | ⟨q, more⟩
    · rw [same, first]
      exact mem_append_self _ _
    · rw [more, first]
      exact mem_append_append _ _ _
  · have second := eight.told c (channel ▸ hc) (quiet 8 c (.inr rfl) hc) (by rwa [pin]) (by rwa [pin])
    rw [fc, pin] at second
    rw [second]
    exact mem_append_self _ _

end

/-! ## The controller's work (02, R25, R29, R30) -/

section
variable (s : State)

theorem startCycle_seq : (startCycle s).seq = s.seq.cycleStart := by
  have counted : (countCycle s).seq = s.seq := by
    unfold countCycle
    dsimp only
    split <;> rfl
  have fixed : ∀ u : State, (fixPeriod u).seq = u.seq := by
    intro u
    unfold fixPeriod
    dsimp only
    split_ifs <;> rfl
  rw [startCycle, fixed]
  exact congrArg Sequencer.cycleStart counted

theorem startCycle_header : (startCycle s).header =
    s.header.map fun h => { h with recent := false, station := { h.station with joined := false } } := by
  have counted : (countCycle s).header = s.header := by
    unfold countCycle
    dsimp only
    split <;> rfl
  have fixed : ∀ u : State, (fixPeriod u).header = u.header := by
    intro u
    unfold fixPeriod
    dsimp only
    split_ifs <;> rfl
  rw [startCycle, fixed]
  exact congrArg (Option.map _) counted

theorem beginCycle_header : (beginCycle s).header =
    s.header.map fun h => { h with recent := false, station := { h.station with joined := false } } := by
  rw [← startCycle_header]
  exact (congrArg State.header (inputOnly_sampleSlow (startCycle s)).frame :)

theorem startCycle_ladder (l : LadderId) : (startCycle s).seq.ladder l = (s.seq.ladder l).cycleStart := by
  rw [startCycle_seq]
  cases l <;> rfl

theorem startCycle_unit (l : LadderId) (n : Nat) :
    (startCycle s).unit? l n = (s.unit? l n).map PlantUnit.cycleStart :=
  (congrArg (Ladder.unitAt · n) (startCycle_ladder s l)).trans (unitAt_map _ _ _)

theorem startCycle_setpoint (l : LadderId) : (startCycle s).setpointFor l = s.setpointFor l := by
  rw [startOnly_startCycle s]
  cases l <;> rfl

theorem mem_serviceList (map : List SlotEntry) (k : Nat) :
    k ∈ serviceList s map ↔ ∃ e, map[k]? = some e ∧ s.loaded e.binding = true := by
  unfold serviceList
  rw [List.mem_filterMap]
  constructor
  · rintro ⟨⟨e, j⟩, there, found⟩
    split_ifs at found with loaded
    cases found
    exact ⟨e, List.mem_zipIdx_iff_getElem?.mp there, loaded⟩
  · rintro ⟨e, there, loaded⟩
    exact ⟨(e, k), List.mem_zipIdx_iff_getElem?.mpr there, if_pos loaded⟩

theorem serviceList_ascends (map : List SlotEntry) : (serviceList s map).Pairwise (· < ·) := by
  unfold serviceList
  rw [List.pairwise_filterMap]
  have ascends : map.zipIdx.Pairwise fun x y => x.2 < y.2 := by
    have indices : (map.zipIdx.map Prod.snd).Pairwise (· < ·) := by
      rw [List.zipIdx_map_snd]
      exact List.pairwise_lt_range'
    exact List.pairwise_map.mp indices
  refine ascends.imp fun {x y} lt i hi j hj => ?_
  split_ifs at hi hj
  cases hi
  cases hj
  exact lt

theorem effectivePeriod_eq (p : Nat) (rate : BitVec 2) (n : Nat) :
    effectivePeriod p rate n = max p (((n + 1) * Config.slotTime rate + 99) / 100) := rfl

theorem branchCycleStart_eq (b : Branch) : b.cycleStart = { b with
    station := { b.station with joined := false }
    part := match b.part with
      | .consumer x n _ => .consumer x n n
      | .storage d n _ => .storage d n n } := rfl

theorem branch_beginCycle (i : Nat) :
    (beginCycle s).branch? i = (s.branch? i).map Branch.cycleStart := by
  unfold State.branch?
  rw [beginCycle_branches, List.getElem?_map, Option.join_map_eq_map_join]

/-- The controller at a cycle start, in the terms of what it leaves. -/
theorem beginCycle_fc_eq : (beginCycle s).fc = { s.fc with
    count := s.fc.count + 1, runningMap := s.fc.written, serviceList := (beginCycle s).fc.serviceList, served := 0,
    openBegun := false, lineShadow := s.fc.shadow, position := (beginCycle s).fc.serviceList.headD 64,
    pEff := max s.fc.pCfg ((((beginCycle s).fc.serviceList.length + 1) * Config.slotTime s.fc.rate + 99) / 100),
    stretched := (beginCycle s).fc.stretched, window := none, lineOut := [], good := 0, misses := 0 } := by
  rw [beginCycle_fc, startCycle_fc]
  rfl

theorem beginCycle_serviceList : (beginCycle s).fc.serviceList = serviceList s s.fc.written := by
  rw [beginCycle_fc, startCycle_fc]

theorem beginCycle_stretched : (beginCycle s).fc.stretched = true ↔ s.fc.pCfg < (beginCycle s).fc.pEff := by
  rw [beginCycle_fc, startCycle_fc]
  exact decide_eq_true_iff

end

end Sys2Proof.Machine

/-! The statement on cycle start (02, R25, R27 to R30; 10, R161). -/

namespace Sys2Proof.Machine

theorem stoppable_cycleStart (u : PlantUnit) : u.cycleStart.stoppable = u.stoppable := rfl

section
variable {s t : State} {latched : Bool} (h : (startCycle s).Halted latched t)
include h

theorem ladder_of_halted_startCycle (l : LadderId) :
    t.seq.ladder l = { s.seq.ladder l with
      units := (t.seq.ladder l).units,
      stack := (s.seq.ladder l).stack.filter fun n =>
        !(s.unit? l n).any fun u => latched && !s.fc.shadow && u.stoppable } := by
  obtain ⟨-, each⟩ := h
  obtain ⟨ladder, -⟩ := each l
  refine ladder.trans ?_
  have shadow : (startCycle s).fc.shadow = s.fc.shadow := by rw [startCycle_fc]
  rw [startCycle_ladder, shadow]
  simp only [startCycle_unit, Option.any_map]
  rfl

theorem unit_of_halted_startCycle (l : LadderId) (n : Nat) :
    t.unit? l n = (s.unit? l n).map fun u =>
      if latched && !s.fc.shadow && u.stoppable then
        u.cycleStart.stopped (s.seq.ladder l).periods (s.setpointFor l)
      else u.cycleStart := by
  obtain ⟨-, each⟩ := h
  obtain ⟨-, unit⟩ := each l
  refine (unit n).trans ?_
  have shadow : (startCycle s).fc.shadow = s.fc.shadow := by rw [startCycle_fc]
  rw [startCycle_unit, Option.map_map, shadow, startCycle_ladder, startCycle_setpoint]
  rfl

end

/-- Settles O24: the controller's work, then the two samples. -/
theorem cycleStartLatches : Obligations.CycleStartLatches := by
  intro s released gap
  have frame := startOnly_beginCycle s
  have inputs := inputs_startCycle s
  have shadow : (startCycle s).fc.shadow = s.fc.shadow := by rw [startCycle_fc]
  have count : (startCycle s).fc.count = s.fc.count + 1 := by rw [startCycle_fc]
  have channels : ∀ n, n = 7 ∨ n = 8 → (beginCycle s).inputs.channel n =
      (s.inputs.channel n).map (Channel.sampled (s.fc.count + 1) (s.inputs.pin n)) := by
    intro n slow
    rw [← inputs, ← count]
    exact sampleSlow_channel_slow (startCycle s) slow
  have halted : (startCycle s).Halted ((beginCycle s).inputs.stopLatch && !(startCycle s).inputs.stopLatch)
      (beginCycle s) := sampleSlow_halted (startCycle s)
  rw [inputs] at halted
  refine ⟨beginCycle s, exec_cycleStart_of_gap released gap, frame, beginCycle_fc_eq s, beginCycle_stretched s,
    fun k => ?_, ?_, branch_beginCycle s, beginCycle_header s, fun levels => ?_, ?_, ?_, fun l => ⟨?_, fun n => ?_⟩, ?_,
    fun n seven eight => ?_, fun n c slow hc => ⟨fun same => ?_, fun changed => ⟨?_, fun uncaptured => ?_, fun captured =>
      ⟨?_, fun quiet => ?_⟩⟩⟩⟩
  · rw [beginCycle_serviceList]
    exact mem_serviceList s _ k
  · rw [beginCycle_serviceList]
    exact serviceList_ascends s _
  · rw [beginCycle_of_levels levels]
    refine ⟨inputs, ?_⟩
    rw [startCycle_seq]
    rfl
  · have latch := sampleSlow_stopLatch_iff (startCycle s)
    rw [inputs] at latch
    refine latch.trans (or_congr_right (exists₂_congr fun n c => ?_))
    rw [trips_iff]
  · exact halted.1.trans (by rw [startCycle_seq]; rfl)
  · exact ladder_of_halted_startCycle halted l
  · exact unit_of_halted_startCycle halted l n
  · exact (sampleSlow_pins _).trans (congrArg Inputs.pins inputs)
  · exact (sampleSlow_channel_fast _ seven eight).trans (congrArg (Inputs.channel · n) inputs)
  · rw [channels n slow, hc, Option.map_some]
    exact congrArg some (if_pos same)
  · have there : (startCycle s).inputs.channel n = some c := inputs ▸ hc
    exact sampleSlow_held _ slow there (inputs ▸ changed)
  · rw [channels n slow, hc, Option.map_some]
    exact congrArg some ((if_neg changed).trans (if_neg (by simp [uncaptured])))
  · rw [channels n slow, hc, Option.map_some]
    exact congrArg some ((if_neg changed).trans (if_pos captured))
  · have told := sampleSlow_told (startCycle s) slow (inputs ▸ hc) (inputs ▸ changed) (inputs ▸ captured)
      (fun m d hm hd => quiet m d hm (inputs ▸ hd))
    rw [count, inputs] at told
    rw [beginCycle_fc]
    exact told

end Sys2Proof.Machine

/-! The warm restart (11, R178; 01, R21; 06, R111; 09, R158; 02, R43). -/

namespace Sys2Proof.Machine

section
variable {s t : State}

/-- An evaluation with the STORAGE record AWAITING, or none: HOLD at rate 0, and no block is written (09, R152, R153). -/
theorem evaluateMode_of_awaiting (h : ∀ i b, s.storage = some (i, b) → b.station.freshness = .awaiting) :
    s.evaluateMode = { s with store := s.evaluateMode.store, events := s.evaluateMode.events } ∧
      s.evaluateMode.store.mode = .hold ∧ s.evaluateMode.store.rate = 0 := by
  have evaluated : s.evaluateMode = s.schedule Scheduler.evaluate := by
    unfold State.evaluateMode State.writeStorageCmd
    split
    next x storage => exact if_pos (h x.1 x.2 storage)
    · rfl
  have chosen : chooseMode s.store s.storage = (.hold, 0) :=
    chooseMode_of_held (.inr (storageAvailable_eq_false fun i b hb => by
      unfold Branch.available
      rw [h i b hb]
      exact Bool.and_false _))
  rw [evaluated]
  exact ⟨rfl, evaluate_mode.trans (congrArg Prod.fst chosen), evaluate_rate.trans (congrArg Prod.snd chosen)⟩

/-! ## Passes aborted (02, R43) -/

/-- The deferred replies of a list of passes stand at the end of each port's transmit queue, in order. -/
theorem foldl_deferred_port (st : Status) (es : List PassEntry) (s : State) (p : Port) :
    (es.foldl (fun u e => u.deferred e st []) s).port p = { s.port p with
      tx := (s.port p).tx ++ (es.filter fun e => e.port = p).map (passReply · st [])
      owed := (s.port p).owed - es.countP fun e => decide (e.port = p) } := by
  induction es generalizing s with
  | nil => simp
  | cons e es ih =>
    rw [List.foldl_cons, ih, List.filter_cons, List.countP_cons]
    by_cases own : e.port = p
    · rw [← own, deferred_port_same]
      simp [Nat.sub_sub, Nat.add_comm]
    · rw [deferred_port_other _ _ _ fun h => own h.symm]
      simp [own]

theorem abortPasses_port (s : State) (p : Port) : (abortPasses s).port p = { s.port p with
    tx := (s.port p).tx ++ ((s.fc.inFlight.toList ++ s.fc.queue).filter fun e => e.port = p).map (passReply · .aborted [])
    owed := (s.port p).owed - s.passesOf p } :=
  foldl_deferred_port _ _ _ _

/-! ## What the next cycle start works on -/

/-- A record after a warm restart, cycle start and all but the readings (01, R21; 04, R76). -/
theorem storage_map_restart (i : Nat) (b : Branch) (branches : t.branches = s.branches.map (·.map Branch.restart))
    (h : t.storage = some (i, b)) : b.station.freshness = .awaiting := by
  have here := branch?_of_storage h
  unfold State.branch? at here
  rw [branches, List.getElem?_map, Option.join_map_eq_map_join] at here
  obtain ⟨c, -, rfl⟩ := Option.map_eq_some_iff.mp here
  rfl

/-- The part right before the cycle start that ends a warm restart. -/
def State.restarted (p : Port) (s : State) : State :=
  abortPasses (restartSequencer (restartTable (s.notes [⟨.warmRestart, linkSubject, portNumber p⟩]))).evaluateMode

theorem warmRestart_eq (p : Port) (s : State) : warmRestart p s = beginCycle (s.restarted p) := rfl

/-- What a warm restart does before its cycle start. -/
structure State.Restarted (p : Port) (s t : State) : Prop where
  frame : t = { s with
    fc := { s.fc with inFlight := none, queue := [] }, branches := s.branches.map (·.map Branch.restart)
    header := s.header.map fun h => { h with station := h.station.restart }
    seq := { s.seq with
      chillers := s.seq.chillers.restart s.fc.shadow, pumps := s.seq.pumps.restart s.fc.shadow, waiting := false }
    store := t.store, events := t.events, supervisory := t.supervisory, panel := t.panel }
  mode : t.store.mode = .hold
  rate : t.store.rate = 0
  store : t.store = { s.store with
    mode := t.store.mode, rate := t.store.rate, window := t.store.window, lastChange := t.store.lastChange }
  told : ∃ rs : List EventRecord, t.events = rs.foldl EventList.append
    (s.notes [⟨.warmRestart, 500, if p = .supervisory then 1 else 2⟩]).events
  port : ∀ q, t.port q = { s.port q with
    tx := (s.port q).tx ++ ((s.fc.inFlight.toList ++ s.fc.queue).filter fun e => e.port = q).map (passReply · .aborted [])
    owed := (s.port q).owed - s.passesOf q }

theorem restarted_restarted (p : Port) (s : State) : s.Restarted p (s.restarted p) := by
  unfold State.restarted
  generalize hr : restartSequencer (restartTable (s.notes [⟨.warmRestart, linkSubject, portNumber p⟩])) = r
  have branches : r.branches = s.branches.map (·.map Branch.restart) := hr ▸ rfl
  obtain ⟨frame, mode, rate⟩ := evaluateMode_of_awaiting (s := r) fun i b => storage_map_restart i b branches
  have store : r.evaluateMode.store = { r.store with
      mode := r.evaluateMode.store.mode, rate := r.evaluateMode.store.rate, window := r.evaluateMode.store.window
      lastChange := r.evaluateMode.store.lastChange } := by
    rw [congrArg State.store (evaluateMode_frame r)]
    exact evaluate_kept
  obtain ⟨ns, told⟩ := (storeOnly_evaluateMode r).told
  have events : r.events = (s.notes [⟨.warmRestart, 500, if p = .supervisory then 1 else 2⟩]).events := by
    rw [← hr]
    cases p <;> rfl
  generalize r.evaluateMode = e at frame mode rate store told
  have aborted := abortPasses_frame e
  have port := abortPasses_port e
  have same : ∀ q, e.port q = s.port q := fun q => by
    rw [frame, ← hr]
    cases q <;> rfl
  have fc : e.fc = s.fc := by
    rw [frame, ← hr]
    rfl
  generalize abortPasses e = t at aborted port
  have tstore : t.store = e.store := (congrArg State.store aborted :)
  have tevents : t.events = e.events := (congrArg State.events aborted :)
  refine ⟨?_, by rw [tstore, mode], by rw [tstore, rate], ?_, ⟨ns.map fun n => ⟨s.fc.count, s.fc.position, n⟩, ?_⟩, fun q => ?_⟩
  · rw [tstore, tevents]
    refine aborted.trans ?_
    rw [fc, frame, ← hr]
    rfl
  · rw [tstore]
    refine store.trans ?_
    rw [← hr]
    rfl
  · rw [tevents, told, ← events, List.foldl_map, ← hr]
    rfl
  · rw [port q, same, fc]
    unfold State.passesOf
    rw [fc]

end

end Sys2Proof.Machine

/-! The statement on RESTART (11, R178). -/

namespace Sys2Proof.Machine

section
variable {s t : State} {p : Port}

theorem exec_restart_of_ready (ready : s.Ready p) (tag : Octet) :
    exec (.restart p tag) s = .next (takeRestart p tag s) := by
  obtain ⟨released, empty, idle⟩ := ready
  change Host.Outcome.next (arrive p ⟨tag, restartKind, []⟩ (takeRestart p tag) s) = _
  unfold arrive
  rw [released, empty, idle]
  rfl

/-- Some unit is in HAND with guard PANEL. -/
theorem panelHand_iff (q : Sequencer) :
    q.panelHand = true ↔ ∃ l u d, some u ∈ (q.ladder l).units ∧ u.guard = .panel ∧ u.state = .hand d := by
  have judged : ∀ o : Option PlantUnit, (o.any fun v => decide (v.guard = .panel)
      && match v.state with
         | .hand _ => true
         | _ => false) = true ↔ ∃ u d, o = some u ∧ u.guard = .panel ∧ u.state = .hand d := by
    rintro (_ | u)
    · simp
    · cases hs : u.state <;> simp [hs]
  unfold Sequencer.panelHand
  rw [List.any_eq_true]
  constructor
  · rintro ⟨o, there, hand⟩
    obtain ⟨u, d, rfl, guard, state⟩ := (judged o).mp hand
    rcases List.mem_append.mp there with chiller | pump
    · exact ⟨.chiller, u, d, chiller, guard, state⟩
    · exact ⟨.pump, u, d, pump, guard, state⟩
  · rintro ⟨l, u, d, there, guard, state⟩
    refine ⟨some u, ?_, (judged _).mpr ⟨u, d, rfl, guard, state⟩⟩
    cases l
    · exact List.mem_append_left _ there
    · exact List.mem_append_right _ there

theorem State.Restarted.fc (h : s.Restarted p t) : t.fc = { s.fc with inFlight := none, queue := [] } :=
  (congrArg State.fc h.frame :)

theorem State.Restarted.branches (h : s.Restarted p t) : t.branches = s.branches.map (·.map Branch.restart) :=
  (congrArg State.branches h.frame :)

theorem State.Restarted.branch (h : s.Restarted p t) (i : Nat) : t.branch? i = (s.branch? i).map Branch.restart := by
  unfold State.branch?
  rw [h.branches, List.getElem?_map, Option.join_map_eq_map_join]

theorem State.Restarted.header (h : s.Restarted p t) :
    t.header = s.header.map fun x => { x with station := x.station.restart } :=
  (congrArg State.header h.frame :)

theorem State.Restarted.ladder (h : s.Restarted p t) (l : LadderId) :
    t.seq.ladder l = (s.seq.ladder l).restart s.fc.shadow := by
  rw [h.frame]
  cases l <;> rfl

theorem State.Restarted.unit (h : s.Restarted p t) (l : LadderId) (n : Nat) :
    t.unit? l n = (s.unit? l n).map (PlantUnit.restart s.fc.shadow (s.seq.ladder l).periods) :=
  (congrArg (Ladder.unitAt · n) (h.ladder l)).trans
    ((unitAt_of_units rfl n).trans (unitAt_map (s.seq.ladder l) (PlantUnit.restart s.fc.shadow (s.seq.ladder l).periods) n))

theorem State.Restarted.inputs (h : s.Restarted p t) : t.inputs = s.inputs := (congrArg State.inputs h.frame :)

/-- A warm restart loads and releases nothing. -/
theorem State.Restarted.loaded (h : s.Restarted p t) (b : Binding) : t.loaded b = s.loaded b := by
  cases b with
  | unbound => rfl
  | branch i => exact (congrArg Option.isSome (h.branch i)).trans Option.isSome_map
  | unit l n => exact (congrArg Option.isSome (h.unit l n)).trans Option.isSome_map
  | header => exact (congrArg Option.isSome h.header).trans Option.isSome_map

theorem State.Told.records (h : s.Told t) : ∃ rs : List EventRecord, t.events = rs.foldl EventList.append s.events := by
  obtain ⟨ns, told⟩ := h
  exact ⟨ns.map fun n => ⟨s.fc.count, s.fc.position, n⟩, told.trans List.foldl_map.symm⟩

/-- Away from the wrap of the count a cycle start appends to the event list. -/
theorem told_beginCycle (away : t.fc.count + 1 ≠ 0) :
    ∃ rs : List EventRecord, (beginCycle t).events = rs.foldl EventList.append t.events := by
  have counted : (latchCycle (countCycle t)).events = t.events := by
    unfold latchCycle countCycle
    dsimp only
    rw [if_neg away]
  obtain ⟨qs, fixed⟩ := (told_fixPeriod (latchCycle (countCycle t))).records
  obtain ⟨rs, sampled⟩ := (inputOnly_sampleSlow (startCycle t)).told.records
  rw [counted] at fixed
  refine ⟨qs ++ rs, sampled.trans ?_⟩
  rw [List.foldl_append, ← fixed]
  rfl

/-- A unit that a warm restart and the cycle start after it have worked on (06, R111; 07, R133; 08, R144). -/
theorem restart_cycleStart_eq (shadow : Bool) (x : Periods) (u : PlantUnit) :
    (u.restart shadow x).cycleStart = { u with
      station := { u.station with
        freshness := .awaiting, miss := 0, faultRun := false, joined := false, cycle := none, faultMark := false }
      commLost := false, current := u.next
      run := if shadow then u.run else if u.state = .running then .counting x.run x.run 1 else .idle
      prove := if shadow then u.prove
        else if u.state = .starting ∨ u.prove ≠ .idle then .counting x.prove x.prove 1 else .idle
      stop := if shadow then u.stop else if u.state = .stopping then .counting x.stop x.stop 1 else .idle
      rest := if shadow then u.rest
        else if u.state = .resting ∨ u.rest ≠ .idle then .counting x.rest x.rest 1 else .idle } := by
  have counting : ∀ t : Timer, t.isCounting = true ↔ t ≠ .idle := by
    rintro (_ | _) <;> simp [Timer.isCounting]
  unfold PlantUnit.restart
  cases shadow with
  | true => rfl
  | false =>
    unfold PlantUnit.restartTimers
    simp only [counting]
    rfl

/-- Settles O14: the passes aborted, then a cycle start on the restarted part. -/
theorem restartAborts : Obligations.RestartAborts := by
  refine ⟨fun tag l u d s ready unit state guard => ?_, fun p tag s ready allowed => ?_⟩
  · rw [exec_restart_of_ready ready]
    exact congrArg _ (if_pos ⟨rfl, (panelHand_iff _).mpr ⟨l, u, d, unit, guard, state⟩⟩)
  · generalize hs0 : s.hand p (replyFrame tag 21 .done []) = s0
    have whole : exec (.restart p tag) s = .next (beginCycle (s0.restarted p)) := by
      rw [exec_restart_of_ready ready, ← hs0]
      refine congrArg _ (if_neg fun ⟨low, hand⟩ => ?_)
      obtain ⟨l, u, d, unit, guard, state⟩ := (panelHand_iff _).mp hand
      rcases allowed with rfl | no_hand
      · cases low
      · exact no_hand l u d unit guard state
    have fc0 : s0.fc = s.fc := hs0 ▸ hand_fc _ _ _
    have port0 : ∀ q, q ≠ p → s0.port q = s.port q := fun q other => hs0 ▸ port_setPort_of_ne _ _ other
    have own0 : s0.port p = { s.port p with tx := (s.port p).tx ++ [replyFrame tag 21 .done []] } := hs0 ▸ port_hand _ _ _
    have passes0 : ∀ q, s0.passesOf q = s.passesOf q := fun q => by
      unfold State.passesOf
      rw [fc0]
    have branch0 : ∀ i, s0.branch? i = s.branch? i := fun i => by
      unfold State.branch?
      rw [← hs0, hand_branches]
    have header0 : s0.header = s.header := hs0 ▸ hand_header _ _ _
    have seq0 : s0.seq = s.seq := hs0 ▸ hand_seq _ _ _
    have unit0 : ∀ l n, s0.unit? l n = s.unit? l n := fun l n => congrArg (fun q => (Sequencer.ladder q l).unitAt n) seq0
    have loaded0 : ∀ b, s0.loaded b = s.loaded b := by
      intro b
      unfold State.loaded
      cases b <;> simp only [branch0, unit0, header0]
    have store0 : s0.store = s.store := hs0 ▸ hand_store _ _ _
    have h := restarted_restarted p s0
    have fc : (s0.restarted p).fc = { s.fc with inFlight := none, queue := [] } := h.fc.trans (by rw [fc0])
    have start := startOnly_beginCycle (s0.restarted p)
    have store : (beginCycle (s0.restarted p)).store = (s0.restarted p).store := (congrArg State.store start :)
    have port : ∀ q, (beginCycle (s0.restarted p)).port q = { s0.port q with
        tx := (s0.port q).tx ++ ((s.fc.inFlight.toList ++ s.fc.queue).filter fun e => e.port = q).map (passReply · .aborted [])
        owed := (s0.port q).owed - s.passesOf q } := by
      intro q
      rw [beginCycle_port, h.port, fc0, passes0]
    refine ⟨_, whole, ?_, fun q other => ?_, fun q => ?_, ?_, ?_, fun k => ?_, ?_, fun i => ?_, ?_, ?_, ?_, ?_, ?_, ?_, ?_, ?_,
      ?_, ?_, ?_, fun away => ?_, fun levels => ?_⟩
    · rw [port, own0]
    · rw [port, port0 q other]
    · rw [port]
      by_cases own : q = p
      · rw [own, own0]
        exact ⟨rfl, rfl⟩
      · rw [port0 q own]
        exact ⟨rfl, rfl⟩
    · rw [beginCycle_fc_eq, fc]
    · rw [beginCycle_stretched, fc]
    · rw [beginCycle_serviceList, mem_serviceList, fc]
      simp only [h.loaded, loaded0]
    · rw [beginCycle_serviceList]
      exact serviceList_ascends _ _
    · rw [branch_beginCycle, h.branch, branch0, Option.map_map]
      refine congrArg (fun f => Option.map f (s.branch? i)) (funext fun b => ?_)
      cases hp : b.part <;> simp [Branch.cycleStart, Branch.restart, hp, Station.cycleStart, Station.restart]
    · rw [beginCycle_header, h.header, header0, Option.map_map]
      rfl
    · exact (congrArg State.limits start :).trans ((congrArg State.limits h.frame :).trans (hs0 ▸ hand_limits _ _ _))
    · exact (congrArg State.press start :).trans ((congrArg State.press h.frame :).trans (hs0 ▸ hand_press _ _ _))
    · exact (congrArg State.load start :).trans ((congrArg State.load h.frame :).trans (hs0 ▸ hand_load _ _ _))
    · exact (congrArg State.snapshot start :).trans ((congrArg State.snapshot h.frame :).trans (hs0 ▸ hand_snapshot _ _ _))
    · rw [store, h.store, store0]
    · rw [store, h.store, store0]
    · rw [store, h.store, store0]
    · rw [store, h.store, store0]
    · rw [store, h.mode]
    · rw [store, h.rate]
    · obtain ⟨qs, before⟩ := h.told
      obtain ⟨rs, after⟩ := told_beginCycle (t := s0.restarted p) (by rwa [fc])
      refine ⟨qs ++ rs, ?_⟩
      rw [List.foldl_append, after, before, ← hs0]
      simp [State.notes]
    · have inputs : (s0.restarted p).inputs = s.inputs := h.inputs.trans (hs0 ▸ hand_inputs _ _ _)
      rw [beginCycle_of_levels (inputs ▸ levels), startCycle_seq]
      refine ⟨(inputs_startCycle _).trans inputs, ?_, ?_, fun l => ⟨?_, fun n => ?_⟩⟩
      · rw [h.frame]
        rfl
      · rw [h.frame, ← seq0]
        rfl
      · have ladder := startCycle_ladder (s0.restarted p) l
        rw [startCycle_seq, h.ladder, fc0, seq0] at ladder
        rw [ladder]
        rfl
      · rw [startCycle_unit, h.unit, unit0, Option.map_map, fc0, seq0]
        exact congrArg (fun f => Option.map f (s.unit? l n)) (funext fun u => restart_cycleStart_eq _ _ u)

end

end Sys2Proof.Machine

/-! SUPPORT. Readings-closed up to the scheduler: the table worked through in ascending order, and what the sequencer's
work leaves of a ladder's settings (95, CYCLE_END; log 6). -/

namespace Sys2Proof.Machine

/-! ## A table worked through record by record -/

/-- Every record of a table worked on by its index. -/
def workedTable (f : Nat → Branch → Branch) (bs : List (Option Branch)) : List (Option Branch) :=
  bs.zipIdx.map fun x => x.1.map (f x.2)

section
variable {f g : Nat → Branch → Branch} {bs : List (Option Branch)}

theorem workedTable_getElem? (f : Nat → Branch → Branch) (bs : List (Option Branch)) (i : Nat) :
    (workedTable f bs)[i]? = (bs[i]?).map (·.map (f i)) := by
  unfold workedTable
  rw [List.getElem?_map, List.getElem?_zipIdx, Option.map_map, Nat.zero_add]
  rfl

theorem workedTable_worked (f g : Nat → Branch → Branch) (bs : List (Option Branch)) :
    workedTable g (workedTable f bs) = workedTable (fun i b => g i (f i b)) bs := by
  apply List.ext_getElem?
  intro i
  rw [workedTable_getElem?, workedTable_getElem?, workedTable_getElem?, Option.map_map]
  exact congrArg (fun h => Option.map h (bs[i]?)) (funext fun o => Option.map_map ..)

/-- The STORAGE record of a worked table, when the work changes no record's type. -/
theorem storageIn_worked (keeps : ∀ i b, (f i b).isStorage = b.isStorage) (bs : List (Option Branch)) :
    storageIn (workedTable f bs) = (storageIn bs).map fun x => (x.1, f x.1 x.2) := by
  have from_index : ∀ (bs : List (Option Branch)) (k : Nat),
      ((((bs.zipIdx k).map fun x => x.1.map (f x.2)).zipIdx k).findSome? fun x =>
        match x.1 with
        | some b => if b.isStorage then some (x.2, b) else none
        | none => none) =
      ((bs.zipIdx k).findSome? fun x =>
        match x.1 with
        | some b => if b.isStorage then some (x.2, b) else none
        | none => none).map fun x => (x.1, f x.1 x.2) := by
    intro bs
    induction bs with
    | nil => exact fun _ => rfl
    | cons o bs ih =>
      intro k
      rw [List.zipIdx_cons, List.map_cons, List.zipIdx_cons, List.findSome?_cons, List.findSome?_cons, ih (k + 1)]
      cases o with
      | none => rfl
      | some b =>
        cases hb : b.isStorage with
        | true => simp [keeps, hb]
        | false => simp [keeps, hb]
  exact from_index bs 0

/-- Figures read off two tables record by record are the same. -/
theorem map_worked_congr {α : Type} {p q : Option Branch → α} (none_same : q none = p none)
    (same : ∀ i b, bs[i]? = some (some b) → q (some (f i b)) = p (some b)) :
    (workedTable f bs).map q = bs.map p := by
  apply List.ext_getElem?
  intro i
  rw [List.getElem?_map, workedTable_getElem?, List.getElem?_map]
  cases hb : bs[i]? with
  | none => rfl
  | some o =>
    cases o with
    | none => exact congrArg some none_same
    | some b => exact congrArg some (same i b hb)

end

/-! ## The part as the sequencer leaves it, before the scheduler's work -/

/-- A branch record closed, metered and seen by the monitor. -/
def Branch.monitored (lim : Limits) (tc i : Nat) (b : Branch) : Branch := (monitorBranch i (b.metered lim tc i)).1

/-- Readings-closed up to the calculator's work. -/
def State.tabled (s : State) : State := monitorTable (meterTable s.fc.pEff (closeTable s))

/-- Readings-closed up to the sequencer's work. -/
def State.staged (s : State) : State := sequencerClosed (pressureClosed s.tabled)

theorem readingsClosed_eq (s : State) :
    readingsClosed s = storageClosed s.fc.pEff (storageAvailable s.storage) s.staged := rfl

section
variable {s t : State}

theorem closeTable_branches (s : State) :
    (closeTable s).branches = workedTable (fun i b => (closeBranch s.limits i b).1) s.branches := by
  change List.map _ (List.map _ _) = List.map _ _
  rw [List.map_map]
  exact List.map_congr_left fun x _ => Option.map_map ..

theorem tabled_branches (s : State) : s.tabled.branches = workedTable (Branch.monitored s.limits s.fc.pEff) s.branches := by
  have metered : (meterTable s.fc.pEff (closeTable s)).branches =
      workedTable (fun i b => (meterBranch s.fc.pEff i b).1) (closeTable s).branches := by
    change List.map _ (List.map _ _) = List.map _ _
    rw [List.map_map]
    exact List.map_congr_left fun x _ => Option.map_map ..
  have seen : s.tabled.branches =
      workedTable (fun i b => (monitorBranch i b).1) (meterTable s.fc.pEff (closeTable s)).branches := by
    change List.map _ (List.map _ _) = List.map _ _
    rw [List.map_map]
    exact List.map_congr_left fun x _ => Option.map_map ..
  rw [seen, metered, closeTable_branches, workedTable_worked, workedTable_worked]
  rfl

theorem staged_branches (s : State) : s.staged.branches = workedTable (Branch.monitored s.limits s.fc.pEff) s.branches :=
  tabled_branches s

theorem tabled_header (s : State) :
    s.tabled.header = s.header.map fun h => { h with station := h.station.close s.limits.kStale s.limits.kLost } :=
  header_closeTable s

/-- Before the scheduler's work the scheduler stands. -/
theorem staged_frame (s : State) : s.staged = { s with
    branches := s.staged.branches, header := s.staged.header, load := s.staged.load, press := s.staged.press,
    seq := s.staged.seq, events := s.staged.events } := rfl

theorem told_staged (s : State) : s.Told s.staged := by
  have closed : s.ClosingOnly (closeTable s) := ⟨rfl, _, rfl⟩
  have metered : ∀ tc (u : State), u.ClosingOnly (meterTable tc u) := fun _ _ => ⟨rfl, _, rfl⟩
  have monitored : ∀ u : State, u.ClosingOnly (monitorTable u) := fun _ => ⟨rfl, _, rfl⟩
  have judged : ∀ u : State, u.ClosingOnly (pressureClosed u) := fun _ => ⟨rfl, _, rfl⟩
  have staged : ∀ u : State, u.ClosingOnly (sequencerClosed u) := fun _ => ⟨rfl, _, rfl⟩
  exact ((((closed.trans (metered _ _)).trans (monitored _)).trans (judged _)).trans (staged _)).told

theorem staged_load (s : State) : s.staged.load = loadFigures s.fc.count s.store.mode (closeTable s).branches := rfl

theorem monitored_isStorage (lim : Limits) (tc i : Nat) (b : Branch) : (b.monitored lim tc i).isStorage = b.isStorage := by
  unfold Branch.monitored
  rw [monitorBranch_isStorage, Branch.isStorage, metered_part]
  rfl

theorem monitored_station (lim : Limits) (tc i : Nat) (b : Branch) :
    (b.monitored lim tc i).station = b.station.close lim.kStale lim.kLost := by
  have frame := (monitorBranch_frame i (b.metered lim tc i)).trans (metered_frame lim tc i)
  exact (Prod.mk.inj frame).2

theorem monitored_desc (lim : Limits) (tc i : Nat) (b : Branch) : (b.monitored lim tc i).desc = b.desc := by
  have frame := (monitorBranch_frame i (b.metered lim tc i)).trans (metered_frame lim tc i)
  exact (Prod.mk.inj frame).1

theorem monitored_meter (lim : Limits) (tc i : Nat) (b : Branch) :
    (b.monitored lim tc i).meter = (b.metered lim tc i).meter := monitorBranch_meter i _

theorem monitored_part_of_storage (lim : Limits) (tc i : Nat) {b : Branch} {d : StorageDesc} {n c : Option StorageCmd}
    (h : b.part = .storage d n c) : (b.monitored lim tc i).part = .storage d n c := by
  have metered : (b.metered lim tc i).part = .storage d n c := (metered_part lim tc i).trans h
  unfold Branch.monitored monitorBranch
  rw [metered]
  exact metered

theorem staged_storage (s : State) :
    s.staged.storage = s.storage.map fun x => (x.1, x.2.monitored s.limits s.fc.pEff x.1) := by
  unfold State.storage
  rw [staged_branches]
  exact storageIn_worked (monitored_isStorage _ _) _

/-! ## What moves of the sequencer leave of a ladder's settings -/

/-- A ladder's periods and its hold are no part of a move. -/
theorem Work.Leads.settings {w v : Work} (h : w.Leads v) :
    v.seq.inputHold = w.seq.inputHold ∧ ∀ l, (v.seq.ladder l).periods = (w.seq.ladder l).periods ∧
      (v.seq.ladder l).requestHold = (w.seq.ladder l).requestHold := by
  have of_move : ∀ {L M : Ladder}, L.Move M → M.periods = L.periods ∧ M.requestHold = L.requestHold := by
    intro L M move
    cases move with
    | flags _ _ periods hold _ _ => exact ⟨periods, hold⟩
    | each f _ _ => exact ⟨rfl, rfl⟩
    | stays p f _ _ => exact ⟨modUnit_periods _ p f, modUnit_requestHold _ p f⟩
    | leaves p f _ _ => exact ⟨modUnit_periods _ p f, modUnit_requestHold _ p f⟩
    | enters p f _ _ _ _ _ => exact ⟨modUnit_periods _ p f, modUnit_requestHold _ p f⟩
  unfold Work.Leads at h
  generalize w.seq = q at h
  generalize v.seq = r at h
  induction h with
  | refl => exact ⟨rfl, fun _ => ⟨rfl, rfl⟩⟩
  | tail _ move ih =>
    obtain ⟨hold, each⟩ := ih
    cases move with
    | waits b => exact ⟨hold, fun l => by
        cases l
        · exact each .chiller
        · exact each .pump⟩
    | ladder m moved =>
      refine ⟨(by cases m <;> exact hold), fun l => ?_⟩
      by_cases own : l = m
      · subst own
        rw [ladder_setLadder]
        exact ⟨(of_move moved).1.trans (each _).1, (of_move moved).2.trans (each _).2⟩
      · rw [ladder_setLadder_of_ne _ _ own]
        exact each l

theorem staged_settings (s : State) :
    s.staged.seq.inputHold = s.seq.inputHold ∧ ∀ l,
      (s.staged.seq.ladder l).periods = (s.seq.ladder l).periods ∧
      (s.staged.seq.ladder l).requestHold = (s.seq.ladder l).requestHold := by
  have written : (pressureClosed s.tabled).seq.inputHold = s.seq.inputHold ∧ ∀ l,
      ((pressureClosed s.tabled).seq.ladder l).periods = (s.seq.ladder l).periods ∧
      ((pressureClosed s.tabled).seq.ladder l).requestHold = (s.seq.ladder l).requestHold :=
    ⟨rfl, fun l => by cases l <;> exact ⟨rfl, rfl⟩⟩
  have sequenced : ∀ u : State, Work.Leads ⟨u.seq, []⟩ ⟨(sequencerClosed u).seq, []⟩ := fun u =>
    (leads_evaluate _ _ _).after ((leads_writeSupply _ _).after
      ((leads_judgeAll u.seq _ _).after (leads_closeUnits (w := ⟨u.seq, []⟩) (lim := u.limits))))
  obtain ⟨hold, each⟩ := (sequenced (pressureClosed s.tabled)).settings
  exact ⟨hold.trans written.1, fun l => ⟨(each l).1.trans (written.2 l).1, (each l).2.trans (written.2 l).2⟩⟩

end

end Sys2Proof.Machine

/-! The load figures at readings-closed, read off the table that CYCLE_END leaves (03, R48, R49, R53 to R56). -/

namespace Sys2Proof.Machine

/-! ## Figures of one closed record -/

section
variable {b : Branch} (lim : Limits) (tc i : Nat)

/-- A station that the closing rule leaves fresh has values. -/
theorem values_of_isFresh_close {α : Type} {ks kl : Nat} {t : Station α} (h : (t.close ks kl).isFresh = true) :
    ∃ v, (t.close ks kl).values = some v := by
  cases joined : t.joined with
  | true =>
    have closed : (t.close ks kl).joined = true := by
      unfold Station.close
      rw [if_pos joined]
      exact joined
    unfold Station.isFresh at h
    rw [closed] at h
    cases h
  | false =>
    have after := (t.close_after ks kl).1 joined
    cases hc : t.cycle with
    | some r =>
      obtain ⟨closed, -, -, -⟩ := after.fresh r hc
      exact ⟨r.values, by unfold Station.values; rw [closed]; rfl⟩
    | none =>
      have missed : ∀ l, t.cls ≠ .fresh l := by
        intro l
        cases hf : t.faultMark <;> simp [Station.cls, hc, hf]
      obtain ⟨online, loc, -⟩ := freshnessTable_missed ks kl t.freshness t.miss missed
      simp [Station.isFresh, Station.close, joined, online, loc] at h

/-- P_used of a closed record, by the last power that metering leaves (03, R49). -/
theorem usedPower_closed (b : Branch) : (closeBranch lim i b).1.usedPower =
    if (b.monitored lim tc i).station.joined then none
    else match (b.monitored lim tc i).station.freshness with
      | .online => some (b.monitored lim tc i).meter.lastPower
      | .localCtl => some (b.monitored lim tc i).meter.lastPower
      | .held => some (b.monitored lim tc i).meter.lastPower
      | .stale => some (b.monitored lim tc i).meter.lastPower
      | .lost => some ((b.monitored lim tc i).desc.substitute * 1000)
      | .awaiting => none := by
  rw [monitored_station, monitored_desc, monitored_meter]
  have fresh : ∀ v, (closeBranch lim i b).1.freshValues = some v → (b.metered lim tc i).meter.lastPower = v.power :=
    fun v hv => congrArg Meter.lastPower (meterBranch_of_fresh tc i hv)
  have missed : (closeBranch lim i b).1.freshValues = none →
      (b.metered lim tc i).meter.lastPower = (closeBranch lim i b).1.meter.lastPower := by
    intro hv
    obtain ⟨-, -, -, -, kept⟩ := meterBranch_missed_keeps tc i hv
    exact kept
  generalize hc : (closeBranch lim i b).1 = c at fresh missed
  have desc : c.desc = b.desc := hc ▸ rfl
  have station : c.station = b.station.close lim.kStale lim.kLost := hc ▸ rfl
  have values : c.station.isFresh = true → ∃ v, c.station.values = some v := by
    rw [station]
    exact values_of_isFresh_close
  rw [← desc, ← station]
  unfold Branch.usedPower
  unfold Branch.freshValues at fresh missed
  cases joined : c.station.joined with
  | true => rfl
  | false =>
    have heard : c.station.isFresh = true →
        c.station.values.map (·.power) = some (b.metered lim tc i).meter.lastPower := by
      intro on
      obtain ⟨v, hv⟩ := values on
      rw [if_pos on, hv] at fresh
      rw [hv, fresh v rfl, Option.map_some]
    have unheard : c.station.isFresh = false →
        c.meter.lastPower = (b.metered lim tc i).meter.lastPower := by
      intro off
      rw [off] at missed
      exact (missed rfl).symm
    have isFresh : c.station.isFresh = (decide (c.station.freshness = .online) || decide (c.station.freshness = .localCtl)) := by
      unfold Station.isFresh
      rw [joined]
      rfl
    cases state : c.station.freshness with
    | awaiting => rfl
    | online => exact heard (by rw [isFresh, state]; rfl)
    | localCtl => exact heard (by rw [isFresh, state]; rfl)
    | held => exact congrArg some (unheard (by rw [isFresh, state]; rfl))
    | stale => exact congrArg some (unheard (by rw [isFresh, state]; rfl))
    | lost => rfl

/-! ## The figures of one record, as a table shows them -/

/-- A CONSUMER record that had not joined, in one of the freshness states given. -/
def meteredIn (fs : List Freshness) (b : Option Branch) : Bool :=
  b.any fun x => !x.isStorage && !x.station.joined && fs.contains x.station.freshness

/-- The power a record of a closed table contributes to the load. -/
def powerUsed (b : Option Branch) : Nat :=
  match b with
  | some x =>
    if meteredIn [.online, .localCtl, .held, .stale] b then x.meter.lastPower
    else if meteredIn [.lost] b then x.desc.substitute * 1000 else 0
  | none => 0

/-- The power of a fresh STORAGE record. -/
def powerFresh (b : Option Branch) : Nat :=
  match b with
  | some x =>
    if x.isStorage = true ∧ x.station.joined = false ∧
      (x.station.freshness = .online ∨ x.station.freshness = .localCtl) then x.meter.lastPower else 0
  | none => 0

theorem powerUsed_monitored (b : Branch) :
    powerUsed (some (b.monitored lim tc i)) = consumerPower (some (closeBranch lim i b).1) := by
  have type : (closeBranch lim i b).1.isStorage = (b.monitored lim tc i).isStorage := (monitored_isStorage lim tc i b).symm
  unfold consumerPower
  dsimp only
  rw [usedPower_closed lim tc i b, type]
  unfold powerUsed meteredIn
  generalize b.monitored lim tc i = m
  cases hs : m.isStorage <;> cases hj : m.station.joined <;> cases hf : m.station.freshness <;> simp [hs, hj, hf]

/-- A record counts among those of some freshness states, none of them AWAITING. -/
theorem meteredIn_monitored {fs : List Freshness} (heard : fs.contains .awaiting = false) (b : Branch) :
    meteredIn fs (some (b.monitored lim tc i)) = contributes fs (some (closeBranch lim i b).1) := by
  have type : (closeBranch lim i b).1.isStorage = (b.monitored lim tc i).isStorage := (monitored_isStorage lim tc i b).symm
  have station : (closeBranch lim i b).1.station = (b.monitored lim tc i).station := (monitored_station lim tc i b).symm
  unfold contributes
  dsimp only
  rw [usedPower_closed lim tc i b, type, station]
  unfold meteredIn
  generalize b.monitored lim tc i = m
  cases hj : m.station.joined with
  | true => simp [hj]
  | false =>
    cases hf : m.station.freshness with
    | awaiting =>
      have unheard : Freshness.awaiting ∉ fs := by simpa using heard
      simp [hj, hf, unheard]
    | _ => simp [hj, hf]

theorem powerFresh_monitored (b : Branch) : powerFresh (some (b.monitored lim tc i)) =
    if (closeBranch lim i b).1.isStorage then ((closeBranch lim i b).1.freshValues.map (·.power)).getD 0 else 0 := by
  have type : (closeBranch lim i b).1.isStorage = (b.monitored lim tc i).isStorage := (monitored_isStorage lim tc i b).symm
  have station : (closeBranch lim i b).1.station = (b.monitored lim tc i).station := (monitored_station lim tc i b).symm
  have used := usedPower_closed lim tc i b
  unfold Branch.usedPower at used
  unfold Branch.freshValues Station.isFresh
  rw [type, station]
  rw [station] at used
  unfold powerFresh
  generalize b.monitored lim tc i = m at used
  cases hj : m.station.joined with
  | true => simp [hj]
  | false =>
    cases hf : m.station.freshness with
    | online =>
      rw [hj, hf] at used
      have power : m.station.values.map (·.power) = some m.meter.lastPower := used
      simp [hj, hf, power]
    | localCtl =>
      rw [hj, hf] at used
      have power : m.station.values.map (·.power) = some m.meter.lastPower := used
      simp [hj, hf, power]
    | _ => simp [hj, hf]

end

/-! ## The figures of the table -/

section
variable {bs : List (Option Branch)}

/-- The power of a STORAGE record as the closing rule leaves it. -/
def freshPower (b : Option Branch) : Nat :=
  match b with
  | some x => if x.isStorage then (x.freshValues.map (·.power)).getD 0 else 0
  | none => 0

/-- With one STORAGE record at most, the storage power is the sum over the table (03, R48). -/
theorem sum_freshPower (one : storageCount bs ≤ 1) : (bs.map freshPower).sum = storagePower bs := by
  have bare : ∀ bs : List (Option Branch), storageCount bs = 0 → (bs.map freshPower).sum = 0 := by
    intro bs none_there
    refine List.sum_eq_zero fun p hp => ?_
    obtain ⟨o, ho, rfl⟩ := List.mem_map.mp hp
    have other := List.countP_eq_zero.mp none_there o ho
    cases o with
    | none => rfl
    | some b => exact if_neg (by simpa using other)
  have from_index : ∀ (bs : List (Option Branch)) (k : Nat), storageCount bs ≤ 1 → (bs.map freshPower).sum =
      match (bs.zipIdx k).findSome? fun x =>
        match x.1 with
        | some b => if b.isStorage then some (x.2, b) else none
        | none => none with
      | some x => (x.2.freshValues.map (·.power)).getD 0
      | none => 0 := by
    intro bs
    induction bs with
    | nil => exact fun _ _ => rfl
    | cons o bs ih =>
      intro k one
      unfold storageCount at one
      rw [List.countP_cons] at one
      rw [List.zipIdx_cons, List.findSome?_cons, List.map_cons, List.sum_cons]
      cases o with
      | none =>
        rw [ih (k + 1) (by unfold storageCount; omega)]
        exact Nat.zero_add _
      | some b =>
        cases hb : b.isStorage with
        | true =>
          rw [bare bs (by unfold storageCount; simp [hb] at one; simpa using one)]
          simp [freshPower, hb]
        | false =>
          rw [ih (k + 1) (by unfold storageCount; omega)]
          simp [freshPower, hb]
  exact from_index bs 0 one

theorem storageCount_worked {f : Nat → Branch → Branch} (keeps : ∀ i b, (f i b).isStorage = b.isStorage)
    (bs : List (Option Branch)) : storageCount (workedTable f bs) = storageCount bs := by
  have types : (workedTable f bs).map (fun b => b.any (·.isStorage)) = bs.map fun b => b.any (·.isStorage) :=
    map_worked_congr rfl fun i b _ => keeps i b
  have counted : ∀ bs : List (Option Branch), storageCount bs = (bs.map fun b => b.any (·.isStorage)).countP id :=
    fun bs => by
      rw [List.countP_map]
      rfl
  rw [counted, counted, types]

end

end Sys2Proof.Machine

/-! The scheduler's work at readings-closed (09, R154, R155). -/

namespace Sys2Proof.Machine

/-! ## The flags brought up to date (09, R155) -/

section
variable {q : Scheduler} {st : Option (Nat × Branch)} {count : CycleCount}

/-- The flags, and the forced HOLD. -/
theorem sync_eq (q : Scheduler) (st : Option (Nat × Branch)) (count : CycleCount) :
    (q.sync count st).1 = { q with
      full := isFull st q.soc, empty := isEmpty st q.soc
      mode := if (isFull st q.soc = true ∧ q.mode = .charge) ∨ (isEmpty st q.soc = true ∧ q.mode = .discharge)
        then .hold else q.mode
      rate := if (isFull st q.soc = true ∧ q.mode = .charge) ∨ (isEmpty st q.soc = true ∧ q.mode = .discharge)
        then 0 else q.rate
      lastChange := if (isFull st q.soc = true ∧ q.mode = .charge) ∨ (isEmpty st q.soc = true ∧ q.mode = .discharge)
        then count else q.lastChange } := by
  by_cases forced : (isFull st q.soc = true ∧ q.mode = .charge) ∨ (isEmpty st q.soc = true ∧ q.mode = .discharge)
  · rw [sync_forced forced]
    simp only [if_pos forced]
  · rw [sync_unforced (fun hf hm => forced (.inl ⟨hf, hm⟩)) fun he hm => forced (.inr ⟨he, hm⟩)]
    simp only [if_neg forced]

theorem flagNotes_sync (q : Scheduler) (st : Option (Nat × Branch)) (count : CycleCount) :
    flagNotes st q ⊆ (q.sync count st).2 := by
  by_cases forced : (isFull st q.soc = true ∧ q.mode = .charge) ∨ (isEmpty st q.soc = true ∧ q.mode = .discharge)
  · rw [sync_forced forced]
    exact List.subset_append_left _ _
  · rw [sync_unforced (fun hf hm => forced (.inl ⟨hf, hm⟩)) fun he hm => forced (.inr ⟨he, hm⟩)]
    exact fun _ h => h

theorem storageFull_sync (full : isFull st q.soc = true) (was : q.full = false) :
    (⟨.storageFull, storageSubject st, (q.soc / Config.joulesPerKWh : Nat)⟩ : Note) ∈ (q.sync count st).2 := by
  refine flagNotes_sync q st count (List.mem_append_left _ ?_)
  rw [full, was]
  exact List.mem_singleton.mpr rfl

theorem storageEmpty_sync (empty : isEmpty st q.soc = true) (was : q.empty = false) :
    (⟨.storageEmpty, storageSubject st, 0⟩ : Note) ∈ (q.sync count st).2 := by
  refine flagNotes_sync q st count (List.mem_append_right _ ?_)
  rw [empty, was]
  exact List.mem_singleton.mpr rfl

theorem storageMode_sync
    (forced : (isFull st q.soc = true ∧ q.mode = .charge) ∨ (isEmpty st q.soc = true ∧ q.mode = .discharge)) :
    (⟨.storageMode, storageSubject st, StorageMode.hold.code⟩ : Note) ∈ (q.sync count st).2 := by
  rw [sync_forced forced]
  exact List.mem_append_right _ (List.mem_singleton.mpr rfl)

end

/-! ## The scheduler's work, case by case (09, R154) -/

section
variable {u : State} {i : Nat} {m : Branch} {d : StorageDesc} {n c : Option StorageCmd} (tc : Nat) (was : Bool)

theorem storageClosed_of_absent (h : u.storage = none) : storageClosed tc was u = u := by
  unfold storageClosed
  rw [h]

theorem storageClosed_of_joined (h : u.storage = some (i, m)) (joined : m.station.joined = true) :
    storageClosed tc was u = u := by
  unfold storageClosed
  rw [h]
  exact if_pos joined

/-- The scheduler after its charge and its flags, with what that has noted. -/
def State.charged (u : State) (tc : Nat) (m : Branch) : Scheduler × List Note :=
  ({ u.store with soc := socAfter tc m u.store.soc } : Scheduler).sync u.fc.count u.storage

/-- The part at that point. -/
def State.chargedState (u : State) (tc : Nat) (m : Branch) : State :=
  ({ u with store := (u.charged tc m).1 } : State).notes (u.charged tc m).2

theorem storageClosed_of_open (h : u.storage = some (i, m)) (joined : m.station.joined = false) :
    storageClosed tc was u =
      if m.available = was then (u.chargedState tc m).writeStorageCmd else (u.chargedState tc m).evaluateMode := by
  unfold storageClosed
  rw [h]
  dsimp only
  rw [if_neg (by simp [joined])]
  split
  · rfl
  · rfl

section
variable (h : u.storage = some (i, m)) (joined : m.station.joined = false)
include h joined

/-- The SOC and the flags are the charge's. -/
theorem storageClosed_charge :
    (storageClosed tc was u).store.soc = (u.charged tc m).1.soc ∧
      (storageClosed tc was u).store.full = (u.charged tc m).1.full ∧
      (storageClosed tc was u).store.empty = (u.charged tc m).1.empty := by
  rw [storageClosed_of_open tc was h joined]
  split
  · rw [writeStorageCmd_frame]
    exact ⟨rfl, rfl, rfl⟩
  · rw [congrArg State.store (evaluateMode_frame (u.chargedState tc m))]
    have kept := evaluate_kept (q := (u.chargedState tc m).store) (st := (u.chargedState tc m).storage)
      (count := (u.chargedState tc m).fc.count)
    rw [kept]
    exact ⟨rfl, rfl, rfl⟩

/-- The records stand but for the command written into the STORAGE record. -/
theorem storageClosed_branches (part : m.part = .storage d n c) :
    (storageClosed tc was u).branches = u.branches.set i (some { m with
      part := .storage d (if m.station.freshness = .awaiting then n
        else some ⟨(storageClosed tc was u).store.mode, (storageClosed tc was u).store.rate⟩) c }) := by
  rw [storageClosed_of_open tc was h joined]
  split
  · rw [writeStorageCmd_branches (s := u.chargedState tc m) h part, writeStorageCmd_frame]
    rfl
  · unfold State.evaluateMode
    rw [writeStorageCmd_branches (s := (u.chargedState tc m).schedule Scheduler.evaluate) h part, writeStorageCmd_frame]
    rfl

theorem storageClosed_told :
    ∃ rs : List EventRecord, (storageClosed tc was u).events =
      rs.foldl EventList.append (u.notes (u.charged tc m).2).events := by
  rw [storageClosed_of_open tc was h joined]
  split
  · rw [writeStorageCmd_frame]
    exact ⟨[], rfl⟩
  · obtain ⟨ns, told⟩ := (storeOnly_evaluateMode (u.chargedState tc m)).told
    exact ⟨ns.map fun n => ⟨u.fc.count, u.fc.position, n⟩, told.trans List.foldl_map.symm⟩

theorem storageClosed_store_of_same (same : m.available = was) : (storageClosed tc was u).store = (u.charged tc m).1 := by
  rw [storageClosed_of_open tc was h joined, if_pos same, writeStorageCmd_frame]
  rfl

theorem storageClosed_evaluated (moved : m.available ≠ was) : ∃ ev : EventList,
    ModeEvaluated (u.charged tc m).1 { storageClosed tc was u with branches := u.branches, events := ev }
      (storageClosed tc was u) := by
  have whole : storageClosed tc was u = (u.chargedState tc m).evaluateMode := by
    rw [storageClosed_of_open tc was h joined, if_neg moved]
  have frame := (storeOnly_evaluateMode (u.chargedState tc m)).frame
  rw [← whole] at frame
  refine ⟨(u.chargedState tc m).events, ?_⟩
  generalize hx : ({ storageClosed tc was u with branches := u.branches, events := (u.chargedState tc m).events } : State) = x
  have start : ({ x with store := (u.charged tc m).1 } : State) = u.chargedState tc m := by
    rw [← hx, frame]
    rfl
  have evaluated := modeEvaluated_evaluateMode x (u.charged tc m).1
  rw [start, ← whole] at evaluated
  exact evaluated

end

end

end Sys2Proof.Machine

/-! The tallies of a cycle, the load and the storage branch at CYCLE_END (02, R38, R39; 03, R53 to R56; 09, R154). -/

namespace Sys2Proof.Machine

section
variable {s : State}

/-! ## The load as the table shows it -/

/-- Figures that the storage command is no part of are those of the table before it is written. -/
theorem map_writeStorageCmd {α : Type} {p : Option Branch → α}
    (keeps : ∀ x cmd, p (some (Branch.withStorageCmd cmd x)) = p (some x)) (s : State) :
    s.writeStorageCmd.branches.map p = s.branches.map p := by
  unfold State.writeStorageCmd
  split
  next x storage =>
    split
    · rfl
    · obtain ⟨lt, here⟩ := List.getElem?_eq_some_iff.mp (branch?_eq_some_iff.mp (branch?_of_storage storage))
      change (s.branches.set _ _).map p = _
      rw [List.map_set, keeps, ← here, ← List.getElem_map p (h := by simpa using lt), List.set_getElem_self]
  · rfl

theorem map_storageClosed {α : Type} {p : Option Branch → α}
    (keeps : ∀ x cmd, p (some (Branch.withStorageCmd cmd x)) = p (some x)) (tc : Nat) (was : Bool) (u : State) :
    (storageClosed tc was u).branches.map p = u.branches.map p := by
  unfold storageClosed
  split
  · rfl
  · split
    · rfl
    · dsimp only
      rw [map_writeStorageCmd keeps]
      split <;> rfl

theorem withStorageCmd_type (cmd : StorageCmd) (x : Branch) : (x.withStorageCmd cmd).isStorage = x.isStorage := by
  unfold Branch.withStorageCmd Branch.isStorage
  cases hp : x.part <;> simp [hp]

theorem meteredIn_withStorageCmd (fs : List Freshness) (x : Branch) (cmd : StorageCmd) :
    meteredIn fs (some (x.withStorageCmd cmd)) = meteredIn fs (some x) := by
  have station := (Prod.mk.inj (withStorageCmd_frame cmd x)).2
  unfold meteredIn
  rw [Option.any_some, Option.any_some, withStorageCmd_type, station]

theorem powerUsed_withStorageCmd (x : Branch) (cmd : StorageCmd) :
    powerUsed (some (x.withStorageCmd cmd)) = powerUsed (some x) := by
  have desc := (Prod.mk.inj (withStorageCmd_frame cmd x)).1
  unfold powerUsed
  dsimp only
  rw [meteredIn_withStorageCmd, meteredIn_withStorageCmd, withStorageCmd_meter, desc]

theorem powerFresh_withStorageCmd (x : Branch) (cmd : StorageCmd) :
    powerFresh (some (x.withStorageCmd cmd)) = powerFresh (some x) := by
  have station := (Prod.mk.inj (withStorageCmd_frame cmd x)).2
  unfold powerFresh
  dsimp only
  rw [withStorageCmd_type, withStorageCmd_meter, station]

/-- A figure of the table after readings-closed is the figure that the load reads off the closed records. -/
theorem map_readingsClosed {α : Type} {p q : Option Branch → α}
    (keeps : ∀ x cmd, p (some (Branch.withStorageCmd cmd x)) = p (some x)) (none_same : p none = q none)
    (same : ∀ i b, p (some (Branch.monitored s.limits s.fc.pEff i b)) = q (some (closeBranch s.limits i b).1)) :
    (readingsClosed s).branches.map p = (closeTable s).branches.map q := by
  rw [readingsClosed_eq, map_storageClosed keeps, staged_branches, closeTable_branches]
  apply List.ext_getElem?
  intro i
  rw [List.getElem?_map, workedTable_getElem?, List.getElem?_map, workedTable_getElem?]
  rcases s.branches[i]? with _ | _ | b
  · rfl
  · exact congrArg some none_same
  · exact congrArg some (same i b)

theorem powerUsed_readingsClosed :
    (readingsClosed s).branches.map powerUsed = (closeTable s).branches.map consumerPower :=
  map_readingsClosed powerUsed_withStorageCmd rfl fun i b => powerUsed_monitored _ _ i b

theorem powerFresh_readingsClosed :
    (readingsClosed s).branches.map powerFresh = (closeTable s).branches.map freshPower :=
  map_readingsClosed powerFresh_withStorageCmd rfl fun i b => powerFresh_monitored _ _ i b

theorem meteredIn_readingsClosed {fs : List Freshness} (heard : fs.contains .awaiting = false) :
    (readingsClosed s).branches.countP (meteredIn fs) = (closeTable s).branches.countP (contributes fs) := by
  have counted : ∀ (p : Option Branch → Bool) (bs : List (Option Branch)), bs.countP p = (bs.map p).countP id := by
    intro p bs
    rw [List.countP_map]
    rfl
  rw [counted, counted, map_readingsClosed (q := contributes fs) (meteredIn_withStorageCmd fs) rfl fun i b => meteredIn_monitored _ _ i heard b]

theorem readingsClosed_load (s : State) :
    (readingsClosed s).load = loadFigures s.fc.count s.store.mode (closeTable s).branches := by
  have kept : ∀ tc was (u : State), (storageClosed tc was u).load = u.load := fun tc was u =>
    (congrArg State.load (storeOnly_storageClosed u tc was).frame :)
  rw [readingsClosed_eq, kept]
  exact staged_load s

/-- The staging load, its storage term by the mode the scheduler held (03, R53, R54). -/
theorem loadFigures_stage (count : CycleCount) (mode : StorageMode) (bs : List (Option Branch)) :
    let cons := (bs.map consumerPower).sum
    let power := storagePower bs
    let x := loadFigures count mode bs
    (mode = .hold → x.lStage = cons / 1000 ∧ x.sign = .zero ∧ x.magnitude = 0) ∧
    (mode = .charge → x.lStage = (cons + power) / 1000 ∧ x.magnitude = power / 1000 ∧
      x.sign = if power = 0 then .zero else .positive) ∧
    (mode = .discharge → x.lStage = (cons - power) / 1000 ∧ x.magnitude = power / 1000 ∧
      x.sign = if power = 0 then .zero else .negative) := by
  intro cons power x
  refine ⟨?_, ?_, ?_⟩
  · rintro rfl
    refine ⟨?_, rfl, Nat.zero_div 1000⟩
    change (((cons : Int) + 0) / 1000).toNat = _
    omega
  · rintro rfl
    refine ⟨?_, ?_, ?_⟩
    · change (((cons : Int) + (power : Int)) / 1000).toNat = _
      omega
    · change ((power : Int)).natAbs / 1000 = _
      rw [Int.natAbs_natCast]
    · change (if (0 : Int) < (power : Int) then _ else if (power : Int) < 0 then _ else _) = _
      by_cases still : power = 0
      · rw [if_pos still, still]
        rfl
      · rw [if_neg still, if_pos (by omega)]
  · rintro rfl
    refine ⟨?_, ?_, ?_⟩
    · change (((cons : Int) + -(power : Int)) / 1000).toNat = _
      omega
    · change (-(power : Int)).natAbs / 1000 = _
      rw [Int.natAbs_neg, Int.natAbs_natCast]
    · change (if (0 : Int) < -(power : Int) then _ else if -(power : Int) < 0 then _ else _) = _
      by_cases still : power = 0
      · rw [if_pos still, still]
        rfl
      · rw [if_neg still, if_neg (by omega), if_pos (by omega)]

end

end Sys2Proof.Machine

/-! The statement on the tallies, the load and the storage branch at CYCLE_END. -/

namespace Sys2Proof.Machine

section
variable {s u : State} {i : Nat} {b : Branch} {d : StorageDesc}

theorem part_of_storageDesc (desc : b.storageDesc = some d) : ∃ n c, b.part = .storage d n c := by
  unfold Branch.storageDesc at desc
  cases part : b.part with
  | consumer t n c =>
    rw [part] at desc
    cases desc
  | storage e n c =>
    rw [part] at desc
    cases desc
    exact ⟨n, c, rfl⟩

theorem storageDesc_of_part {n c : Option StorageCmd} (part : b.part = .storage d n c) : b.storageDesc = some d := by
  unfold Branch.storageDesc
  rw [part]

theorem freshValues_monitored (lim : Limits) (tc i : Nat) (b : Branch) :
    (b.monitored lim tc i).freshValues = (closeBranch lim i b).1.freshValues :=
  freshValues_congr (monitored_station lim tc i b)

/-- The SOC after a cycle in which the STORAGE record answered (09, R154). -/
theorem socAfter_of_answered {lim : Limits} {tc : Nat} (soc : Nat) (hj : b.station.joined = false)
    {r : Reading BranchValues} (hr : b.station.cycle = some r) {dir : Direction} (tail : r.values.tail = .storage dir)
    (desc : b.storageDesc = some d) :
    socAfter tc (b.monitored lim tc i) soc = chargeAfter d.full soc (r.values.power * tc) dir := by
  obtain ⟨n, c, part⟩ := part_of_storageDesc desc
  have monitored := storageDesc_of_part (monitored_part_of_storage lim tc i part)
  unfold socAfter
  rw [freshValues_monitored, freshValues_closed_of_answered lim i hj hr, monitored]
  dsimp only
  rw [tail]

theorem socAfter_of_missed {lim : Limits} {tc : Nat} (soc : Nat) (hj : b.station.joined = false)
    (hc : b.station.cycle = none) : socAfter tc (b.monitored lim tc i) soc = soc := by
  unfold socAfter
  rw [freshValues_monitored, freshValues_closed_of_missed lim i hj hc]

/-- The scheduler but for what its work at readings-closed changes. -/
def Scheduler.settings (q : Scheduler) : Scheduler :=
  { q with soc := 0, full := false, empty := false, mode := .hold, rate := 0, window := none, lastChange := 0 }

theorem settings_charged (u : State) (tc : Nat) (m : Branch) : (u.charged tc m).1.settings = u.store.settings := by
  unfold State.charged
  rw [sync_eq]
  rfl

/-- The scheduler's work at readings-closed leaves the clock and both schedules. -/
theorem settings_storageClosed (tc : Nat) (was : Bool) (u : State) :
    (storageClosed tc was u).store.settings = u.store.settings := by
  cases h : u.storage with
  | none => rw [storageClosed_of_absent tc was h]
  | some x =>
    cases joined : x.2.station.joined with
    | true => rw [storageClosed_of_joined (i := x.1) tc was h joined]
    | false =>
      rw [← settings_charged u tc x.2]
      by_cases same : x.2.available = was
      · rw [storageClosed_store_of_same (i := x.1) tc was h joined same]
      · obtain ⟨ev, evaluated⟩ := storageClosed_evaluated (i := x.1) tc was h joined same
        rw [evaluated.kept]
        rfl

theorem joined_close {α : Type} (ks kl : Nat) (t : Station α) : (t.close ks kl).joined = t.joined := by
  unfold Station.close
  split
  · rfl
  next open_ => exact (Bool.eq_false_iff.mpr open_).symm

/-- The scheduler after its charge, by the flags that it leaves. -/
theorem charged_eq (tc : Nat) {m : Branch} (h : u.storage = some (i, m)) (desc : m.storageDesc = some d) :
    let r := (u.charged tc m).1
    r.soc = socAfter tc m u.store.soc ∧ (r.full = true ↔ r.soc = d.full) ∧ (r.empty = true ↔ r.soc = 0) ∧
    r = { u.store with
      soc := r.soc, full := r.full, empty := r.empty
      mode := if (r.full = true ∧ u.store.mode = .charge) ∨ (r.empty = true ∧ u.store.mode = .discharge)
        then .hold else u.store.mode
      rate := if (r.full = true ∧ u.store.mode = .charge) ∨ (r.empty = true ∧ u.store.mode = .discharge)
        then 0 else u.store.rate
      lastChange := if (r.full = true ∧ u.store.mode = .charge) ∨ (r.empty = true ∧ u.store.mode = .discharge)
        then u.fc.count else u.store.lastChange } := by
  have part : storagePart u.storage = some d := by
    rw [h]
    exact desc
  have loaded : u.storage.isSome = true := by
    rw [h]
    rfl
  intro r
  have whole : r = _ := sync_eq { u.store with soc := socAfter tc m u.store.soc } u.storage u.fc.count
  rw [isFull_of_part part, isEmpty_of_some loaded] at whole
  rw [whole]
  exact ⟨rfl, decide_eq_true_iff, decide_eq_true_iff, rfl⟩

/-- What the charge notes (09, R155). -/
theorem charged_notes (tc : Nat) {m : Branch} (h : u.storage = some (i, m)) (desc : m.storageDesc = some d) :
    let r := (u.charged tc m).1
    let ns := (u.charged tc m).2
    (u.store.full = false → r.full = true → (⟨.storageFull, i, d.capacity⟩ : Note) ∈ ns) ∧
    (u.store.empty = false → r.empty = true → (⟨.storageEmpty, i, 0⟩ : Note) ∈ ns) ∧
    ((r.full = true ∧ u.store.mode = .charge) ∨ (r.empty = true ∧ u.store.mode = .discharge) →
      (⟨.storageMode, i, StorageMode.hold.code⟩ : Note) ∈ ns) := by
  intro r ns
  have part : storagePart u.storage = some d := by
    rw [h]
    exact desc
  have subject : storageSubject u.storage = i := by
    rw [h]
    rfl
  generalize hq : ({ u.store with soc := socAfter tc m u.store.soc } : Scheduler) = q
  have was : q.full = u.store.full ∧ q.empty = u.store.empty ∧ q.mode = u.store.mode := hq ▸ ⟨rfl, rfl, rfl⟩
  obtain ⟨full, empty, mode⟩ := was
  have whole : u.charged tc m = q.sync u.fc.count u.storage := hq ▸ rfl
  have flags := sync_eq q u.storage u.fc.count
  have isFull_r : r.full = isFull u.storage q.soc := by
    change (u.charged tc m).1.full = _
    rw [whole, flags]
  have isEmpty_r : r.empty = isEmpty u.storage q.soc := by
    change (u.charged tc m).1.empty = _
    rw [whole, flags]
  change (_ → _ → _ ∈ (u.charged tc m).2) ∧ (_ → _ → _ ∈ (u.charged tc m).2) ∧ (_ → _ ∈ (u.charged tc m).2)
  rw [isFull_r, isEmpty_r, ← full, ← empty, ← mode, whole, ← subject]
  refine ⟨fun clear is => ?_, fun clear is => storageEmpty_sync is clear, fun forced => storageMode_sync forced⟩
  have note := storageFull_sync (count := u.fc.count) is clear
  have capacity : q.soc / Config.joulesPerKWh = d.capacity := by
    rw [isFull_of_part part, decide_eq_true_eq] at is
    rw [is]
    exact Nat.mul_div_cancel _ (by decide)
  rw [capacity] at note
  exact note

/-! ## The scheduler's work at readings-closed, by the record that was there before -/

theorem staged_storage_of (storage : s.storage = some (i, b)) :
    s.staged.storage = some (i, b.monitored s.limits s.fc.pEff i) := by
  rw [staged_storage, storage]
  rfl

theorem monitored_joined (lim : Limits) (tc i : Nat) (b : Branch) :
    (b.monitored lim tc i).station.joined = b.station.joined := by
  rw [monitored_station, joined_close]

theorem monitored_storageDesc (lim : Limits) (tc i : Nat) (desc : b.storageDesc = some d) :
    (b.monitored lim tc i).storageDesc = some d := by
  obtain ⟨n, c, part⟩ := part_of_storageDesc desc
  exact storageDesc_of_part (monitored_part_of_storage lim tc i part)

theorem readingsClosed_of_joined (storage : s.storage = some (i, b)) (joined : b.station.joined = true) :
    readingsClosed s = s.staged :=
  storageClosed_of_joined _ _ (staged_storage_of storage) ((monitored_joined _ _ i b).trans joined)

/-- The scheduler after the charge of a cycle that has ended, with what that has noted. -/
def State.chargedAtEnd (s : State) (i : Nat) (b : Branch) : Scheduler × List Note :=
  s.staged.charged s.fc.pEff (b.monitored s.limits s.fc.pEff i)

theorem readingsClosed_charge (storage : s.storage = some (i, b)) (joined : b.station.joined = false) :
    (readingsClosed s).store.soc = (s.chargedAtEnd i b).1.soc ∧
      (readingsClosed s).store.full = (s.chargedAtEnd i b).1.full ∧
      (readingsClosed s).store.empty = (s.chargedAtEnd i b).1.empty :=
  storageClosed_charge _ _ (staged_storage_of storage) ((monitored_joined _ _ i b).trans joined)

theorem chargedAtEnd_eq (storage : s.storage = some (i, b)) (desc : b.storageDesc = some d) :
    let r := (s.chargedAtEnd i b).1
    r.soc = socAfter s.fc.pEff (b.monitored s.limits s.fc.pEff i) s.store.soc ∧ (r.full = true ↔ r.soc = d.full) ∧
    (r.empty = true ↔ r.soc = 0) ∧
    r = { s.store with
      soc := r.soc, full := r.full, empty := r.empty
      mode := if (r.full = true ∧ s.store.mode = .charge) ∨ (r.empty = true ∧ s.store.mode = .discharge)
        then .hold else s.store.mode
      rate := if (r.full = true ∧ s.store.mode = .charge) ∨ (r.empty = true ∧ s.store.mode = .discharge)
        then 0 else s.store.rate
      lastChange := if (r.full = true ∧ s.store.mode = .charge) ∨ (r.empty = true ∧ s.store.mode = .discharge)
        then s.fc.count else s.store.lastChange } :=
  charged_eq _ (staged_storage_of storage) (monitored_storageDesc _ _ i desc)

section
variable {n c : Option StorageCmd} (storage : s.storage = some (i, b)) (part : b.part = .storage d n c)
  (joined : b.station.joined = false)
include storage part joined

/-- The STORAGE record as CYCLE_END leaves it, the command written into it unless it is AWAITING (09, R153). -/
theorem readingsClosed_branches : (readingsClosed s).branches =
    s.staged.branches.set i (some { b.monitored s.limits s.fc.pEff i with
      part := .storage d (if (b.monitored s.limits s.fc.pEff i).station.freshness = .awaiting then n
        else some ⟨(readingsClosed s).store.mode, (readingsClosed s).store.rate⟩) c }) :=
  storageClosed_branches _ _ (staged_storage_of storage) ((monitored_joined _ _ i b).trans joined)
    (monitored_part_of_storage _ _ i part)

theorem readingsClosed_record : (readingsClosed s).branch? i = some { b.monitored s.limits s.fc.pEff i with
    part := .storage d (if (b.monitored s.limits s.fc.pEff i).station.freshness = .awaiting then n
      else some ⟨(readingsClosed s).store.mode, (readingsClosed s).store.rate⟩) c } := by
  have there := branch?_eq_some_iff.mp (branch?_of_storage (staged_storage_of storage))
  obtain ⟨lt, -⟩ := List.getElem?_eq_some_iff.mp there
  rw [branch?_eq_some_iff, readingsClosed_branches storage part joined, List.getElem?_set_self lt]

/-- With the command taken out of it again, the table is the one the sequencer left. -/
theorem readingsClosed_branches_set :
    (readingsClosed s).branches.set i (some { b.monitored s.limits s.fc.pEff i with part := .storage d n c }) =
      s.staged.branches := by
  have there := branch?_eq_some_iff.mp (branch?_of_storage (staged_storage_of storage))
  obtain ⟨lt, here⟩ := List.getElem?_eq_some_iff.mp there
  rw [readingsClosed_branches storage part joined, List.set_set, ← monitored_part_of_storage s.limits s.fc.pEff i part, ← here,
    List.set_getElem_self]

omit part in
/-- What the charge notes stands in the event list that CYCLE_END leaves. -/
theorem readingsClosed_appends {note : Note} (noted : note ∈ (s.chargedAtEnd i b).2) :
    s.Appends (readingsClosed s) ⟨s.fc.count, s.fc.position, note⟩ := by
  obtain ⟨qs, before⟩ := (told_staged s).records
  obtain ⟨rs, after⟩ := storageClosed_told s.fc.pEff (storageAvailable s.storage) (staged_storage_of storage)
    ((monitored_joined _ _ i b).trans joined)
  exact Appends_after qs before (Appends_then (notes_appends noted) rs after)

omit part in
theorem readingsClosed_store_of_same (same : (b.monitored s.limits s.fc.pEff i).available = b.available) :
    (readingsClosed s).store = (s.chargedAtEnd i b).1 := by
  refine storageClosed_store_of_same _ _ (staged_storage_of storage) ((monitored_joined _ _ i b).trans joined) ?_
  rw [storage]
  exact same

omit part in
theorem readingsClosed_evaluated (moved : (b.monitored s.limits s.fc.pEff i).available ≠ b.available) :
    ∃ ev : EventList, ModeEvaluated (s.chargedAtEnd i b).1
      { readingsClosed s with branches := s.staged.branches, events := ev } (readingsClosed s) := by
  refine storageClosed_evaluated _ _ (staged_storage_of storage) ((monitored_joined _ _ i b).trans joined) ?_
  rw [storage]
  exact moved

end

/-- Settles O48: the controller's tallies, the load off the closed table, the scheduler's work. -/
theorem cycleEndTallies : Obligations.CycleEndTallies := by
  intro s due
  have frame := (closingOnly_readingsClosed (endCycle s)).frame
  have settings := settings_storageClosed s.fc.pEff (storageAvailable s.storage) (endCycle s).staged
  obtain ⟨hold, each⟩ := staged_settings (endCycle s)
  have seq : (readingsClosed (endCycle s)).seq = (endCycle s).staged.seq := (storageClosed_header_seq _ _ _).2
  have load := readingsClosed_load (endCycle s)
  refine ⟨readingsClosed (endCycle s), exec_cycleEnd_of_due due, ?_, ?_, ?_, ?_, ?_, ?_, fun l => ?_, ?_, ?_, fun absent => ?_,
    fun i b d storage desc => ⟨fun joined => ?_, fun joined => ⟨fun missed => ?_, fun r dir answered tail => ?_⟩,
      fun n c part => ?_⟩⟩
  · have fc : (readingsClosed (endCycle s)).fc = (endCycle s).fc := (congrArg State.fc frame :)
    rw [fc]
    exact frame
  · have fc : (readingsClosed (endCycle s)).fc = (endCycle s).fc := (congrArg State.fc frame :)
    rw [fc]
    unfold endCycle
    have lamp : (decide (1 ≤ s.fc.good) && !s.fc.lamp) = if s.fc.good = 0 then false else !s.fc.lamp := by
      by_cases quiet : s.fc.good = 0
      · simp [quiet]
      · simp [quiet, Nat.one_le_iff_ne_zero]
    rw [lamp]
    rfl
  · rw [seq]
    exact hold
  · exact (congrArg Scheduler.clock settings :)
  · exact (congrArg Scheduler.active settings :)
  · exact (congrArg Scheduler.staged settings :)
  · rw [seq]
    exact each l
  · rw [load]
    rfl
  · have used : ((readingsClosed (endCycle s)).branches.map powerUsed).sum =
        ((closeTable (endCycle s)).branches.map consumerPower).sum := congrArg List.sum powerUsed_readingsClosed
    have fresh : ((readingsClosed (endCycle s)).branches.map powerFresh).sum =
        ((closeTable (endCycle s)).branches.map freshPower).sum := congrArg List.sum powerFresh_readingsClosed
    have stage := loadFigures_stage s.fc.count s.store.mode (closeTable (endCycle s)).branches
    rw [load]
    refine ⟨(congrArg (· / 1000) used).symm, (meteredIn_readingsClosed rfl).symm, (meteredIn_readingsClosed rfl).symm,
      (meteredIn_readingsClosed rfl).symm, fun one => ?_⟩
    have single : storageCount (closeTable (endCycle s)).branches ≤ 1 := by
      rw [closeTable_branches, storageCount_worked (f := fun i b => (closeBranch (endCycle s).limits i b).1) fun _ _ => rfl]
      exact one
    rw [← sum_freshPower single, ← used, ← fresh] at stage
    exact stage
  · have none_staged : (endCycle s).staged.storage = none := by
      rw [staged_storage, show (endCycle s).storage = none from absent]
      rfl
    exact (congrArg State.store (storageClosed_of_absent _ _ none_staged) :)
  · exact (congrArg State.store (readingsClosed_of_joined (s := endCycle s) storage joined) :)
  · obtain ⟨soc, -, -⟩ := readingsClosed_charge (s := endCycle s) storage joined
    obtain ⟨charged, -⟩ := chargedAtEnd_eq (s := endCycle s) storage desc
    rw [soc, charged]
    exact socAfter_of_missed _ joined missed
  · obtain ⟨soc, -, -⟩ := readingsClosed_charge (s := endCycle s) storage joined
    obtain ⟨charged, -⟩ := chargedAtEnd_eq (s := endCycle s) storage desc
    rw [soc, charged, socAfter_of_answered _ joined answered tail desc]
    cases dir <;> rfl
  · cases hj : b.station.joined with
    | true =>
      refine ⟨b.monitored s.limits s.fc.pEff i, ?_, ?_, fun h => by cases h⟩
      · rw [readingsClosed_of_joined (s := endCycle s) storage hj]
        exact branch?_of_storage (staged_storage_of (s := endCycle s) storage)
      · rw [if_pos (.inl rfl)]
        exact monitored_part_of_storage _ _ i part
    | false =>
      have e_storage : (endCycle s).storage = some (i, b) := storage
      refine ⟨_, readingsClosed_record e_storage part hj, ?_, fun _ => ?_⟩
      · simp only [Bool.false_eq_true, false_or]
      obtain ⟨soc, full, empty⟩ := readingsClosed_charge e_storage hj
      obtain ⟨-, fullIff, emptyIff, charged⟩ := chargedAtEnd_eq e_storage desc
      obtain ⟨fullNote, emptyNote, modeNote⟩ := charged_notes s.fc.pEff (staged_storage_of e_storage)
        (monitored_storageDesc _ _ i desc)
      have appends : ∀ {note : Note}, note ∈ ((endCycle s).chargedAtEnd i b).2 →
          s.Appends (readingsClosed (endCycle s)) ⟨s.fc.count, 65, note⟩ := fun noted =>
        readingsClosed_appends e_storage hj noted
      intro forced q notes
      have settled : q = ((endCycle s).chargedAtEnd i b).1 := by
        simp only [q, forced, soc, full, empty]
        exact charged.symm
      refine ⟨?_, ?_, fun clear is => ?_, fun clear is => ?_, fun h => ?_, fun same => ?_, fun moved => ?_⟩
      · rw [full, soc]
        exact fullIff
      · rw [empty, soc]
        exact emptyIff
      · exact appends (fullNote clear (full ▸ is))
      · exact appends (emptyNote clear (empty ▸ is))
      · simp only [forced, full, empty] at h
        exact appends (modeNote h)
      · rw [settled]
        exact readingsClosed_store_of_same e_storage hj same
      · rw [settled]
        obtain ⟨ev, evaluated⟩ := readingsClosed_evaluated e_storage hj moved
        rw [← readingsClosed_branches_set e_storage part hj] at evaluated
        exact ⟨ev, evaluated⟩

end

end Sys2Proof.Machine

/-! The statement on the setpoints fails: a start stack whose top is in STOPPING already. -/

namespace Sys2Proof.Machine

/-- A pump that joined in the cycle, in a state, with no command block. -/
def joinedPump (address : Nat) (st : UnitState) : PlantUnit :=
  { address := address, guard := .anyone, capacity := 0, state := st, station := .fresh UnitValues, commLost := false,
    intent := none, next := none, current := none, prove := .idle, stop := .idle, run := .idle, rest := .idle }

/-- The open slot has been served. Pump 2 is RUNNING at speed 0, so the pumps stage down; the stage-down is pending, and
the top of the pumps' stack is pump 1, which is in STOPPING: nothing in the statement keeps such a stack out. -/
def stoppingTop : State :=
  { State.reset with
    rst := false, fc := { State.reset.fc with position := 64, openBegun := true }
    seq := { State.reset.seq with
      pumps := { State.reset.seq.pumps with
        units := [some (joinedPump 1 .stopping), some (joinedPump 2 .running), none, none, none, none]
        stack := [2, 1], downPending := true } } }

theorem stoppingTop_due : stoppingTop.CycleEndDue := ⟨rfl, by decide, rfl, rfl⟩

theorem stoppingTop_pump : stoppingTop.unit? .pump 1 = some (joinedPump 1 .stopping) := rfl

/-- The stage-down writes a STOP command into the block of pump 1, whose state stays STOPPING. -/
theorem stoppingTop_written :
    ((readingsClosed (endCycle stoppingTop)).unit? .pump 1).map (fun v => (v.state, v.next)) =
      some (.stopping, some ⟨.stop, 1500⟩) := by decide +kernel

/-- Refutes O52: the state of pump 1 is what it was, but its next command block, which was empty, holds a command. -/
theorem not_setpointRamps : ¬ Obligations.SetpointRamps := by
  intro h
  obtain ⟨t, ran, pumps, -⟩ := h stoppingTop stoppingTop_due ⟨by decide, by decide⟩ ⟨by decide, by decide⟩
  rw [exec_cycleEnd_of_due stoppingTop_due] at ran
  obtain rfl := Host.Outcome.next.inj ran
  obtain ⟨v, unit, -, -, same⟩ := pumps 1 _ stoppingTop_pump
  have written := stoppingTop_written
  rw [unit, Option.map_some] at written
  obtain ⟨state, next⟩ := Prod.mk.inj (Option.some.inj written)
  have empty := same state
  rw [next] at empty
  cases empty

end Sys2Proof.Machine

/-! SUPPORT. Staging up and down, case by case (07, R124 to R127, R130). -/

namespace Sys2Proof.Machine

/-! ## The first unit that meets a test -/

section
variable {L : Ladder} {test : PlantUnit → Bool} {n : Nat} {u : PlantUnit}

theorem first_of_least (unit : L.unitAt n = some u) (met : test u = true)
    (least : ∀ j v, j < n → L.unitAt j = some v → test v = false) : L.first test = some n := by
  obtain ⟨lo, hi⟩ := unitAt_isSome_le unit
  obtain ⟨k, rfl⟩ : ∃ k, n = k + 1 := ⟨n - 1, by omega⟩
  unfold Ladder.first positions
  rw [List.find?_map, Option.map_eq_some_iff]
  refine ⟨k, List.find?_range_eq_some.mpr ⟨?_, List.mem_range.mpr (by omega), fun j hj => ?_⟩, rfl⟩
  · simp [unit, met]
  · cases hv : L.unitAt (j + 1) with
    | none => simp [hv]
    | some v => simp [hv, least (j + 1) v (by omega) hv]

theorem first_eq_none (none_there : ∀ k v, L.unitAt k = some v → test v = false) : L.first test = none := by
  cases found : L.first test with
  | none => rfl
  | some n =>
    obtain ⟨u, unit, met⟩ := first_spec found
    rw [none_there n u unit] at met
    cases met

end

/-! ## SHORT_CAPACITY -/

section
variable {e : SeqEnv} {l : LadderId} {p n : Nat} {w v : Work} {u : PlantUnit}

theorem setShort_eq (w : Work) (l : LadderId) : w.setShort l =
    (w.onLadder l fun L => { L with shortCap := true }).say
      (if (w.seq.ladder l).shortCap then [] else [⟨.shortCapacityOn, ladderSubject l, (w.seq.ladder l).stack.length⟩]) := by
  unfold Work.setShort
  dsimp only
  cases short : (w.seq.ladder l).shortCap with
  | false => rfl
  | true =>
    have same : ({ w.seq.ladder l with shortCap := true } : Ladder) = w.seq.ladder l := by rw [← short]
    unfold Work.onLadder Work.say
    dsimp only
    rw [if_pos rfl, if_pos rfl, same, List.append_nil]
    cases l <;> rfl

theorem clearShort_of_clear (clear : (w.seq.ladder l).shortCap = false) : w.clearShort l = w := by
  unfold Work.clearShort
  dsimp only
  rw [if_neg (by simp [clear])]

/-! ## Staging up, past its bars -/

section
variable {interlock : Work → Work} (free : w.held l = false) (latch : e.latch = false)
  (alone : (w.seq.ladder l).hasStarting = false)
include free latch alone

theorem actUpWith_of_none (none_off : (w.seq.ladder l).first (fun u => decide (u.state = .off)) = none) :
    w.actUpWith e l interlock = w.setShort l := by
  unfold Work.actUpWith
  rw [if_neg (by simp [free, latch]), if_neg (by simp [alone]), none_off]

section
variable (off : (w.seq.ladder l).first (fun u => decide (u.state = .off)) = some p)
include off

theorem actUpWith_of_shadow (shadow : e.shadow = true) :
    w.actUpWith e l interlock = ((w.intend e l p .start).onLadder l Ladder.upDone).clearShort l := by
  unfold Work.actUpWith
  rw [if_neg (by simp [free, latch]), if_neg (by simp [alone]), off]
  exact if_pos shadow

theorem actUpWith_of_start (live : e.shadow = false) (may : l = .pump ∨ w.seq.pumps.serves = true) :
    w.actUpWith e l interlock = w.startUnit e l p := by
  unfold Work.actUpWith
  rw [if_neg (by simp [free, latch]), if_neg (by simp [alone]), off]
  dsimp only
  rw [if_neg (by simp [live]), if_neg]
  rcases may with rfl | serves
  · simp
  · simp [serves]

theorem actUpWith_of_interlock (live : e.shadow = false) (chiller : l = .chiller) (dry : w.seq.pumps.serves = false) :
    w.actUpWith e l interlock = interlock w := by
  unfold Work.actUpWith
  rw [if_neg (by simp [free, latch]), if_neg (by simp [alone]), off]
  dsimp only
  rw [if_neg (by simp [live]), if_pos (by simp [chiller, dry])]

end

end

/-- Staging up is staging up with the interlock, which is the chillers' alone. -/
theorem actUp_eq (w : Work) (e : SeqEnv) (l : LadderId) :
    w.actUp e l = w.actUpWith e l (if l = .chiller then Work.interlock e else id) := by
  cases l <;> rfl

/-! ## A start and an intent, on one unit -/

theorem modUnit_shortCap (L : Ladder) (p : Nat) (f : PlantUnit → PlantUnit) : (L.modUnit p f).shortCap = L.shortCap := by
  cases p <;> rfl

/-- What a start makes of a unit. -/
def PlantUnit.starts (x : Periods) (setpoint : Nat) (u : PlantUnit) : PlantUnit :=
  { u with
    state := .starting, next := some ⟨.run, setpoint⟩, prove := .counting x.prove x.prove 1 }

/-- A start of a named unit, SHORT_CAPACITY clear. -/
theorem startUnit_of_unit (unit : w.unit l p = some u) (clear : (w.seq.ladder l).shortCap = false) :
    w.startUnit e l p = (w.onLadder l fun L => { L.setUnit p (some (u.starts L.periods (e.setpoint l))) with
      up := .idle, upPending := false, stack := (L.setUnit p (some (u.starts L.periods (e.setpoint l)))).stack ++ [p] }).say
      [unitNote l p (some .starting)] := by
  unfold Work.startUnit
  rw [clearShort_of_clear]
  · have moved := onUnit_of_unit (w := w) unit (PlantUnit.starts (w.seq.ladder l).periods (e.setpoint l))
    have entered : (w.enter e l p .starting (some .run) fun u =>
        { u with prove := .start (w.seq.ladder l).periods.prove }) =
        (w.onUnit l p (PlantUnit.starts (w.seq.ladder l).periods (e.setpoint l))).say [unitNote l p (some .starting)] := rfl
    rw [entered, moved]
    cases l <;> rfl
  · rw [ladder_onLadder]
    change ((w.onUnit l p _).seq.ladder l).shortCap = false
    unfold Work.onUnit
    rw [ladder_onLadder, modUnit_shortCap, clear]

/-- An intent to start a named unit, SHORT_CAPACITY clear. -/
theorem intend_of_unit (unit : w.unit l p = some u) (i : Intent) : w.intend e l p i =
    (w.onLadder l fun L => { L.setUnit p (some { u with intent := some i }) with lastIntent := some ⟨i, p, e.count⟩ }).say
      [⟨.intent, ladderSubject l, intentDetail i p⟩] := by
  unfold Work.intend
  rw [onUnit_of_unit unit, onLadder_onLadder]

/-! ## Staging down (07, R127) -/

theorem actDown_of_empty (empty : (w.seq.ladder l).stack = []) :
    w.actDown e l = w.onLadder l fun L => { L with downPending := false } := by
  unfold Work.actDown
  rw [empty]
  rfl

section
variable (top : (w.seq.ladder l).stack.getLast? = some p)
include top

theorem actDown_of_held (held : w.held l = true) : w.actDown e l = w := by
  unfold Work.actDown
  rw [top]
  exact if_pos held

variable (free : w.held l = false) (unit : w.unit l p = some u)
include free unit

theorem actDown_of_young (live : e.shadow = false) (young : u.young = true) : w.actDown e l = w := by
  unfold Work.actDown
  rw [top]
  dsimp only
  rw [if_neg (by simp [free]), unit, if_pos (by simp [young, live])]

theorem actDown_of_shadow (shadow : e.shadow = true) (running : u.state = .running) :
    w.actDown e l = (w.intend e l p .stop).onLadder l Ladder.downDone := by
  unfold Work.actDown
  rw [top]
  dsimp only
  rw [if_neg (by simp [free]), unit, if_neg (by simp [shadow, running]), if_pos shadow]

theorem actDown_of_ripe (live : e.shadow = false) (ripe : u.young = false) :
    w.actDown e l = (w.onLadder l Ladder.downDone).stopUnit e l p := by
  unfold Work.actDown
  rw [top]
  dsimp only
  rw [if_neg (by simp [free]), unit, if_neg (by simp [ripe]), if_neg (by simp [live])]

end

end

end Sys2Proof.Machine

/-! UP_EXPIRY and DOWN_EXPIRY (07, R124 to R127, R130). -/

namespace Sys2Proof.Machine

section
variable {s : State} {l : LadderId} {n : Nat} {u : PlantUnit} {m a : Nat}

theorem ranOut_zero (m a : Nat) : (Timer.counting 0 m a).ranOut = true := rfl

/-- The work at UP's expiry, before it is acted on. -/
def Work.upRaised (l : LadderId) (w : Work) : Work := w.onLadder l fun L => { L with up := .idle, upPending := true }

/-- The work at DOWN's expiry, before it is acted on. -/
def Work.downRaised (l : LadderId) (w : Work) : Work := w.onLadder l fun L => { L with down := .idle, downPending := true }

theorem exec_upExpiry_of_due (released : s.rst = false) (due : (s.seq.ladder l).up = .counting 0 m a) :
    exec (.upExpiry l) s = .next (s.after (((⟨s.seq, []⟩ : Work).upRaised l).actUp s.seqEnv l)) := by
  have raised : exec (.upExpiry l) s = .next (upExpired l s) := congrArg _ (unlessReset_of_released released _)
  rw [raised]
  unfold upExpired
  rw [due, if_pos (ranOut_zero m a), sequence_eq]
  unfold Work.raiseUp Work.upRaised
  rw [onLadder_onLadder]

theorem exec_downExpiry_of_due (released : s.rst = false) (due : (s.seq.ladder l).down = .counting 0 m a) :
    exec (.downExpiry l) s = .next (s.after (((⟨s.seq, []⟩ : Work).downRaised l).actDown s.seqEnv l)) := by
  have lowered : exec (.downExpiry l) s = .next (downExpired l s) := congrArg _ (unlessReset_of_released released _)
  rw [lowered]
  unfold downExpired
  rw [due, if_pos (ranOut_zero m a), sequence_eq]
  rfl

theorem ladder_upRaised (w : Work) (l : LadderId) :
    (w.upRaised l).seq.ladder l = { w.seq.ladder l with up := .idle, upPending := true } := ladder_onLadder _ _ _

theorem held_upRaised (w : Work) (l : LadderId) : (w.upRaised l).held l = w.held l := by cases l <;> rfl

theorem unit_upRaised (w : Work) (l m : LadderId) (n : Nat) : (w.upRaised l).unit m n = w.unit m n :=
  unit_onLadder_of_units (f := fun L => { L with up := .idle, upPending := true }) (fun _ => rfl) m n

theorem held_upRaised_free (hold : (s.seq.ladder l).requestHold = false) (free : s.seq.inputHold = false) :
    ((⟨s.seq, []⟩ : Work).upRaised l).held l = false := by
  rw [held_upRaised]
  unfold Work.held
  rw [hold, free]
  rfl

theorem hasStarting_upRaised (w : Work) (l : LadderId) :
    ((w.upRaised l).seq.ladder l).hasStarting = (w.seq.ladder l).hasStarting := by
  rw [ladder_upRaised]
  rfl

theorem serves_upRaised (w : Work) (l : LadderId) : (w.upRaised l).seq.pumps.serves = w.seq.pumps.serves := by
  cases l <;> rfl

/-- The first unit in OFF. -/
theorem first_off (unit : s.unit? l n = some u) (off : u.state = .off)
    (least : ∀ j v, j < n → s.unit? l j = some v → v.state ≠ .off) :
    (s.seq.ladder l).first (fun u => decide (u.state = .off)) = some n :=
  first_of_least unit (decide_eq_true off) fun j v lt there => decide_eq_false (least j v lt there)

theorem first_off_none (none_off : ∀ k u, s.unit? l k = some u → u.state ≠ .off) :
    (s.seq.ladder l).first (fun u => decide (u.state = .off)) = none :=
  first_eq_none fun k v there => decide_eq_false (none_off k v there)

/-- What the start of a named unit makes of the part. -/
def State.started (k : LadderId) (n : Nat) (u : PlantUnit) (s t : State) : State :=
  ((t.setUnit k n (some (u.starts (s.seq.ladder k).periods (s.setpointFor k)))).onLadder k
    fun M => { M with up := .idle, upPending := false, stack := M.stack ++ [n] }).notes
    [⟨.unitState, ladderSubject k + n, 4⟩]

/-- A start, on a work that has noted nothing yet. -/
theorem after_startUnit {w : Work} {t : State} (same : t = { s with seq := w.seq }) (quiet : w.out = [])
    (unit : w.unit l n = some u) (clear : (w.seq.ladder l).shortCap = false)
    (periods : (w.seq.ladder l).periods = (s.seq.ladder l).periods) :
    s.after (w.startUnit s.seqEnv l n) = s.started l n u t := by
  rw [startUnit_of_unit unit clear, setpoint_seqEnv]
  unfold Work.onLadder Work.say State.after State.started
  dsimp only
  rw [periods, quiet, same]
  cases l <;> rfl

/-- The part of a chiller start that waits for a pump (07, R126). -/
def State.waits (s : State) : State := { s with seq := { s.seq with
  chillers := { s.seq.chillers with up := .idle, upPending := false }, waiting := true,
  pumps := { s.seq.pumps with upPending := true } } }

/-- The work of a chiller start that waits. -/
def Work.waits (w : Work) : Work := { w with seq := { w.seq with
  chillers := { w.seq.chillers with upPending := false }, waiting := true,
  pumps := { w.seq.pumps with upPending := true } } }

theorem interlock_eq (w : Work) (e : SeqEnv) : w.interlock e = w.waits.actUpPump e := rfl

section
variable (released : s.rst = false) (due : (s.seq.ladder l).up = .counting 0 m a)
include released due

theorem upExpiry_barred (bars : (s.seq.ladder l).requestHold = true ∨ s.seq.inputHold = true ∨ s.inputs.stopLatch = true ∨
    (s.seq.ladder l).hasStarting = true) :
    exec (.upExpiry l) s = .next (s.onLadder l fun M => { M with up := .idle, upPending := true }) := by
  rw [exec_upExpiry_of_due released due, actUp_barred]
  · rfl
  · rw [held_upRaised, hasStarting_upRaised]
    unfold Work.held
    rw [Bool.or_eq_true, or_assoc]
    exact bars

variable (hold : (s.seq.ladder l).requestHold = false) (free : s.seq.inputHold = false)
  (latch : s.inputs.stopLatch = false) (alone : (s.seq.ladder l).hasStarting = false)
include hold free latch alone

theorem upExpiry_short (none_off : ∀ k u, s.unit? l k = some u → u.state ≠ .off) :
    exec (.upExpiry l) s = .next ((s.onLadder l fun M => { M with up := .idle, upPending := true, shortCap := true }).notes
      (if (s.seq.ladder l).shortCap then []
        else [⟨.shortCapacityOn, ladderSubject l, (s.seq.ladder l).stack.length⟩])) := by
  rw [exec_upExpiry_of_due released due, actUp_eq, actUpWith_of_none (held_upRaised_free hold free) latch, setShort_eq]
  · rw [ladder_upRaised]
    cases l <;> rfl
  · rw [hasStarting_upRaised]
    exact alone
  · rw [ladder_upRaised]
    exact first_off_none none_off

variable (unit : s.unit? l n = some u) (off : u.state = .off)
  (least : ∀ j v, j < n → s.unit? l j = some v → v.state ≠ .off) (clear : (s.seq.ladder l).shortCap = false)
include unit off least clear

theorem upExpiry_intends (shadow : s.fc.shadow = true) :
    exec (.upExpiry l) s = .next (((s.setUnit l n (some { u with intent := some .start })).onLadder l
      fun M => { M with up := .idle, upPending := false, lastIntent := some ⟨.start, n, s.fc.count⟩ }).notes
      [⟨.intent, ladderSubject l, n⟩]) := by
  have alone' := (hasStarting_upRaised ⟨s.seq, []⟩ l).trans alone
  have first : (((⟨s.seq, []⟩ : Work).upRaised l).seq.ladder l).first (fun u => decide (u.state = .off)) = some n := by
    rw [ladder_upRaised]
    exact first_off unit off least
  have unit' := (unit_upRaised ⟨s.seq, []⟩ l l n).trans unit
  rw [exec_upExpiry_of_due released due, actUp_eq,
    actUpWith_of_shadow (e := s.seqEnv) (held_upRaised_free hold free) latch alone' first shadow, intend_of_unit unit',
    clearShort_of_clear]
  · cases l <;> cases n <;> rfl
  · cases l <;> cases n <;> exact clear

theorem upExpiry_starts (live : s.fc.shadow = false) (may : l = .pump ∨ s.seq.pumps.serves = true) :
    exec (.upExpiry l) s = .next (s.started l n u s) := by
  have alone' := (hasStarting_upRaised ⟨s.seq, []⟩ l).trans alone
  have first : (((⟨s.seq, []⟩ : Work).upRaised l).seq.ladder l).first (fun u => decide (u.state = .off)) = some n := by
    rw [ladder_upRaised]
    exact first_off unit off least
  have unit' := (unit_upRaised ⟨s.seq, []⟩ l l n).trans unit
  have may' : l = .pump ∨ ((⟨s.seq, []⟩ : Work).upRaised l).seq.pumps.serves = true := by
    rw [serves_upRaised]
    exact may
  rw [exec_upExpiry_of_due released due, actUp_eq,
    actUpWith_of_start (e := s.seqEnv) (held_upRaised_free hold free) latch alone' first live may',
    after_startUnit (t := { s with seq := ((⟨s.seq, []⟩ : Work).upRaised l).seq }) rfl rfl unit']
  · cases l <;> cases n <;> rfl
  · rw [ladder_upRaised]
    exact clear
  · rw [ladder_upRaised]

end

/-! ## A chiller start that waits for a pump (07, R126) -/

section
variable (released : s.rst = false) (due : s.seq.chillers.up = .counting 0 m a)
  (hold : s.seq.chillers.requestHold = false) (free : s.seq.inputHold = false)
  (latch : s.inputs.stopLatch = false) (alone : s.seq.chillers.hasStarting = false)
  (unit : s.unit? .chiller n = some u) (off : u.state = .off)
  (least : ∀ j v, j < n → s.unit? .chiller j = some v → v.state ≠ .off) (live : s.fc.shadow = false)
  (dry : s.seq.pumps.serves = false)
include released due hold free latch alone unit off least live dry

theorem upExpiry_waits : exec (.upExpiry .chiller) s =
    .next (s.after (((⟨s.seq, []⟩ : Work).upRaised .chiller).waits.actUpPump s.seqEnv)) := by
  have first : (((⟨s.seq, []⟩ : Work).upRaised .chiller).seq.ladder .chiller).first (fun u => decide (u.state = .off)) =
      some n := by
    rw [ladder_upRaised]
    exact first_off unit off least
  rw [exec_upExpiry_of_due (l := .chiller) released due, actUp_eq, if_pos rfl,
    actUpWith_of_interlock (e := s.seqEnv) (held_upRaised_free (l := .chiller) hold free) latch alone first live rfl dry,
    interlock_eq]

theorem upExpiry_waits_barred (bars : s.seq.pumps.requestHold = true ∨ s.seq.pumps.hasStarting = true) :
    exec (.upExpiry .chiller) s = .next s.waits := by
  rw [upExpiry_waits released due hold free latch alone unit off least live dry]
  unfold Work.actUpPump
  rw [actUpWith_barred]
  · rfl
  · refine bars.imp (fun held => ?_) .inr
    change (s.seq.pumps.requestHold || s.seq.inputHold) = true
    rw [held, Bool.true_or]

variable (pumpHold : s.seq.pumps.requestHold = false) (pumpAlone : s.seq.pumps.hasStarting = false)
include pumpHold pumpAlone

theorem upExpiry_waits_short (none_off : ∀ k v, s.unit? .pump k = some v → v.state ≠ .off) :
    exec (.upExpiry .chiller) s = .next ((s.waits.onLadder .pump fun M => { M with shortCap := true }).notes
      (if s.seq.pumps.shortCap then [] else [⟨.shortCapacityOn, 200, s.seq.pumps.stack.length⟩])) := by
  have held : ((⟨s.seq, []⟩ : Work).upRaised .chiller).waits.held .pump = false := by
    change (s.seq.pumps.requestHold || s.seq.inputHold) = false
    rw [pumpHold, free]
    rfl
  have first : (((⟨s.seq, []⟩ : Work).upRaised .chiller).waits.seq.ladder .pump).first
      (fun u => decide (u.state = .off)) = none := first_off_none (l := .pump) none_off
  rw [upExpiry_waits released due hold free latch alone unit off least live dry]
  unfold Work.actUpPump
  rw [actUpWith_of_none held latch pumpAlone first, setShort_eq]
  rfl

theorem upExpiry_waits_starts {k : Nat} {v : PlantUnit} (pump : s.unit? .pump k = some v) (pumpOff : v.state = .off)
    (pumpLeast : ∀ j v, j < k → s.unit? .pump j = some v → v.state ≠ .off) (clear : s.seq.pumps.shortCap = false) :
    exec (.upExpiry .chiller) s = .next (s.started .pump k v s.waits) := by
  have held : ((⟨s.seq, []⟩ : Work).upRaised .chiller).waits.held .pump = false := by
    change (s.seq.pumps.requestHold || s.seq.inputHold) = false
    rw [pumpHold, free]
    rfl
  have first : (((⟨s.seq, []⟩ : Work).upRaised .chiller).waits.seq.ladder .pump).first
      (fun u => decide (u.state = .off)) = some k := first_off (l := .pump) pump pumpOff pumpLeast
  have pump' : ((⟨s.seq, []⟩ : Work).upRaised .chiller).waits.unit .pump k = some v := (unitAt_of_units rfl k).trans pump
  rw [upExpiry_waits released due hold free latch alone unit off least live dry]
  unfold Work.actUpPump
  rw [actUpWith_of_start held latch pumpAlone first live (.inl rfl),
    after_startUnit (t := s.waits) rfl rfl pump' clear rfl]

end

end

end Sys2Proof.Machine

/-! DOWN_EXPIRY (07, R124, R127, R130), and O39's part on the expiries. -/

namespace Sys2Proof.Machine

section
variable {e : SeqEnv} {l : LadderId} {p n : Nat} {w v x : Work} {u : PlantUnit}

/-! ## Work that leaves the down side of both ladders -/

/-- Both ladders' DOWN timers and down pendings stand. -/
def Work.DownKept (w v : Work) : Prop := ∀ l,
  (v.seq.ladder l).down = (w.seq.ladder l).down ∧ (v.seq.ladder l).downPending = (w.seq.ladder l).downPending

theorem downKept_refl (w : Work) : w.DownKept w := fun _ => ⟨rfl, rfl⟩

theorem Work.DownKept.trans (h : w.DownKept v) (k : v.DownKept x) : w.DownKept x :=
  fun l => ⟨(k l).1.trans (h l).1, (k l).2.trans (h l).2⟩

theorem downKept_onLadder (w : Work) (l : LadderId) {f : Ladder → Ladder} (down : ∀ L, (f L).down = L.down)
    (pending : ∀ L, (f L).downPending = L.downPending) : w.DownKept (w.onLadder l f) := by
  intro m
  by_cases h : m = l
  · rw [h, ladder_onLadder]
    exact ⟨down _, pending _⟩
  · rw [ladder_onLadder_of_ne _ h]
    exact ⟨rfl, rfl⟩

theorem modUnit_downPending (L : Ladder) (p : Nat) (f : PlantUnit → PlantUnit) :
    (L.modUnit p f).downPending = L.downPending := by
  cases p <;> rfl

theorem downKept_onUnit (w : Work) (l : LadderId) (p : Nat) (f : PlantUnit → PlantUnit) :
    w.DownKept (w.onUnit l p f) :=
  downKept_onLadder w l (fun L => modUnit_down L p f) fun L => modUnit_downPending L p f

theorem downKept_clearShort (w : Work) (l : LadderId) : w.DownKept (w.clearShort l) := by
  unfold Work.clearShort
  dsimp only
  split
  · exact downKept_onLadder w l (f := fun L => { L with shortCap := false }) (fun _ => rfl) fun _ => rfl
  · exact downKept_refl w

theorem downKept_setShort (w : Work) (l : LadderId) : w.DownKept (w.setShort l) := by
  rw [setShort_eq]
  exact downKept_onLadder w l (f := fun L => { L with shortCap := true }) (fun _ => rfl) fun _ => rfl

theorem downKept_startUnit (w : Work) (e : SeqEnv) (l : LadderId) (p : Nat) : w.DownKept (w.startUnit e l p) := by
  unfold Work.startUnit Work.enter
  refine Work.DownKept.trans ?_ (downKept_clearShort _ l)
  exact (downKept_onUnit w l p _).trans (downKept_onLadder _ l (f := fun L => (L.push p).upDone) (fun _ => rfl) fun _ => rfl)

theorem downKept_intend (w : Work) (e : SeqEnv) (l : LadderId) (p : Nat) (i : Intent) : w.DownKept (w.intend e l p i) :=
  (downKept_onUnit w l p _).trans
    (downKept_onLadder _ l (f := fun L => { L with lastIntent := some ⟨i, p, e.count⟩ }) (fun _ => rfl) fun _ => rfl)

theorem downKept_actUpWith {interlock : Work → Work} (h : w.DownKept (interlock w)) :
    w.DownKept (w.actUpWith e l interlock) := by
  unfold Work.actUpWith
  split
  · exact downKept_refl w
  · split
    · exact downKept_refl w
    · split
      · exact downKept_setShort w l
      · split
        · refine Work.DownKept.trans ?_ (downKept_clearShort _ l)
          exact (downKept_intend w e l _ .start).trans (downKept_onLadder _ l (fun _ => rfl) fun _ => rfl)
        · split
          · exact h
          · exact downKept_startUnit w e l _

theorem downKept_actUp (w : Work) (e : SeqEnv) (l : LadderId) : w.DownKept (w.actUp e l) := by
  cases l with
  | pump => exact downKept_actUpWith (downKept_refl w)
  | chiller =>
    have flagged : w.DownKept w.waits := fun m => by cases m <;> exact ⟨rfl, rfl⟩
    exact downKept_actUpWith (flagged.trans (downKept_actUpWith (downKept_refl _)))

theorem downKept_tryUp (w : Work) (e : SeqEnv) (l : LadderId) : w.DownKept (w.tryUp e l) := by
  unfold Work.tryUp
  split
  · exact downKept_actUp w e l
  · exact downKept_refl w

theorem Work.Halts.downKept {H : LadderId → Nat → Bool} (h : w.Halts e H v) : w.DownKept v := fun l => by
  rw [h.ladder l]
  exact ⟨rfl, rfl⟩

theorem downKept_flowLoss (w : Work) (e : SeqEnv) : w.DownKept (w.flowLoss e) := by
  rw [flowLoss_eq]
  have stops := (halts_flowStops w e).downKept
  split
  · exact stops.trans (downKept_tryUp _ e .chiller)
  · exact stops

theorem downKept_afterLeaving (w : Work) (e : SeqEnv) (l : LadderId) (before : PlantUnit) :
    w.DownKept (w.afterLeaving e l before) := by
  have flowed : w.DownKept (w.flowLost e l before) := by
    unfold Work.flowLost
    split
    · exact downKept_flowLoss w e
    · exact downKept_refl w
  rw [afterLeaving_eq]
  split
  · exact flowed.trans (downKept_tryUp _ e l)
  · exact flowed

/-! ## A stage-down carried out -/

theorem stopUnit_of_unit (unit : w.unit l p = some u) : w.stopUnit e l p = (w.stopOne e l p).afterLeaving e l u := by
  unfold Work.stopUnit
  rw [unit]

/-- The unit stands in STOPPING off the stack, and the stage-down is done. -/
theorem downDone_stopUnit (unit : w.unit l p = some u) :
    let v := (w.onLadder l Ladder.downDone).stopUnit e l p
    v.unit l p = some (u.stopped (w.seq.ladder l).periods (e.setpoint l)) ∧ p ∉ (v.seq.ladder l).stack ∧
      (v.seq.ladder l).downPending = false ∧ (v.seq.ladder l).down = .idle := by
  have unit' : (w.onLadder l Ladder.downDone).unit l p = some u :=
    (unit_onLadder_of_units (f := Ladder.downDone) (fun _ => rfl) l p).trans unit
  have halts := halts_stopOne (w.onLadder l Ladder.downDone) e l p
  have stopped : ((w.onLadder l Ladder.downDone).stopOne e l p).unit l p =
      some (u.stopped (w.seq.ladder l).periods (e.setpoint l)) := by
    rw [unit_stopOne_same, unit', ladder_onLadder]
    rfl
  have off : p ∉ (((w.onLadder l Ladder.downDone).stopOne e l p).seq.ladder l).stack := by
    rw [halts.ladder l]
    simp
  obtain ⟨down, pending⟩ := (halts.downKept.trans (downKept_afterLeaving _ e l u)) l
  rw [ladder_onLadder] at down pending
  rw [stopUnit_of_unit unit']
  obtain ⟨stands, gone⟩ := unit_afterLeaving (e := e) stopped (by simp [PlantUnit.stopped]) off u
  exact ⟨stands, gone, pending, down⟩

end

section
variable {s : State} {l : LadderId} {n : Nat} {u : PlantUnit} {m a : Nat}

theorem ladder_downRaised (w : Work) (l : LadderId) :
    (w.downRaised l).seq.ladder l = { w.seq.ladder l with down := .idle, downPending := true } := ladder_onLadder _ _ _

theorem held_downRaised (w : Work) (l : LadderId) : (w.downRaised l).held l = w.held l := by cases l <;> rfl

theorem unit_downRaised (w : Work) (l m : LadderId) (n : Nat) : (w.downRaised l).unit m n = w.unit m n :=
  unit_onLadder_of_units (f := fun L => { L with down := .idle, downPending := true }) (fun _ => rfl) m n

theorem young_iff (u : PlantUnit) : u.young = true ↔ u.state = .starting ∨ (u.state = .running ∧ u.run ≠ .idle) := by
  unfold PlantUnit.young
  cases hr : u.run <;> simp [Timer.isCounting]

theorem not_young (running : u.state = .running) (ripe : u.run = .idle) : u.young = false :=
  Bool.eq_false_iff.mpr fun young => by
    rcases (young_iff u).mp young with starting | ⟨-, counts⟩
    · rw [running] at starting
      cases starting
    · exact counts ripe

theorem downRaised_acts (hold : (s.seq.ladder l).requestHold = false) (free : s.seq.inputHold = false)
    (top : (s.seq.ladder l).stack.getLast? = some n) (unit : s.unit? l n = some u) :
    (((⟨s.seq, []⟩ : Work).downRaised l).seq.ladder l).stack.getLast? = some n ∧
    ((⟨s.seq, []⟩ : Work).downRaised l).held l = false ∧ ((⟨s.seq, []⟩ : Work).downRaised l).unit l n = some u := by
  refine ⟨?_, ?_, (unit_downRaised _ l l n).trans unit⟩
  · rw [ladder_downRaised]
    exact top
  · rw [held_downRaised]
    unfold Work.held
    rw [hold, free]
    rfl

section
variable (released : s.rst = false) (due : (s.seq.ladder l).down = .counting 0 m a)
include released due

theorem downExpiry_empty (empty : (s.seq.ladder l).stack = []) :
    exec (.downExpiry l) s = .next (s.onLadder l fun M => { M with down := .idle, downPending := false }) := by
  rw [exec_downExpiry_of_due released due, actDown_of_empty]
  · cases l <;> rfl
  · rw [ladder_downRaised]
    exact empty

theorem downExpiry_held (stacked : (s.seq.ladder l).stack ≠ [])
    (held : (s.seq.ladder l).requestHold = true ∨ s.seq.inputHold = true) :
    exec (.downExpiry l) s = .next (s.onLadder l fun M => { M with down := .idle, downPending := true }) := by
  have top : (((⟨s.seq, []⟩ : Work).downRaised l).seq.ladder l).stack.getLast? =
      some ((s.seq.ladder l).stack.getLast stacked) := by
    rw [ladder_downRaised]
    exact List.getLast?_eq_some_getLast stacked
  rw [exec_downExpiry_of_due released due, actDown_of_held top]
  · cases l <;> rfl
  · rw [held_downRaised]
    unfold Work.held
    rw [Bool.or_eq_true]
    exact held

variable (hold : (s.seq.ladder l).requestHold = false) (free : s.seq.inputHold = false)
  (top : (s.seq.ladder l).stack.getLast? = some n) (unit : s.unit? l n = some u)
include hold free top unit

theorem downExpiry_intends (shadow : s.fc.shadow = true) (running : u.state = .running) :
    exec (.downExpiry l) s = .next (((s.setUnit l n (some { u with intent := some .stop })).onLadder l
      fun M => { M with down := .idle, downPending := false, lastIntent := some ⟨.stop, n, s.fc.count⟩ }).notes
      [⟨.intent, ladderSubject l, -(n : Int)⟩]) := by
  obtain ⟨top', free', unit'⟩ := downRaised_acts hold free top unit
  rw [exec_downExpiry_of_due released due, actDown_of_shadow top' free' unit' shadow running, intend_of_unit unit']
  cases l <;> cases n <;> rfl

theorem downExpiry_young (live : s.fc.shadow = false)
    (young : u.state = .starting ∨ (u.state = .running ∧ u.run ≠ .idle)) :
    exec (.downExpiry l) s = .next (s.onLadder l fun M => { M with down := .idle, downPending := true }) := by
  obtain ⟨top', free', unit'⟩ := downRaised_acts hold free top unit
  rw [exec_downExpiry_of_due released due, actDown_of_young top' free' unit' live ((young_iff u).mpr young)]
  rfl

theorem downExpiry_stops (live : s.fc.shadow = false) (running : u.state = .running) (ripe : u.run = .idle) :
    ∃ t : State, exec (.downExpiry l) s = .next t ∧ t = { s with seq := t.seq, events := t.events } ∧
      t.unit? l n = some (u.stopped (s.seq.ladder l).periods (s.setpointFor l)) ∧ n ∉ (t.seq.ladder l).stack ∧
      (t.seq.ladder l).downPending = false ∧ (t.seq.ladder l).down = .idle ∧ (l = .pump → s.PumpLeaves n u t) := by
  obtain ⟨top', free', unit'⟩ := downRaised_acts hold free top unit
  have acted := actDown_of_ripe (e := s.seqEnv) top' free' unit' live (not_young running ripe)
  obtain ⟨stands, gone, pending, down⟩ := downDone_stopUnit (e := s.seqEnv) unit'
  rw [ladder_downRaised, setpoint_seqEnv] at stands
  refine ⟨_, exec_downExpiry_of_due released due, rfl, ?_⟩
  rw [acted]
  refine ⟨stands, gone, pending, down, ?_⟩
  rintro rfl
  have done : (((⟨s.seq, []⟩ : Work).downRaised .pump).onLadder .pump Ladder.downDone).unit .pump n = some u :=
    (unit_onLadder_of_units (f := Ladder.downDone) (fun _ => rfl) .pump n).trans unit'
  rw [stopUnit_of_unit done]
  refine pumpLeaves_stopOne live (fun k => ?_) rfl
  exact (unit_onLadder_of_units (f := Ladder.downDone) (fun _ => rfl) .pump k).trans (unit_downRaised _ .pump .pump k)

end

end

end Sys2Proof.Machine

/-! SUPPORT. One ladder driven by its figures while the other is held (07, R122 to R124). -/

namespace Sys2Proof.Machine

/-- The figures of a ladder's evaluation (07, R122, R123). -/
def Work.figuresOf (e : SeqEnv) (x : LoadInput) (w : Work) : LadderId → Figures
  | .chiller => chillerFigures e x w.seq.chillers
  | .pump => pumpFigures e x w.seq.waiting w.seq.pumps

section
variable {e : SeqEnv} {x : LoadInput} {l : LadderId} {p n : Nat} {w v : Work} {u : PlantUnit} {f : Figures}

theorem held_of_requestHold (h : (w.seq.ladder l).requestHold = true) : w.held l = true := by
  unfold Work.held
  rw [h, Bool.true_or]

/-- The one ladder that is not held is driven. -/
theorem evaluate_of_free (free : w.held l = false) (others : ∀ k, k ≠ l → w.held k = true) :
    w.evaluate e x = w.drive e l (w.figuresOf e x l) := by
  unfold Work.evaluate
  cases l with
  | chiller =>
    have pumps : w.held .pump = true := others .pump (by simp)
    rw [if_pos pumps, if_neg (by simp [free])]
    rfl
  | pump =>
    have chillers : w.held .chiller = true := others .chiller (by simp)
    rw [if_neg (by simp [free]), if_pos chillers]
    rfl

/-- A ladder never drives down while it drives up. -/
theorem down_excludes_up (w : Work) (e : SeqEnv) (x : LoadInput) (l : LadderId)
    (down : (w.figuresOf e x l).down = true) : (w.figuresOf e x l).up = false := by
  have excludes : ∀ up down : Bool, (down && !up) = true → up = false := by decide
  cases l with
  | chiller => exact excludes _ _ down
  | pump => exact excludes _ _ down

theorem held_of_leads (h : w.Leads v) (l : LadderId) : v.held l = w.held l := by
  obtain ⟨input, settings⟩ := h.settings
  unfold Work.held
  rw [input, (settings l).2]

/-! ## A stop while the chillers are held -/

theorem tryUp_held (held : w.held l = true) : w.tryUp e l = w := by
  unfold Work.tryUp
  rw [actUp_barred (.inl held)]
  exact ite_self w

theorem Work.Halts.held {H : LadderId → Nat → Bool} (h : w.Halts e H v) (l : LadderId) : v.held l = w.held l := by
  unfold Work.held
  rw [h.hold, h.ladder l]

theorem flowLoss_held (held : w.held .chiller = true) : w.flowLoss e = w.flowStops e := by
  rw [flowLoss_eq, tryUp_held (((halts_flowStops w e).held .chiller).trans held)]
  exact ite_self _

/-- What follows a leaving takes units to STOPPING at most. -/
theorem halts_flowLost (held : l = .pump → w.held .chiller = true) (before : PlantUnit) :
    ∃ H, w.Halts e H (w.flowLost e l before) := by
  cases l with
  | chiller => exact ⟨_, halts_refl w⟩
  | pump =>
    unfold Work.flowLost
    split
    · rw [flowLoss_held (held rfl)]
      exact ⟨_, halts_flowStops w e⟩
    · exact ⟨_, halts_refl w⟩

theorem halts_stopUnit_held (held : l = .pump → w.held .chiller = true)
    (ripe : ∀ u, w.unit l p = some u → u.state ≠ .starting) : ∃ H, w.Halts e H (w.stopUnit e l p) := by
  cases unit : w.unit l p with
  | none =>
    unfold Work.stopUnit
    rw [unit]
    exact ⟨_, halts_refl w⟩
  | some u =>
    have stop := halts_stopOne w e l p
    obtain ⟨H, follows⟩ := halts_flowLost (w := w.stopOne e l p) (e := e)
      (fun pump => (stop.held .chiller).trans (held pump)) u
    rw [stopUnit_of_unit unit, afterLeaving_eq, if_neg (ripe u unit)]
    exact ⟨_, stop.trans follows⟩

/-! ## The down side leaves the up side -/

/-- A ladder's UP timer, up pending and SHORT_CAPACITY, and the waiting flag, stand. -/
def Work.UpKept (l : LadderId) (w v : Work) : Prop :=
  (v.seq.ladder l).up = (w.seq.ladder l).up ∧ (v.seq.ladder l).upPending = (w.seq.ladder l).upPending ∧
    (v.seq.ladder l).shortCap = (w.seq.ladder l).shortCap ∧ v.seq.waiting = w.seq.waiting

theorem waiting_onLadder (w : Work) (l : LadderId) (f : Ladder → Ladder) : (w.onLadder l f).seq.waiting = w.seq.waiting :=
  setLadder_waiting _ _ _

theorem upKept_onLadder (w : Work) (l : LadderId) {f : Ladder → Ladder} (up : ∀ L, (f L).up = L.up)
    (pending : ∀ L, (f L).upPending = L.upPending) (short : ∀ L, (f L).shortCap = L.shortCap) :
    w.UpKept l (w.onLadder l f) := by
  unfold Work.UpKept
  rw [ladder_onLadder]
  exact ⟨up _, pending _, short _, waiting_onLadder w l f⟩

theorem Work.Halts.upKept {H : LadderId → Nat → Bool} (h : w.Halts e H v) (l : LadderId) : w.UpKept l v := by
  unfold Work.UpKept
  rw [h.ladder l]
  exact ⟨rfl, rfl, rfl, h.waiting⟩

theorem upKept_actDown (live : e.shadow = false) (held : l = .pump → w.held .chiller = true) :
    w.UpKept l (w.actDown e l) := by
  cases top : (w.seq.ladder l).stack.getLast? with
  | none =>
    rw [actDown_of_empty (List.getLast?_eq_none_iff.mp top)]
    exact upKept_onLadder w l (fun _ => rfl) (fun _ => rfl) fun _ => rfl
  | some p =>
    unfold Work.actDown
    rw [top]
    dsimp only
    split
    · exact ⟨rfl, rfl, rfl, rfl⟩
    · split
      · exact ⟨rfl, rfl, rfl, rfl⟩
      next ripe =>
        rw [if_neg (by simp [live])]
        have done : w.UpKept l (w.onLadder l Ladder.downDone) :=
          upKept_onLadder w l (fun _ => rfl) (fun _ => rfl) fun _ => rfl
        obtain ⟨H, halts⟩ := halts_stopUnit_held (e := e) (w := w.onLadder l Ladder.downDone) (l := l) (p := p)
          (fun pump => (held_of_leads (leads_downDone w l) .chiller).trans (held pump))
          (fun u unit starting => ripe (by
            have here : w.unit l p = some u :=
              (unit_onLadder_of_units (f := Ladder.downDone) (fun _ => rfl) l p).symm.trans unit
            rw [here, live]
            simp [PlantUnit.young, starting]))
        obtain ⟨up, pending, short, waiting⟩ := halts.upKept l
        obtain ⟨up', pending', short', waiting'⟩ := done
        exact ⟨up.trans up', pending.trans pending', short.trans short', waiting.trans waiting'⟩

theorem upKept_driveDown (live : e.shadow = false) (held : l = .pump → w.held .chiller = true) (b : Bool) :
    w.UpKept l (w.driveDown e l b) := by
  unfold Work.driveDown
  split
  · split
    · exact upKept_actDown live held
    · exact upKept_onLadder w l (fun _ => rfl) (fun _ => rfl) fun _ => rfl
  · exact upKept_onLadder w l (fun _ => rfl) (fun _ => rfl) fun _ => rfl

/-! ## The up side, with nothing to raise -/

theorem ladder_clearShort (w : Work) (l : LadderId) :
    (w.clearShort l).seq.ladder l = { w.seq.ladder l with shortCap := false } := by
  unfold Work.clearShort
  dsimp only
  split
  · exact ladder_onLadder w l fun L => { L with shortCap := false }
  next clear =>
    have clear := Bool.eq_false_iff.mpr clear
    rw [← clear]

theorem waiting_clearShort (w : Work) (l : LadderId) : (w.clearShort l).seq.waiting = w.seq.waiting := by
  unfold Work.clearShort
  dsimp only
  split
  · exact waiting_onLadder w l fun L => { L with shortCap := false }
  · rfl

theorem ladder_waiting (q : Sequencer) (b : Bool) (l : LadderId) : ({ q with waiting := b } : Sequencer).ladder l = q.ladder l := by
  cases l <;> rfl

theorem ladder_driveUp_false (w : Work) (e : SeqEnv) (l : LadderId) :
    (w.driveUp e l false).seq.ladder l = { (w.seq.ladder l).upDone with shortCap := false } := by
  unfold Work.driveUp
  rw [if_neg (by simp)]
  dsimp only
  rw [ladder_clearShort, ladder_waiting, ladder_onLadder]

theorem waiting_driveUp_false (w : Work) (e : SeqEnv) (l : LadderId) :
    (w.driveUp e l false).seq.waiting = (w.seq.waiting && decide (l ≠ .chiller)) := by
  unfold Work.driveUp
  rw [if_neg (by simp)]
  dsimp only
  rw [waiting_clearShort]
  dsimp only
  rw [waiting_onLadder]

theorem leads_driveUp_false (w : Work) (e : SeqEnv) (l : LadderId) : w.Leads (w.driveUp e l false) := by
  unfold Work.driveUp
  rw [if_neg (by simp)]
  exact (leads_clearShort _ l).after ((leads_waiting _ _).after (leads_upDone w l))

/-! ## The drive, side by side -/

theorem ladder_drive (w : Work) (e : SeqEnv) (l : LadderId) (f : Figures) : (w.drive e l f).seq.ladder l =
    { ((w.driveUp e l f.up).driveDown e l f.down).seq.ladder l with figures := f } := ladder_onLadder _ _ _

theorem waiting_drive (w : Work) (e : SeqEnv) (l : LadderId) (f : Figures) :
    (w.drive e l f).seq.waiting = ((w.driveUp e l f.up).driveDown e l f.down).seq.waiting := waiting_onLadder _ _ _

theorem unit_drive (w : Work) (e : SeqEnv) (l : LadderId) (f : Figures) (m : LadderId) (n : Nat) :
    (w.drive e l f).unit m n = ((w.driveUp e l f.up).driveDown e l f.down).unit m n :=
  unit_onLadder_of_units (f := fun L => { L with figures := f }) (fun _ => rfl) m n

/-- Where the down side does not hold, the drive is the up side's, with DOWN at rest. -/
theorem ladder_drive_rested (quiet : f.down = false) : (w.drive e l f).seq.ladder l =
    { (w.driveUp e l f.up).seq.ladder l with down := .idle, downPending := false, figures := f } := by
  rw [ladder_drive, quiet]
  unfold Work.driveDown
  rw [if_neg (by simp), ladder_onLadder]
  rfl

theorem unit_drive_rested (quiet : f.down = false) (m : LadderId) (n : Nat) :
    (w.drive e l f).unit m n = (w.driveUp e l f.up).unit m n := by
  rw [unit_drive, quiet]
  unfold Work.driveDown
  rw [if_neg (by simp)]
  exact unit_onLadder_of_units (f := Ladder.downDone) (fun _ => rfl) m n

theorem drive_up_false (live : e.shadow = false) (held : l = .pump → w.held .chiller = true) (up : f.up = false) :
    let M := (w.drive e l f).seq.ladder l
    M.up = .idle ∧ M.upPending = false ∧ M.shortCap = false ∧ (l = .chiller → (w.drive e l f).seq.waiting = false) := by
  have held' : l = .pump → (w.driveUp e l f.up).held .chiller = true := fun pump => by
    rw [up, held_of_leads (leads_driveUp_false w e l), held pump]
  obtain ⟨hup, pending, short, waiting⟩ := upKept_driveDown live held' f.down
  have done := ladder_driveUp_false w e l
  rw [up] at hup pending short waiting
  rw [done] at hup pending short
  rw [ladder_drive, waiting_drive, up]
  refine ⟨hup, pending, short, fun chiller => waiting.trans ?_⟩
  rw [waiting_driveUp_false, chiller]
  simp

theorem drive_up_starts (up : f.up = true) (quiet : f.down = false) (fresh : (w.seq.ladder l).upPending = false) :
    let M := (w.drive e l f).seq.ladder l
    M.upPending = false ∧ M.up = (if (w.seq.ladder l).up = .idle
      then .counting (w.seq.ladder l).periods.up (w.seq.ladder l).periods.up 1 else (w.seq.ladder l).up) := by
  have started : w.driveUp e l f.up = w.onLadder l fun L => { L with up := L.up.startIfIdle L.periods.up } := by
    unfold Work.driveUp
    rw [if_pos up, if_neg (by simp [fresh])]
  rw [ladder_drive_rested quiet, started, ladder_onLadder]
  exact ⟨fresh, startIfIdle_eq _ _⟩

theorem driveUp_pending (up : f.up = true) (pending : (w.seq.ladder l).upPending = true) :
    w.driveUp e l f.up = w.actUp e l := by
  unfold Work.driveUp
  rw [if_pos up, if_pos pending]

theorem drive_up_barred (up : f.up = true) (quiet : f.down = false) (pending : (w.seq.ladder l).upPending = true)
    (bars : e.latch = true ∨ (w.seq.ladder l).hasStarting = true) :
    let M := (w.drive e l f).seq.ladder l
    M.upPending = true ∧ M.up = (w.seq.ladder l).up := by
  rw [ladder_drive_rested quiet, driveUp_pending up pending, actUp_barred (.inr bars)]
  exact ⟨pending, rfl⟩

theorem drive_up_short (free : w.held l = false) (latch : e.latch = false) (alone : (w.seq.ladder l).hasStarting = false)
    (up : f.up = true) (quiet : f.down = false) (pending : (w.seq.ladder l).upPending = true)
    (none_off : (w.seq.ladder l).first (fun u => decide (u.state = .off)) = none) :
    let M := (w.drive e l f).seq.ladder l
    M.upPending = true ∧ M.shortCap = true := by
  rw [ladder_drive_rested quiet, driveUp_pending up pending, actUp_eq, actUpWith_of_none free latch alone none_off,
    setShort_eq]
  change ((w.onLadder l fun L => { L with shortCap := true }).seq.ladder l).upPending = true ∧
    ((w.onLadder l fun L => { L with shortCap := true }).seq.ladder l).shortCap = true
  rw [ladder_onLadder]
  exact ⟨pending, rfl⟩

/-- What a start makes of a ladder. -/
theorem ladder_startUnit (w : Work) (e : SeqEnv) (l : LadderId) (p : Nat) : (w.startUnit e l p).seq.ladder l =
    { ((w.seq.ladder l).modUnit p (PlantUnit.starts (w.seq.ladder l).periods (e.setpoint l))) with
      up := .idle, upPending := false, shortCap := false, stack := (w.seq.ladder l).stack ++ [p] } := by
  unfold Work.startUnit
  rw [ladder_clearShort, ladder_onLadder]
  have entered : (w.enter e l p .starting (some .run) fun u =>
      { u with prove := .start (w.seq.ladder l).periods.prove }).seq.ladder l =
      (w.seq.ladder l).modUnit p (PlantUnit.starts (w.seq.ladder l).periods (e.setpoint l)) :=
    ladder_onLadder w l fun L => L.modUnit p _
  rw [entered]
  unfold Ladder.push Ladder.upDone
  rw [modUnit_stack]

theorem drive_up_started (free : w.held l = false) (latch : e.latch = false) (live : e.shadow = false)
    (alone : (w.seq.ladder l).hasStarting = false) (up : f.up = true) (quiet : f.down = false)
    (pending : (w.seq.ladder l).upPending = true)
    (off : (w.seq.ladder l).first (fun u => decide (u.state = .off)) = some n) (unit : w.unit l n = some u)
    (may : l = .pump ∨ w.seq.pumps.serves = true) :
    let M := (w.drive e l f).seq.ladder l
    M.upPending = false ∧ M.up = .idle ∧ M.shortCap = false ∧ M.stack = (w.seq.ladder l).stack ++ [n] ∧
      (w.drive e l f).unit l n = some (u.starts (w.seq.ladder l).periods (e.setpoint l)) := by
  have acted : w.driveUp e l f.up = w.startUnit e l n := by
    rw [driveUp_pending up pending, actUp_eq, actUpWith_of_start free latch alone off live may]
  have started := ladder_startUnit w e l n
  rw [unit_drive_rested quiet, ladder_drive_rested quiet, acted]
  unfold Work.unit
  rw [started]
  refine ⟨rfl, rfl, rfl, rfl, ?_⟩
  exact (unitAt_of_units rfl n).trans ((unitAt_modUnit_same _ n _).trans (congrArg (Option.map _) unit))

/-! ## The down side -/

theorem drive_down_false (quiet : f.down = false) :
    ((w.drive e l f).seq.ladder l).down = .idle ∧ ((w.drive e l f).seq.ladder l).downPending = false := by
  rw [ladder_drive_rested quiet]
  exact ⟨rfl, rfl⟩

theorem driveUp_false_acts (pending : (w.seq.ladder l).downPending = true)
    (top : (w.seq.ladder l).stack.getLast? = some n) (unit : w.unit l n = some u) (free : w.held l = false) :
    let v := w.driveUp e l false
    v.driveDown e l true = v.actDown e l ∧ (v.seq.ladder l).stack.getLast? = some n ∧ v.unit l n = some u ∧
      v.held l = false := by
  have done := ladder_driveUp_false w e l
  refine ⟨?_, ?_, ?_, ?_⟩
  · unfold Work.driveDown
    rw [if_pos rfl, if_pos]
    rw [done]
    exact pending
  · rw [done]
    exact top
  · unfold Work.unit
    rw [done]
    exact (unitAt_of_units rfl n).trans unit
  · rw [held_of_leads (leads_driveUp_false w e l), free]

section
variable (up : f.up = false) (down : f.down = true)
include up down

theorem drive_down_starts (fresh : (w.seq.ladder l).downPending = false) :
    let M := (w.drive e l f).seq.ladder l
    M.downPending = false ∧ M.down = (if (w.seq.ladder l).down = .idle
      then .counting (w.seq.ladder l).periods.down (w.seq.ladder l).periods.down 1 else (w.seq.ladder l).down) := by
  have done := ladder_driveUp_false w e l
  have fresh' : ((w.driveUp e l false).seq.ladder l).downPending = false := by
    rw [done]
    exact fresh
  rw [ladder_drive, up, down]
  unfold Work.driveDown
  rw [if_pos rfl, if_neg (by simp [fresh']), ladder_onLadder, done]
  exact ⟨fresh, startIfIdle_eq _ _⟩

variable (pending : (w.seq.ladder l).downPending = true) (top : (w.seq.ladder l).stack.getLast? = some n)
  (unit : w.unit l n = some u) (free : w.held l = false) (live : e.shadow = false)
include pending top unit free live

theorem drive_down_young (young : u.young = true) :
    let M := (w.drive e l f).seq.ladder l
    M.downPending = true ∧ M.down = (w.seq.ladder l).down := by
  obtain ⟨acts, top', unit', free'⟩ := driveUp_false_acts (e := e) pending top unit free
  rw [ladder_drive, up, down, acts, actDown_of_young top' free' unit' live young, ladder_driveUp_false]
  exact ⟨pending, rfl⟩

theorem drive_down_stops (ripe : u.young = false) :
    let M := (w.drive e l f).seq.ladder l
    M.downPending = false ∧ M.down = .idle ∧ n ∉ M.stack ∧
      (w.drive e l f).unit l n = some (u.stopped (w.seq.ladder l).periods (e.setpoint l)) := by
  obtain ⟨acts, top', unit', free'⟩ := driveUp_false_acts (e := e) pending top unit free
  obtain ⟨stands, gone, done, rested⟩ := downDone_stopUnit (e := e) unit'
  rw [ladder_driveUp_false] at stands
  rw [unit_drive, ladder_drive, up, down, acts, actDown_of_ripe top' free' unit' live ripe]
  exact ⟨done, rested, gone, stands⟩

end

end

end Sys2Proof.Machine

/-! SUPPORT. The ladders at readings-closed before the judgement and before the evaluation (06, R103; 07, R112, R113). -/

namespace Sys2Proof.Machine

section
variable {s : State} {l : LadderId} {n : Nat} {u : PlantUnit}

/-! ## The units as the closing leaves them -/

/-- The work that the sequencer judges: both ladders closed, the pumps' setpoints written. -/
def State.closedWork (s : State) : Work := (⟨(pressureClosed s.tabled).seq, []⟩ : Work).closeUnits s.limits

/-- The environment of that work. -/
def State.closingEnv (s : State) : SeqEnv := (pressureClosed s.tabled).seqEnv

/-- The work that the judgement leaves. -/
def State.judgedWork (s : State) : Work := s.closedWork.judgeAll s.closingEnv (pressureClosed s.tabled).seq

/-- A unit as the judgement finds it. -/
def State.heard (s : State) : LadderId → PlantUnit → PlantUnit
  | .chiller, u => u.close s.limits
  | .pump, u => (u.writeSetpoint (pressureClosed s.tabled).press.setpoint).close s.limits

theorem staged_seq (s : State) : s.staged.seq = ((s.judgedWork.onLadder .chiller (·.writeSupply s.limits.supplySet)).evaluate
    s.closingEnv (pressureClosed s.tabled).loadInput).seq := rfl

theorem writeSetpoint_next_only (setpoint : Nat) (u : PlantUnit) : u.writeSetpoint setpoint =
    { u with next := (u.writeSetpoint setpoint).next } := by
  unfold PlantUnit.writeSetpoint
  split <;> rfl

/-- The closing and the setpoint write move no unit. -/
theorem heard_eq (s : State) (l : LadderId) (u : PlantUnit) :
    s.heard l u = { u.close s.limits with next := (s.heard l u).next } := by
  cases l with
  | chiller => rfl
  | pump =>
    exact (congrArg (PlantUnit.close s.limits) (writeSetpoint_next_only _ u) :)

theorem heard_next (s : State) (l : LadderId) (u : PlantUnit) :
    (s.heard l u).next.map (·.demand) = u.next.map (·.demand) := by
  cases l with
  | chiller => rfl
  | pump =>
    change (u.writeSetpoint _).next.map _ = _
    unfold PlantUnit.writeSetpoint
    split
    · exact Option.map_map ..
    · rfl

theorem ladder_closedWork (s : State) (l : LadderId) : s.closedWork.seq.ladder l =
    { s.seq.ladder l with units := (s.seq.ladder l).units.map (·.map (s.heard l)) } := by
  cases l with
  | chiller => rfl
  | pump =>
    have twice : ((s.seq.pumps.units.map (·.map (PlantUnit.writeSetpoint (pressureClosed s.tabled).press.setpoint))).map
        (·.map (PlantUnit.close s.limits))) = s.seq.pumps.units.map (·.map (s.heard .pump)) := by
      rw [List.map_map]
      exact List.map_congr_left fun o _ => Option.map_map ..
    exact congrArg (fun us => { s.seq.pumps with units := us }) twice

theorem unit_closedWork (s : State) (l : LadderId) (n : Nat) :
    s.closedWork.unit l n = (s.unit? l n).map (s.heard l) := by
  unfold Work.unit
  rw [ladder_closedWork]
  exact unitAt_map _ _ n

/-- The units that the judgement goes by have the stations of those before the closing. -/
theorem station_before (s : State) (l : LadderId) (n : Nat) :
    (((pressureClosed s.tabled).seq.ladder l).unitAt n).map (·.station) = (s.unit? l n).map (·.station) := by
  cases l with
  | chiller => rfl
  | pump =>
    have written : (pressureClosed s.tabled).seq.pumps.unitAt n =
        (s.unit? .pump n).map (PlantUnit.writeSetpoint (pressureClosed s.tabled).press.setpoint) := unitAt_map _ _ n
    change ((pressureClosed s.tabled).seq.pumps.unitAt n).map _ = _
    rw [written, Option.map_map]
    congr 1
    funext u
    exact (congrArg PlantUnit.station (writeSetpoint_next_only (pressureClosed s.tabled).press.setpoint u) :)

theorem waiting_closedWork (s : State) : s.closedWork.seq.waiting = s.seq.waiting := rfl

theorem held_closedWork (s : State) (l : LadderId) : s.closedWork.held l = ((s.seq.ladder l).requestHold || s.seq.inputHold) := by
  unfold Work.held
  rw [ladder_closedWork]
  rfl

/-! ## What the rest of readings-closed leaves -/

theorem readingsClosed_seq (s : State) : (readingsClosed s).seq = s.staged.seq :=
  (storageClosed_header_seq s.fc.pEff (storageAvailable s.storage) s.staged).2

theorem readingsClosed_setpoint (s : State) (l : LadderId) : s.closingEnv.setpoint l = (readingsClosed s).setpointFor l := by
  have kept := (storeOnly_storageClosed (s := s.staged) s.fc.pEff (storageAvailable s.storage)).frame
  rw [readingsClosed_eq, kept]
  cases l <;> rfl

theorem loadInput_eq (s : State) : (pressureClosed s.tabled).loadInput =
    { lStage := (readingsClosed s).load.lStage, headerStale := (readingsClosed s).press.headerStale,
      tsup := (((readingsClosed s).header.bind fun h => h.station.values).map (·.tsup)).getD 0, limits := s.limits } := by
  have kept := (storeOnly_storageClosed (s := s.staged) s.fc.pEff (storageAvailable s.storage)).frame
  rw [readingsClosed_eq, kept]
  rfl

/-! ## A cycle that moves no unit -/

/-- A unit that the judgement passes over, or that was not heard. -/
def PlantUnit.quiet (u : PlantUnit) : Prop :=
  u.station.joined = true ∨ (u.station.cycle = none ∧ u.station.faultMark = false)

theorem judgeOne_silent (w : Work) (e : SeqEnv) (l : LadderId) (p : Nat) (u : PlantUnit) :
    w.judgeOne e l p u .silent = w := by
  unfold Work.judgeOne
  split
  case h_15 => rfl
  all_goals contradiction

theorem judgeAt_quiet {e : SeqEnv} {before : Sequencer} (w : Work) (p : Nat) (live : e.shadow = false)
    (quiet : ∀ b, (before.ladder l).unitAt p = some b → b.quiet) : w.judgeAt e before l p = w := by
  unfold Work.judgeAt
  split
  next b u hb hu =>
    split
    · rfl
    next open_ =>
      obtain ⟨cycle, mark⟩ := (quiet b hb).resolve_left open_
      have silent : b.station.cls = .silent := by
        unfold Station.cls
        rw [cycle, mark]
        rfl
      rw [if_neg (by simp [live]), silent, judgeOne_silent]
  · rfl

/-- A cycle in which no unit that is taken was heard judges nothing. -/
theorem judgeAll_quiet {e : SeqEnv} {before : Sequencer} (w : Work) (live : e.shadow = false)
    (quiet : ∀ l p b, (before.ladder l).unitAt p = some b → b.quiet) : w.judgeAll e before = w := by
  unfold Work.judgeAll
  rw [List.foldl_fixed' fun p => judgeAt_quiet w p live (quiet .pump p)]
  exact List.foldl_fixed' (fun p => judgeAt_quiet w p live (quiet .chiller p)) _

theorem values_close_quiet (quiet : u.quiet) (lim : Limits) : (u.close lim).station.values = u.station.values := by
  unfold PlantUnit.close Station.close
  dsimp only
  split
  · rfl
  next open_ =>
    obtain ⟨cycle, mark⟩ := quiet.resolve_left open_
    unfold Station.values Station.closing
    rw [cycle, mark]
    rfl

end

end Sys2Proof.Machine

/-! The statement on staging up and down: UP_EXPIRY, DOWN_EXPIRY and the evaluation at CYCLE_END. -/

namespace Sys2Proof.Machine

section
variable {s : State} {l : LadderId} {n : Nat} {u : PlantUnit}

/-! ## The ladders that an evaluation reads after a quiet cycle -/

/-- A unit as the evaluation finds it after a quiet cycle. -/
def State.settled (s : State) : LadderId → PlantUnit → PlantUnit
  | .chiller, u => { s.heard .chiller u with next := u.next.map fun c => { c with setpoint := s.limits.supplySet } }
  | .pump, u => s.heard .pump u

theorem settled_eq (s : State) (l : LadderId) (u : PlantUnit) :
    s.settled l u = { u.close s.limits with next := (s.settled l u).next } := by
  cases l with
  | chiller => rfl
  | pump => exact heard_eq s .pump u

theorem settled_state (s : State) (l : LadderId) (u : PlantUnit) : (s.settled l u).state = u.state := by
  rw [settled_eq]
  rfl

theorem settled_delivers (s : State) (l : LadderId) (u : PlantUnit) : (s.settled l u).delivers = u.delivers := by
  rw [settled_eq]
  rfl

theorem settled_capacity (s : State) (l : LadderId) (u : PlantUnit) : (s.settled l u).capacity = u.capacity := by
  rw [settled_eq]
  rfl

theorem settled_young (s : State) (l : LadderId) (u : PlantUnit) : (s.settled l u).young = u.young := by
  rw [settled_eq]
  rfl

theorem settled_values (quiet : u.quiet) (s : State) (l : LadderId) :
    (s.settled l u).station.values = u.station.values := by
  rw [settled_eq]
  exact values_close_quiet quiet s.limits

/-- The work that the evaluation reads after a quiet cycle. -/
def State.settledWork (s : State) : Work := s.closedWork.onLadder .chiller (·.writeSupply s.limits.supplySet)

theorem ladder_settledWork (s : State) (l : LadderId) : s.settledWork.seq.ladder l =
    { s.seq.ladder l with units := (s.seq.ladder l).units.map (·.map (s.settled l)) } := by
  cases l with
  | pump => exact ladder_closedWork s .pump
  | chiller =>
    unfold State.settledWork
    rw [ladder_onLadder, ladder_closedWork]
    have twice : ((s.seq.chillers.units.map (·.map (s.heard .chiller))).map
        (·.map fun u => { u with next := u.next.map fun c => { c with setpoint := s.limits.supplySet } })) =
        s.seq.chillers.units.map (·.map (s.settled .chiller)) := by
      rw [List.map_map]
      exact List.map_congr_left fun o _ => Option.map_map ..
    exact congrArg (fun us => { s.seq.chillers with units := us }) twice

theorem unit_settledWork (s : State) (l : LadderId) (n : Nat) :
    s.settledWork.unit l n = (s.unit? l n).map (s.settled l) := by
  unfold Work.unit
  rw [ladder_settledWork]
  exact unitAt_map _ _ n

theorem held_settledWork (s : State) (l : LadderId) :
    s.settledWork.held l = ((s.seq.ladder l).requestHold || s.seq.inputHold) := by
  unfold Work.held
  rw [ladder_settledWork]
  rfl

theorem held_settledWork_free (free : s.seq.inputHold = false) (hold : (s.seq.ladder l).requestHold = false) :
    s.settledWork.held l = false := by
  rw [held_settledWork, hold, free]
  rfl

theorem any_settled {test : PlantUnit → Bool} (same : ∀ u, test (s.settled l u) = test u) :
    ((s.settledWork.seq.ladder l).units.any fun u => u.any test) = (s.seq.ladder l).units.any fun u => u.any test := by
  rw [ladder_settledWork]
  dsimp only
  rw [List.any_map]
  congr 1
  funext o
  cases o with
  | none => rfl
  | some u => exact same u

theorem hasStarting_settled (s : State) (l : LadderId) :
    (s.settledWork.seq.ladder l).hasStarting = (s.seq.ladder l).hasStarting :=
  any_settled fun u => by rw [settled_state]

theorem serves_settled (s : State) : s.settledWork.seq.pumps.serves = s.seq.pumps.serves :=
  any_settled (l := .pump) fun u => by
    unfold PlantUnit.inService
    rw [settled_state]

/-- A unit of the settled work is one of the part's. -/
theorem settled_unit_back {v : PlantUnit} (unit : s.settledWork.unit l n = some v) :
    ∃ u, s.unit? l n = some u ∧ v = s.settled l u := by
  rw [unit_settledWork, Option.map_eq_some_iff] at unit
  obtain ⟨u, hu, rfl⟩ := unit
  exact ⟨u, hu, rfl⟩

theorem first_off_settled (unit : s.unit? l n = some u) (off : u.state = .off)
    (least : ∀ j v, j < n → s.unit? l j = some v → v.state ≠ .off) :
    (s.settledWork.seq.ladder l).first (fun u => decide (u.state = .off)) = some n := by
  have unit' : s.settledWork.unit l n = some (s.settled l u) := (unit_settledWork s l n).trans (congrArg _ unit)
  refine first_of_least unit' (decide_eq_true ((settled_state s l u).trans off)) fun j v lt there => decide_eq_false ?_
  obtain ⟨w, hw, rfl⟩ := settled_unit_back there
  rw [settled_state]
  exact least j w lt hw

theorem first_off_none_settled (none_off : ∀ k u, s.unit? l k = some u → u.state ≠ .off) :
    (s.settledWork.seq.ladder l).first (fun u => decide (u.state = .off)) = none := by
  refine first_eq_none fun k v there => decide_eq_false ?_
  obtain ⟨w, hw, rfl⟩ := settled_unit_back there
  rw [settled_state]
  exact none_off k w hw

/-! ## The figures -/

theorem running_settled (s : State) : s.settledWork.seq.chillers.running =
    (s.seq.chillers.units.map fun u => match u with
      | some v => if v.state = .running ∨ (v.state = .hand .run ∧ v.prove = .idle) then v.capacity else 0
      | none => 0).sum := by
  have ladder : s.settledWork.seq.chillers.units = _ := congrArg Ladder.units (ladder_settledWork s .chiller)
  unfold Ladder.running
  rw [ladder]
  dsimp only
  rw [List.map_map]
  refine congrArg List.sum (List.map_congr_left fun o _ => ?_)
  cases o with
  | none => rfl
  | some u =>
    have delivers : (s.settled .chiller u).delivers = true ↔
        u.state = .running ∨ (u.state = .hand .run ∧ u.prove = .idle) := by
      rw [settled_delivers]
      exact handProved_iff u
    change (if (s.settled .chiller u).delivers = true then (s.settled .chiller u).capacity else 0) = _
    rw [settled_capacity]
    exact if_congr delivers rfl rfl

theorem capTop_settled (s : State) : s.settledWork.seq.chillers.capTop =
    ((s.seq.chillers.stack.getLast?.bind (s.unit? .chiller)).map (·.capacity)).getD 0 := by
  have stack : s.settledWork.seq.chillers.stack = s.seq.chillers.stack :=
    (congrArg Ladder.stack (ladder_settledWork s .chiller) :)
  unfold Ladder.capTop
  rw [stack]
  cases s.seq.chillers.stack.getLast? with
  | none => rfl
  | some p =>
    change ((s.settledWork.unit .chiller p).map (·.capacity)).getD 0 = ((s.unit? .chiller p).map (·.capacity)).getD 0
    rw [unit_settledWork, Option.map_map]
    exact congrArg (fun f => (Option.map f (s.unit? .chiller p)).getD 0) (funext fun u => settled_capacity s .chiller u)

theorem runningUnits_settled (s : State) :
    s.settledWork.seq.pumps.runningUnits = s.seq.pumps.runningUnits.map (s.settled .pump) := by
  have ladder : s.settledWork.seq.pumps.units = _ := congrArg Ladder.units (ladder_settledWork s .pump)
  unfold Ladder.runningUnits
  rw [ladder]
  dsimp only
  rw [List.filterMap_map, List.map_filterMap]
  refine List.filterMap_congr fun o _ => ?_
  cases o with
  | none => rfl
  | some u =>
    have state := settled_state s .pump u
    by_cases running : u.state = .running <;> simp [Option.filter, state, running]

theorem averageSpeed_settled (quiet : ∀ n u, s.unit? .pump n = some u → u.quiet) :
    averageSpeed s.settledWork.seq.pumps.runningUnits = averageSpeed s.seq.pumps.runningUnits := by
  unfold averageSpeed
  rw [runningUnits_settled, List.length_map, List.map_map]
  refine congrArg (fun us => List.sum us / _) (List.map_congr_left fun u hu => ?_)
  obtain ⟨o, ho, kept⟩ := List.mem_filterMap.mp hu
  obtain ⟨rfl, -⟩ := Option.filter_eq_some_iff.mp kept
  obtain ⟨n, unit⟩ := (mem_units_iff _).mp ho
  exact congrArg (fun v => (v.map (·.value)).getD 0) (settled_values (quiet n u unit) s .pump)

/-! ## The evaluation at CYCLE_END -/

/-- The figures that a quiet cycle's evaluation of a ladder records. -/
def State.staging (s : State) (l : LadderId) : Figures :=
  s.settledWork.figuresOf s.closingEnv (pressureClosed s.tabled).loadInput l

/-- A ladder that drives up does not drive down. -/
theorem staging_quiet (up : (s.staging l).up = true) : (s.staging l).down = false := by
  refine Bool.eq_false_iff.mpr fun down => ?_
  have excluded : (s.staging l).up = false := down_excludes_up _ _ _ l down
  rw [up] at excluded
  cases excluded

theorem staging_common (s : State) (l : LadderId) : (s.staging l).load = (readingsClosed s).load.lStage ∧
    (s.staging l).count = s.fc.count ∧ (s.staging l).running = (s.seq.ladder l).stack.length := by
  have stack : (s.settledWork.seq.ladder l).stack = (s.seq.ladder l).stack :=
    (congrArg Ladder.stack (ladder_settledWork s l) :)
  have load : (pressureClosed s.tabled).loadInput.lStage = (readingsClosed s).load.lStage :=
    (congrArg LoadInput.lStage (loadInput_eq s) :)
  cases l with
  | chiller => exact ⟨load, rfl, congrArg List.length stack⟩
  | pump => exact ⟨load, rfl, congrArg List.length stack⟩

theorem staging_chiller (s : State) :
    let f := s.staging .chiller
    let t := readingsClosed s
    f.cRun = (s.seq.chillers.units.map fun u => match u with
      | some v => if v.state = .running ∨ (v.state = .hand .run ∧ v.prove = .idle) then v.capacity else 0
      | none => 0).sum ∧
    f.capTop = ((s.seq.chillers.stack.getLast?.bind (s.unit? .chiller)).map (·.capacity)).getD 0 ∧
    f.tsupUsed = !t.press.headerStale ∧
    (f.up = true ↔ f.cRun * s.limits.upPct < t.load.lStage * 100 ∨
      (t.press.headerStale = false ∧ s.limits.supplySet + s.limits.supplyBand
        < ((t.header.bind fun h => h.station.values).map (·.tsup)).getD 0)) ∧
    (f.down = true ↔ f.up = false ∧
      ((2 ≤ s.seq.chillers.stack.length ∧ t.load.lStage * 100 < (f.cRun - f.capTop) * s.limits.downPct) ∨
        (t.load.lStage = 0 ∧ s.seq.chillers.stack ≠ []))) := by
  have stack : s.settledWork.seq.chillers.stack = s.seq.chillers.stack :=
    (congrArg Ladder.stack (ladder_settledWork s .chiller) :)
  unfold State.staging Work.figuresOf
  rw [loadInput_eq]
  refine ⟨running_settled s, capTop_settled s, rfl, ?_, ?_⟩
  · simp [chillerFigures]
  · have excludes : ∀ a b : Bool, (a && !b) = true ↔ b = false ∧ a = true := by decide
    refine (excludes _ _).trans (and_congr Iff.rfl ?_)
    simp [chillerFigures, stack]

theorem staging_pump (quiet : ∀ n u, s.unit? .pump n = some u → u.quiet) :
    let f := s.staging .pump
    let us := s.seq.pumps.units.filterMap fun u => u.filter fun v => decide (v.state = .running)
    f.pumps = us.length ∧
    f.speed = (us.map fun u => (u.station.values.map (·.value)).getD 0).sum / us.length ∧
    (f.up = true ↔ (us ≠ [] ∧ s.limits.pumpUp ≤ f.speed) ∨ (s.seq.waiting = true ∧ s.seq.pumps.serves = false)) ∧
    (f.down = true ↔ f.up = false ∧ 2 ≤ s.seq.pumps.stack.length ∧ us ≠ [] ∧ f.speed ≤ s.limits.pumpDown) := by
  have stack : s.settledWork.seq.pumps.stack = s.seq.pumps.stack :=
    (congrArg Ladder.stack (ladder_settledWork s .pump) :)
  have length : s.settledWork.seq.pumps.runningUnits.length = s.seq.pumps.runningUnits.length := by
    rw [runningUnits_settled, List.length_map]
  have empty : s.settledWork.seq.pumps.runningUnits = [] ↔ s.seq.pumps.runningUnits = [] := by
    rw [runningUnits_settled, List.map_eq_nil_iff]
  have waiting : s.settledWork.seq.waiting = s.seq.waiting := rfl
  have serves := serves_settled s
  unfold State.staging Work.figuresOf
  rw [loadInput_eq]
  refine ⟨length, averageSpeed_settled quiet, ?_, ?_⟩
  · change _ ↔ (s.seq.pumps.runningUnits ≠ [] ∧ _) ∨ _
    simp [pumpFigures, waiting, serves, empty]
  · have excludes : ∀ a b : Bool, (a && !b) = true ↔ b = false ∧ a = true := by decide
    refine (excludes _ _).trans (and_congr Iff.rfl ?_)
    change _ ↔ _ ∧ s.seq.pumps.runningUnits ≠ [] ∧ _
    simp [pumpFigures, stack, empty, and_assoc]

/-- After a quiet cycle the one ladder that is free is driven by its figures. -/
theorem readingsClosed_driven (live : s.fc.shadow = false) (free : s.seq.inputHold = false)
    (hold : (s.seq.ladder l).requestHold = false) (others : ∀ k, k ≠ l → (s.seq.ladder k).requestHold = true)
    (quiet : ∀ k n u, s.unit? k n = some u → u.quiet) :
    (readingsClosed s).seq = (s.settledWork.drive s.closingEnv l (s.staging l)).seq := by
  have judged : s.judgedWork = s.closedWork := by
    refine judgeAll_quiet _ live fun k p b there => ?_
    have station := station_before s k p
    rw [there, Option.map_some, eq_comm, Option.map_eq_some_iff] at station
    obtain ⟨u, unit, same⟩ := station
    unfold PlantUnit.quiet
    rw [← same]
    exact quiet k p u unit
  have free' := held_settledWork_free free hold
  have others' : ∀ k, k ≠ l → s.settledWork.held k = true := fun k other => by
    rw [held_settledWork, others k other, Bool.true_or]
  rw [readingsClosed_seq, staged_seq, judged]
  exact congrArg Work.seq (evaluate_of_free (e := s.closingEnv) (x := (pressureClosed s.tabled).loadInput) free' others')

end

end Sys2Proof.Machine

/-! The statement on staging up and down (07, R122 to R127, R130). -/

namespace Sys2Proof.Machine

/-! ## What the evaluation at CYCLE_END leaves of the one free ladder -/

section
variable {s : State} {l : LadderId} {n : Nat} {u : PlantUnit} (live : s.fc.shadow = false) (free : s.seq.inputHold = false)
  (hold : (s.seq.ladder l).requestHold = false) (others : ∀ k, k ≠ l → (s.seq.ladder k).requestHold = true)
  (quiet : ∀ k n u, s.unit? k n = some u → u.quiet)
include live free hold others quiet

theorem evaluated_figures : ((readingsClosed s).seq.ladder l).figures = s.staging l := by
  rw [readingsClosed_driven live free hold others quiet, ladder_drive]

theorem evaluated_up_false (up : (s.staging l).up = false) :
    let M := (readingsClosed s).seq.ladder l
    M.up = .idle ∧ M.upPending = false ∧ M.shortCap = false ∧ (l = .chiller → (readingsClosed s).seq.waiting = false) := by
  rw [readingsClosed_driven live free hold others quiet]
  refine drive_up_false live ?_ up
  rintro rfl
  rw [held_settledWork, others .chiller (by simp), Bool.true_or]

theorem evaluated_up_starts (up : (s.staging l).up = true) (fresh : (s.seq.ladder l).upPending = false) :
    let M := (readingsClosed s).seq.ladder l
    M.upPending = false ∧ M.up = (if (s.seq.ladder l).up = .idle
      then .counting (s.seq.ladder l).periods.up (s.seq.ladder l).periods.up 1 else (s.seq.ladder l).up) := by
  have ladder := ladder_settledWork s l
  have started := drive_up_starts (w := s.settledWork) (e := s.closingEnv) up (staging_quiet up) (by rw [ladder]; exact fresh)
  rw [readingsClosed_driven live free hold others quiet]
  rw [ladder] at started
  exact started

theorem evaluated_up_barred (up : (s.staging l).up = true) (pending : (s.seq.ladder l).upPending = true)
    (bars : s.inputs.stopLatch = true ∨ (s.seq.ladder l).hasStarting = true) :
    let M := (readingsClosed s).seq.ladder l
    M.upPending = true ∧ M.up = (s.seq.ladder l).up := by
  have ladder := ladder_settledWork s l
  have barred := drive_up_barred (w := s.settledWork) (e := s.closingEnv) up (staging_quiet up) (by rw [ladder]; exact pending)
    (bars.imp_right (hasStarting_settled s l).trans)
  rw [readingsClosed_driven live free hold others quiet]
  rw [ladder] at barred
  exact barred

section
variable (up : (s.staging l).up = true) (pending : (s.seq.ladder l).upPending = true)
  (latch : s.inputs.stopLatch = false) (alone : (s.seq.ladder l).hasStarting = false)
include up pending latch alone

theorem evaluated_up_short (none_off : ∀ k u, s.unit? l k = some u → u.state ≠ .off) :
    let M := (readingsClosed s).seq.ladder l
    M.upPending = true ∧ M.shortCap = true := by
  rw [readingsClosed_driven live free hold others quiet]
  exact drive_up_short (held_settledWork_free free hold) latch ((hasStarting_settled s l).trans alone) up (staging_quiet up)
    (by rw [ladder_settledWork]; exact pending) (first_off_none_settled none_off)

theorem evaluated_up_started (unit : s.unit? l n = some u) (off : u.state = .off)
    (least : ∀ j v, j < n → s.unit? l j = some v → v.state ≠ .off) (may : l = .pump ∨ s.seq.pumps.serves = true) :
    let M := (readingsClosed s).seq.ladder l
    M.upPending = false ∧ M.up = .idle ∧ M.shortCap = false ∧ M.stack = (s.seq.ladder l).stack ++ [n] ∧
      ∃ v, (readingsClosed s).unit? l n = some v ∧ v.state = .starting ∧
        v.next = some ⟨.run, (readingsClosed s).setpointFor l⟩ ∧
        v.prove = .counting (s.seq.ladder l).periods.prove (s.seq.ladder l).periods.prove 1 := by
  have ladder := ladder_settledWork s l
  have driven := readingsClosed_driven live free hold others quiet
  have here : s.settledWork.unit l n = some (s.settled l u) := (unit_settledWork s l n).trans (congrArg _ unit)
  obtain ⟨done, idle, clear, stack, stands⟩ := drive_up_started (w := s.settledWork) (e := s.closingEnv)
    (held_settledWork_free free hold) latch live ((hasStarting_settled s l).trans alone) up (staging_quiet up)
    (by rw [ladder]; exact pending) (first_off_settled unit off least) here (may.imp_right (serves_settled s).trans)
  rw [ladder] at stack stands
  have moved : (readingsClosed s).unit? l n = _ := (congrArg (fun q : Sequencer => (q.ladder l).unitAt n) driven).trans stands
  rw [driven]
  refine ⟨done, idle, clear, stack, _, moved, rfl, ?_, rfl⟩
  rw [← readingsClosed_setpoint]
  rfl

end

theorem evaluated_down_false (down : (s.staging l).down = false) :
    let M := (readingsClosed s).seq.ladder l
    M.down = .idle ∧ M.downPending = false := by
  rw [readingsClosed_driven live free hold others quiet]
  exact drive_down_false down

section
variable (down : (s.staging l).down = true)
include down

theorem evaluated_down_starts (fresh : (s.seq.ladder l).downPending = false) :
    let M := (readingsClosed s).seq.ladder l
    M.downPending = false ∧ M.down = (if (s.seq.ladder l).down = .idle
      then .counting (s.seq.ladder l).periods.down (s.seq.ladder l).periods.down 1 else (s.seq.ladder l).down) := by
  have ladder := ladder_settledWork s l
  have started := drive_down_starts (w := s.settledWork) (e := s.closingEnv) (down_excludes_up _ _ _ l down) down
    (by rw [ladder]; exact fresh)
  rw [readingsClosed_driven live free hold others quiet]
  rw [ladder] at started
  exact started

variable (pending : (s.seq.ladder l).downPending = true) (top : (s.seq.ladder l).stack.getLast? = some n)
  (unit : s.unit? l n = some u)
include pending top unit

theorem evaluated_down_young (young : u.young = true) :
    let M := (readingsClosed s).seq.ladder l
    M.downPending = true ∧ M.down = (s.seq.ladder l).down := by
  have ladder := ladder_settledWork s l
  have here : s.settledWork.unit l n = some (s.settled l u) := (unit_settledWork s l n).trans (congrArg _ unit)
  have waits := drive_down_young (w := s.settledWork) (e := s.closingEnv) (down_excludes_up _ _ _ l down) down
    (by rw [ladder]; exact pending) (by rw [ladder]; exact top) here (held_settledWork_free free hold) live
    ((settled_young s l u).trans young)
  rw [readingsClosed_driven live free hold others quiet]
  rw [ladder] at waits
  exact waits

theorem evaluated_down_stops (ripe : u.young = false) :
    let M := (readingsClosed s).seq.ladder l
    M.downPending = false ∧ M.down = .idle ∧ n ∉ M.stack ∧
      ∃ v, (readingsClosed s).unit? l n = some v ∧ v.state = .stopping ∧
        v.next = some ⟨.stop, (readingsClosed s).setpointFor l⟩ ∧
        v.stop = .counting (s.seq.ladder l).periods.stop (s.seq.ladder l).periods.stop 1 := by
  have ladder := ladder_settledWork s l
  have driven := readingsClosed_driven live free hold others quiet
  have here : s.settledWork.unit l n = some (s.settled l u) := (unit_settledWork s l n).trans (congrArg _ unit)
  obtain ⟨done, idle, gone, stands⟩ := drive_down_stops (w := s.settledWork) (e := s.closingEnv)
    (down_excludes_up _ _ _ l down) down (by rw [ladder]; exact pending) (by rw [ladder]; exact top) here
    (held_settledWork_free free hold) live ((settled_young s l u).trans ripe)
  rw [ladder] at stands
  have moved : (readingsClosed s).unit? l n = _ := (congrArg (fun q : Sequencer => (q.ladder l).unitAt n) driven).trans stands
  rw [driven]
  refine ⟨done, idle, gone, _, moved, rfl, ?_, rfl⟩
  rw [← readingsClosed_setpoint]
  rfl

end

end

/-- Settles O39: the expiries case by case, and the evaluation by the drive of the one ladder that is free. -/
theorem upStartsDownStops : Obligations.UpStartsDownStops := by
  refine ⟨fun l m a s released => ⟨fun due => ⟨fun bars => upExpiry_barred released due bars, ?_⟩, fun due empty => ?_,
    fun due stacked held => downExpiry_held released due stacked held, fun due ⟨hold, free⟩ n u top unit => ?_⟩, ?_⟩
  · rintro ⟨hold, free⟩ latch alone
    refine ⟨fun none_off => upExpiry_short released due hold free latch alone none_off,
      fun n u ⟨unit, off, least⟩ clear => ⟨fun shadow => ?_, fun live may => ?_, ?_⟩⟩
    · exact upExpiry_intends released due hold free latch alone unit off least clear shadow
    · exact upExpiry_starts released due hold free latch alone unit off least clear live may
    · rintro live rfl dry
      refine ⟨fun bars => upExpiry_waits_barred released due hold free latch alone unit off least live dry bars,
        fun pumpHold pumpAlone => ⟨fun none_off => ?_, fun k v ⟨pump, pumpOff, pumpLeast⟩ pumpClear => ?_⟩⟩
      · exact upExpiry_waits_short released due hold free latch alone unit off least live dry pumpHold pumpAlone none_off
      · exact upExpiry_waits_starts released due hold free latch alone unit off least live dry pumpHold pumpAlone pump
          pumpOff pumpLeast pumpClear
  · exact downExpiry_empty released due empty
  · refine ⟨fun shadow running => downExpiry_intends released due hold free top unit shadow running,
      fun live => ⟨fun young => downExpiry_young released due hold free top unit live young,
        fun running ripe => downExpiry_stops released due hold free top unit live running ripe⟩⟩
  · intro l s due live free hold others quiet L
    have figures := evaluated_figures (s := endCycle s) live free hold others quiet
    have common := staging_common (endCycle s) l
    refine ⟨_, exec_cycleEnd_of_due due, ?_⟩
    dsimp only
    rw [figures]
    refine ⟨common.1, common.2.1, common.2.2, ?_, ?_, ?_, ?_, fun up pending => ⟨fun bars => ?_, fun latch alone =>
      ⟨fun none_off => ?_, fun n u unit off least may => ?_⟩⟩, ?_, ?_, fun down pending n u top unit =>
      ⟨fun young => ?_, fun running ripe => ?_⟩⟩
    · rintro rfl
      exact staging_chiller (endCycle s)
    · rintro rfl
      exact staging_pump (s := endCycle s) (quiet .pump)
    · exact evaluated_up_false (s := endCycle s) live free hold others quiet
    · exact evaluated_up_starts (s := endCycle s) live free hold others quiet
    · exact evaluated_up_barred (s := endCycle s) live free hold others quiet up pending bars
    · exact evaluated_up_short (s := endCycle s) live free hold others quiet up pending latch alone none_off
    · exact evaluated_up_started (s := endCycle s) live free hold others quiet up pending latch alone unit off least may
    · exact evaluated_down_false (s := endCycle s) live free hold others quiet
    · exact evaluated_down_starts (s := endCycle s) live free hold others quiet
    · exact evaluated_down_young (s := endCycle s) live free hold others quiet down pending top unit ((young_iff u).mpr young)
    · exact evaluated_down_stops (s := endCycle s) live free hold others quiet down pending top unit (not_young running ripe)

end Sys2Proof.Machine

/-! STOP, RUN and REST run out (07, R115). -/

namespace Sys2Proof.Machine

section
variable {s : State} {l : LadderId} {n : Nat} {u : PlantUnit} {m a : Nat}

theorem after_onUnit (unit : s.unit? l n = some u) (f : PlantUnit → PlantUnit) :
    s.after ((⟨s.seq, []⟩ : Work).onUnit l n f) = s.setUnit l n (some (f u)) := by
  rw [onUnit_of_unit (w := ⟨s.seq, []⟩) unit f]
  rfl

theorem setUnit_setUnit (L : Ladder) (n : Nat) (x y : Option PlantUnit) : (L.setUnit n x).setUnit n y = L.setUnit n y := by
  cases n with
  | zero => rfl
  | succ k => exact congrArg (fun us => { L with units := us }) (List.set_set ..)

/-- A pump taken to STOPPING, with what follows, once it has been changed. -/
theorem pumpLeaves_stopChanged {w : Work} (live : s.fc.shadow = false)
    (others : ∀ m, m ≠ n → w.unit .pump m = s.unit? .pump m) (chillers : w.seq.chillers = s.seq.chillers) :
    s.PumpLeaves n u (s.after ((w.stopOne s.seqEnv .pump n).afterLeaving s.seqEnv .pump u)) := by
  refine pumpLeaves_of (v := w.stopOne s.seqEnv .pump n) live
    ((ladder_stopOne_other (m := .chiller) (by simp)).trans chillers) (fun y hy => ?_)
    (fun m other => (unit_stopOne_other other).trans (others m other)) (chillers_afterLeaving _ s.seqEnv u)
    (out_afterLeaving _ s.seqEnv .pump u)
  rw [unit_stopOne_same] at hy
  obtain ⟨y', -, rfl⟩ := Option.map_eq_some_iff.mp hy
  rfl

variable (released : s.rst = false) (lo : 1 ≤ n) (hi : n ≤ ladderSize l) (unit : s.unit? l n = some u)
include released lo hi unit

/-! ## STOP (07, R115) -/

theorem stopExpiry_trips (due : u.stop = .counting 0 m a) (stopping : u.state = .stopping) :
    ∃ t : State, exec (.stopExpiry l n) s = .next t ∧
      t = { s with seq := t.seq, events := (s.notes [⟨.unitState, ladderSubject l + n, 7⟩,
        ⟨.unitTrip, ladderSubject l + n, 3⟩]).events } ∧
      t.unit? l n = some { u with
        state := .tripped .noStop false, next := some ⟨.stop, s.setpointFor l⟩, prove := .idle,
        stop := .idle, run := .idle } ∧
      ∀ l' k, (l', k) ≠ (l, n) → t.unit? l' k = s.unit? l' k := by
  have ran := exec_expiry_of_ranOut (timer := (·.stop)) (act := fun e l p u w => w.stopExpired e l p u) released lo hi
    unit (ranOut_of_counting due)
  have idle : ((⟨s.seq, []⟩ : Work).onUnit l n fun v => { v with stop := .idle }).unit l n =
      some { u with stop := .idle } := (unit_onUnit_same _ _ _ _).trans (congrArg (Option.map _) unit)
  have alone : ((⟨s.seq, []⟩ : Work).onUnit l n fun v => { v with stop := .idle }).trip s.seqEnv l n .noStop =
      ((⟨s.seq, []⟩ : Work).onUnit l n fun v => { v with stop := .idle }).tripOne s.seqEnv l n .noStop := by
    rw [trip_eq idle, if_neg (by simp [stopping])]
    unfold Work.flowLost
    rw [if_neg (by simp [PlantUnit.inService, stopping])]
  have work : Work.stopExpired s.seqEnv l n u ⟨s.seq, []⟩ =
      ((⟨s.seq, []⟩ : Work).onUnit l n fun v => { v with stop := .idle }).tripOne s.seqEnv l n .noStop := by
    unfold Work.stopExpired
    dsimp only
    rw [if_pos stopping, alone]
  have tripped := unit_tripOne (e := s.seqEnv) (cause := .noStop) idle
  rw [sequence_eq, work] at ran
  refine ⟨_, ran, rfl, tripped.trans ?_, fun l' k other => ?_⟩
  · rw [← setpoint_seqEnv]
    rfl
  · exact (unit_takeOff_other other _).trans (unit_onUnit_other other _)

/-! ## RUN (07, R115, R127) -/

/-- RUN's expiry, once its count has run out. -/
theorem exec_runExpiry_of_due (due : u.run = .counting 0 m a) : exec (.runExpiry l n) s = .next (s.after
    (if u.state = .running ∧ (s.seq.ladder l).stack.getLast? = some n then
      ((⟨s.seq, []⟩ : Work).onUnit l n fun v => { v with run := .idle }).tryDown s.seqEnv l
    else (⟨s.seq, []⟩ : Work).onUnit l n fun v => { v with run := .idle })) :=
  exec_expiry_of_ranOut (timer := (·.run)) (act := fun e l p u w => w.runExpired e l p u) released lo hi unit
    (ranOut_of_counting due)

theorem runExpiry_rests (due : u.run = .counting 0 m a)
    (stays : (s.seq.ladder l).downPending = false ∨ u.state ≠ .running ∨ (s.seq.ladder l).stack.getLast? ≠ some n ∨
      (s.seq.ladder l).requestHold = true ∨ s.seq.inputHold = true) :
    exec (.runExpiry l n) s = .next (s.setUnit l n (some { u with run := .idle })) := by
  have idle := after_onUnit unit fun v => { v with run := .idle }
  rw [exec_runExpiry_of_due released lo hi unit due, ← idle]
  split
  next top =>
    have ladder : ((⟨s.seq, []⟩ : Work).onUnit l n fun v => { v with run := .idle }).seq.ladder l =
        (s.seq.ladder l).modUnit n fun v => { v with run := .idle } := ladder_onLadder _ l _
    unfold Work.tryDown
    split
    next pending =>
      rw [actDown_of_held (p := n)]
      · rw [ladder, modUnit_stack]
        exact top.2
      · unfold Work.held
        rw [ladder, modUnit_requestHold]
        rw [ladder, modUnit_downPending] at pending
        have held := ((stays.resolve_left (by simp [pending])).resolve_left fun moved => moved top.1).resolve_left
          fun under => under top.2
        rw [Bool.or_eq_true]
        cases l <;> exact held
    · rfl
  · rfl

theorem runExpiry_stops (due : u.run = .counting 0 m a) (pending : (s.seq.ladder l).downPending = true)
    (running : u.state = .running) (top : (s.seq.ladder l).stack.getLast? = some n)
    (hold : (s.seq.ladder l).requestHold = false) (free : s.seq.inputHold = false) (live : s.fc.shadow = false) :
    ∃ t : State, exec (.runExpiry l n) s = .next t ∧ t = { s with seq := t.seq, events := t.events } ∧
      t.unit? l n = some { u with
        state := .stopping, next := some ⟨.stop, s.setpointFor l⟩, prove := .idle, run := .idle,
        stop := .counting (s.seq.ladder l).periods.stop (s.seq.ladder l).periods.stop 1 } ∧
      n ∉ (t.seq.ladder l).stack ∧ (t.seq.ladder l).downPending = false ∧ (t.seq.ladder l).down = .idle ∧
      (l = .pump → s.PumpLeaves n u t) := by
  have ran := exec_runExpiry_of_due released lo hi unit due
  rw [if_pos ⟨running, top⟩] at ran
  generalize hw : ((⟨s.seq, []⟩ : Work).onUnit l n fun v => { v with run := .idle }) = w at ran
  have ladder : w.seq.ladder l = (s.seq.ladder l).modUnit n fun v => { v with run := .idle } :=
    hw ▸ ladder_onLadder _ l _
  have here : w.unit l n = some { u with run := .idle } :=
    hw ▸ (unit_onUnit_same _ _ _ _).trans (congrArg (Option.map _) unit)
  have free' : w.held l = false := by
    unfold Work.held
    rw [ladder, modUnit_requestHold, hold, ← hw]
    exact (setLadder_inputHold _ _ _).trans free
  have top' : (w.seq.ladder l).stack.getLast? = some n := by rw [ladder, modUnit_stack, top]
  have acted : w.tryDown s.seqEnv l = (w.onLadder l Ladder.downDone).stopUnit s.seqEnv l n := by
    unfold Work.tryDown
    rw [if_pos (by rw [ladder, modUnit_downPending, pending]), actDown_of_ripe top' free' here live (not_young running rfl)]
  obtain ⟨stands, gone, done, rested⟩ := downDone_stopUnit (e := s.seqEnv) here
  rw [acted] at ran
  rw [ladder, modUnit_periods, setpoint_seqEnv] at stands
  refine ⟨_, ran, rfl, stands, gone, done, rested, ?_⟩
  rintro rfl
  have done : (w.onLadder .pump Ladder.downDone).unit .pump n = some { u with run := .idle } :=
    (unit_onLadder_of_units (f := Ladder.downDone) (fun _ => rfl) .pump n).trans here
  rw [stopUnit_of_unit done]
  refine pumpLeaves_stopChanged (u := u) live (fun k other => ?_) (hw ▸ rfl)
  rw [← hw]
  exact (unit_onLadder_of_units (f := Ladder.downDone) (fun _ => rfl) .pump k).trans
    (unit_onUnit_other (fun same => other (Prod.mk.inj same).2) _)

/-! ## REST (07, R115) -/

theorem restExpiry_off (due : u.rest = .counting 0 m a) (resting : u.state = .resting) :
    exec (.restExpiry l n) s = .next ((s.setUnit l n (some { u with rest := .idle, state := .off })).notes
      [⟨.unitState, ladderSubject l + n, 2⟩]) := by
  have ran := exec_expiry_of_ranOut (timer := (·.rest)) (act := fun e l p u w => w.restExpired e l p u) released lo hi
    unit (ranOut_of_counting due)
  have idle : ((⟨s.seq, []⟩ : Work).onUnit l n fun v => { v with rest := .idle }).unit l n =
      some { u with rest := .idle } := (unit_onUnit_same _ _ _ _).trans (congrArg (Option.map _) unit)
  have entered := onUnit_of_unit idle (PlantUnit.entered s.seqEnv l .off none id)
  rw [onUnit_of_unit (w := ⟨s.seq, []⟩) unit fun v => { v with rest := .idle }, onLadder_onLadder] at entered
  simp only [setUnit_setUnit] at entered
  have work : Work.restExpired s.seqEnv l n u ⟨s.seq, []⟩ =
      ((⟨s.seq, []⟩ : Work).onLadder l fun L => L.setUnit n (some { u with rest := .idle, state := .off })).say
        [unitNote l n (some .off)] := by
    unfold Work.restExpired
    dsimp only
    rw [if_pos resting, onUnit_of_unit (w := ⟨s.seq, []⟩) unit]
    exact congrArg (Work.say · [unitNote l n (some .off)]) entered
  rw [sequence_eq, work] at ran
  exact ran

theorem restExpiry_idles (due : u.rest = .counting 0 m a) (moved : u.state ≠ .resting) :
    exec (.restExpiry l n) s = .next (s.setUnit l n (some { u with rest := .idle })) := by
  have ran := exec_expiry_of_ranOut (timer := (·.rest)) (act := fun e l p u w => w.restExpired e l p u) released lo hi
    unit (ranOut_of_counting due)
  rw [sequence_eq] at ran
  have idle := after_onUnit unit fun v => { v with rest := .idle }
  rw [← idle]
  refine ran.trans (congrArg (fun w => Host.Outcome.next (s.after w)) ?_)
  exact if_neg moved

end

end Sys2Proof.Machine

/-! SUPPORT. The judgement of one unit while both ladders are held (07, R113): what it makes of the unit, and what it leaves
of the others. -/

namespace Sys2Proof.Machine

section
variable {e : SeqEnv} {l : LadderId} {p n : Nat} {w v x : Work} {u u' : PlantUnit} {T : LadderId → Nat → Prop}

/-! ## Work on the units of a set -/

/-- Work that leaves the settings and the holds, puts no chiller start in waiting, takes back neither a chiller's up pending
nor an event. -/
structure Work.Goes (w v : Work) : Prop where
  periods : ∀ m, (v.seq.ladder m).periods = (w.seq.ladder m).periods
  held    : ∀ m, v.held m = w.held m
  waiting : v.seq.waiting = w.seq.waiting ∨ (v.seq.waiting = false ∧ v.seq.chillers.upPending = true)
  raised  : w.seq.chillers.upPending = true → v.seq.chillers.upPending = true
  out     : w.out ⊆ v.out

/-- Such work that touches no unit outside a set, nor its place on the stack. -/
structure Work.Apart (T : LadderId → Nat → Prop) (w v : Work) : Prop extends w.Goes v where
  unit  : ∀ m q, ¬ T m q → v.unit m q = w.unit m q
  stack : ∀ m q, ¬ T m q → (q ∈ (v.seq.ladder m).stack ↔ q ∈ (w.seq.ladder m).stack)
  units : ∀ m, (∀ q, ¬ T m q) → (v.seq.ladder m).units = (w.seq.ladder m).units

/-- The set of one unit. -/
def At (l : LadderId) (p : Nat) (m : LadderId) (q : Nat) : Prop := (m, q) = (l, p)

/-- The empty set of units. -/
def Nowhere (_ : LadderId) (_ : Nat) : Prop := False

theorem goes_refl (w : Work) : w.Goes w := ⟨fun _ => rfl, fun _ => rfl, .inl rfl, id, fun _ h => h⟩

theorem Work.Goes.trans (h : w.Goes v) (k : v.Goes x) : w.Goes x where
  periods m := (k.periods m).trans (h.periods m)
  held m := (k.held m).trans (h.held m)
  waiting := by
    rcases k.waiting with same | changed
    · rcases h.waiting with same' | ⟨stopped, up⟩
      · exact .inl (same.trans same')
      · exact .inr ⟨same.trans stopped, k.raised up⟩
    · exact .inr changed
  raised up := k.raised (h.raised up)
  out := fun _ hn => k.out (h.out hn)

theorem apart_refl (w : Work) : w.Apart T w := ⟨goes_refl w, fun _ _ _ => rfl, fun _ _ _ => Iff.rfl, fun _ _ => rfl⟩

theorem Work.Apart.trans (h : w.Apart T v) (k : v.Apart T x) : w.Apart T x where
  toGoes := h.toGoes.trans k.toGoes
  unit m q away := (k.unit m q away).trans (h.unit m q away)
  stack m q away := (k.stack m q away).trans (h.stack m q away)
  units m away := (k.units m away).trans (h.units m away)

theorem Work.Apart.within (h : w.Apart Nowhere v) : w.Apart T v :=
  ⟨h.toGoes, fun m q _ => h.unit m q id, fun m q _ => h.stack m q id, fun m _ => h.units m fun _ => id⟩

theorem apart_say (w : Work) (ns : List Note) : w.Apart T (w.say ns) :=
  ⟨⟨fun _ => rfl, fun _ => rfl, .inl rfl, id, List.subset_append_left _ _⟩, fun _ _ _ => rfl, fun _ _ _ => Iff.rfl,
    fun _ _ => rfl⟩

theorem goes_onLadder {f : Ladder → Ladder} (periods : ∀ L, (f L).periods = L.periods)
    (hold : ∀ L, (f L).requestHold = L.requestHold) (raised : ∀ L, L.upPending = true → (f L).upPending = true) :
    w.Goes (w.onLadder l f) where
  periods m := by
    by_cases h : m = l
    · rw [h, ladder_onLadder, periods]
    · rw [ladder_onLadder_of_ne _ h]
  held m := by
    unfold Work.held
    have input : (w.onLadder l f).seq.inputHold = w.seq.inputHold := setLadder_inputHold _ _ _
    rw [input]
    by_cases h : m = l
    · rw [h, ladder_onLadder, hold]
    · rw [ladder_onLadder_of_ne _ h]
  waiting := .inl (waiting_onLadder w l f)
  raised up := by
    cases l with
    | chiller => exact raised _ up
    | pump => exact up
  out := fun _ h => h

/-- One unit changed, and its place on the stack. -/
theorem apart_ladder {f : Ladder → Ladder} (goes : w.Goes (w.onLadder l f))
    (unit : ∀ L q, q ≠ p → (f L).unitAt q = L.unitAt q) (stack : ∀ L q, q ≠ p → (q ∈ (f L).stack ↔ q ∈ L.stack)) :
    w.Apart (At l p) (w.onLadder l f) where
  toGoes := goes
  unit m q away := by
    by_cases h : m = l
    · subst h
      unfold Work.unit
      rw [ladder_onLadder, unit _ q fun same => away (by rw [same]; rfl)]
    · exact unit_onLadder_of_ne h f q
  stack m q away := by
    by_cases h : m = l
    · subst h
      rw [ladder_onLadder]
      exact stack _ q fun same => away (by rw [same]; rfl)
    · rw [ladder_onLadder_of_ne _ h]
  units m away := by
    by_cases h : m = l
    · exact absurd (by rw [h]; rfl) (away p)
    · rw [ladder_onLadder_of_ne _ h]

theorem modUnit_upPending (L : Ladder) (p : Nat) (f : PlantUnit → PlantUnit) : (L.modUnit p f).upPending = L.upPending := by
  cases p <;> rfl

theorem apart_onUnit (w : Work) (l : LadderId) (p : Nat) (f : PlantUnit → PlantUnit) : w.Apart (At l p) (w.onUnit l p f) :=
  apart_ladder (goes_onLadder (fun L => modUnit_periods L p f) (fun L => modUnit_requestHold L p f)
      fun L up => (modUnit_upPending L p f).trans up)
    (fun L q other => unitAt_modUnit_other L other f) fun L q _ => by rw [modUnit_stack]

theorem apart_remove (w : Work) (l : LadderId) (p : Nat) : w.Apart (At l p) (w.onLadder l (·.remove p)) :=
  apart_ladder (goes_onLadder (fun _ => rfl) (fun _ => rfl) fun _ up => up) (fun _ _ _ => rfl) fun L q other => by
    simp [Ladder.remove, other]

theorem apart_push (w : Work) (l : LadderId) (p : Nat) : w.Apart (At l p) (w.onLadder l (·.push p)) :=
  apart_ladder (goes_onLadder (fun _ => rfl) (fun _ => rfl) fun _ up => up) (fun _ _ _ => rfl) fun L q other => by
    simp [Ladder.push, other]

theorem apart_enter (w : Work) (e : SeqEnv) (l : LadderId) (p : Nat) (st : UnitState) (d : Option Demand)
    (f : PlantUnit → PlantUnit) : w.Apart (At l p) (w.enter e l p st d f) :=
  (apart_onUnit w l p (PlantUnit.entered e l st d f)).trans (apart_say _ [unitNote l p (some st)])

theorem apart_raised (w : Work) (l : LadderId) : w.Apart Nowhere (w.onLadder l fun L => { L with upPending := true }) where
  toGoes := goes_onLadder (fun _ => rfl) (fun _ => rfl) fun _ _ => rfl
  unit m q _ := unit_onLadder_of_units (f := fun L => { L with upPending := true }) (fun _ => rfl) m q
  stack m q _ := by cases l <;> cases m <;> exact Iff.rfl
  units m _ := by cases l <;> cases m <;> rfl

/-! ## What follows, while both ladders are held -/

section
variable (held : ∀ m, w.held m = true)
include held

theorem raiseUp_held (l : LadderId) : w.raiseUp e l = w.onLadder l fun L => { L with upPending := true } := by
  unfold Work.raiseUp
  refine actUp_barred (.inl ?_)
  exact ((apart_raised w l).held l).trans (held l)

theorem apart_raiseUp (l : LadderId) : w.Apart Nowhere (w.raiseUp e l) := by
  rw [raiseUp_held held]
  exact apart_raised w l

/-- A waiting chiller start is pending again, and waits no more. -/
theorem pumpServes_held : (w.pumpServes e).seq.waiting = false ∧ w.Apart Nowhere (w.pumpServes e) := by
  unfold Work.pumpServes
  split
  next waits =>
    have held' : ∀ m, ({ w with seq := { w.seq with waiting := false } } : Work).held m = true := fun m => by
      have same : ({ w with seq := { w.seq with waiting := false } } : Work).held m = w.held m := by cases m <;> rfl
      exact same.trans (held m)
    rw [raiseUp_held held']
    refine ⟨rfl, ⟨fun m => by cases m <;> rfl, fun m => by cases m <;> rfl, .inr ⟨rfl, rfl⟩, fun _ => rfl, fun _ h => h⟩,
      fun m q _ => ?_, fun m q _ => by cases m <;> exact Iff.rfl, fun m _ => by cases m <;> rfl⟩
    cases m <;> exact unitAt_of_units rfl q
  next none_waits => exact ⟨Bool.eq_false_iff.mpr none_waits, apart_refl w⟩

theorem afterLeaving_held (l : LadderId) (before : PlantUnit) : w.afterLeaving e l before = w.flowLost e l before := by
  obtain ⟨H, halts⟩ := halts_flowLost (e := e) (w := w) (l := l) (fun _ => held .chiller) before
  rw [afterLeaving_eq, tryUp_held ((halts.held l).trans (held l))]
  exact ite_self _

end

theorem Work.Halts.goes {H : LadderId → Nat → Bool} (h : w.Halts e H v) : w.Goes v where
  periods m := by rw [h.ladder m]
  held m := h.held m
  waiting := .inl h.waiting
  raised up := by
    have same : (v.seq.ladder .chiller).upPending = (w.seq.ladder .chiller).upPending := by rw [h.ladder .chiller]
    exact same.trans up
  out := h.out

theorem serves_congr (same : ∀ q, v.unit .pump q = w.unit .pump q) : v.seq.pumps.serves = w.seq.pumps.serves := by
  rw [Bool.eq_iff_iff, serves_iff, serves_iff]
  exact exists_congr fun q => exists_congr fun y => and_congr_left fun _ =>
    iff_of_eq (congrArg (· = some y) (same q))

theorem Work.Apart.serves (h : w.Apart Nowhere v) : v.seq.pumps.serves = w.seq.pumps.serves :=
  serves_congr fun q => h.unit .pump q id

/-! ## The judgement of one unit -/

/-- A unit as a flow-loss stop leaves it. -/
def PlantUnit.flowStopped (e : SeqEnv) (x : Periods) (u : PlantUnit) : PlantUnit :=
  if u.stoppable then u.stopped x (e.setpoint .chiller) else u

/-- What the judgement of a unit leaves: the unit, its place on the stack, the other units. A flow-loss stop takes chillers
where the last pump leaves service. -/
structure Work.Judges (e : SeqEnv) (l : LadderId) (p : Nat) (u u' : PlantUnit) (w v : Work) : Prop extends w.Goes v where
  unit   : v.unit l p = some u'
  gone   : u'.stacked = false → u.stacked = true ∨ p ∉ (w.seq.ladder l).stack → p ∉ (v.seq.ladder l).stack
  enters : u.state = .localCtl → u'.state = .running → p ∈ (v.seq.ladder l).stack
  serves : l = .pump → u.state = .starting → u'.state = .running → v.seq.waiting = false
  others : ∀ m q, (m, q) ≠ (l, p) →
    m = .pump ∨ v.seq.pumps.serves = true ∨ (∀ y, w.unit m q = some y → y.stoppable = false) →
    v.unit m q = w.unit m q ∧ (q ∈ (v.seq.ladder m).stack ↔ q ∈ (w.seq.ladder m).stack)
  stands : l = .pump → v.seq.pumps.serves = true → v.seq.chillers.units = w.seq.chillers.units
  lost   : l = .pump → w.seq.pumps.serves = true → v.seq.pumps.serves = false →
    (∀ q, v.unit .chiller q = (w.unit .chiller q).map (PlantUnit.flowStopped e w.seq.chillers.periods)) ∧
    (∀ q y, w.unit .chiller q = some y → y.stoppable = true → q ∉ v.seq.chillers.stack) ∧ w.flowNote ∈ v.out

theorem flowStops_unit (w : Work) (e : SeqEnv) (q : Nat) : (w.flowStops e).unit .chiller q =
    (w.unit .chiller q).map (PlantUnit.flowStopped e w.seq.chillers.periods) := by
  rw [(halts_flowStops w e).unit]
  unfold Work.flowHalts
  cases w.unit .chiller q <;> rfl

theorem flowStops_stack (w : Work) (e : SeqEnv) (q : Nat) : q ∈ (w.flowStops e).seq.chillers.stack ↔
    q ∈ w.seq.chillers.stack ∧ ∀ y, w.unit .chiller q = some y → y.stoppable = false := by
  have filtered : (w.flowStops e).seq.chillers.stack = w.seq.chillers.stack.filter fun n => !w.flowHalts .chiller n :=
    congrArg Ladder.stack ((halts_flowStops w e).ladder .chiller)
  rw [filtered, List.mem_filter]
  unfold Work.flowHalts
  cases w.unit .chiller q <;> simp

theorem flowStops_pumps (w : Work) (e : SeqEnv) (q : Nat) : (w.flowStops e).unit .pump q = w.unit .pump q ∧
    (q ∈ (w.flowStops e).seq.pumps.stack ↔ q ∈ w.seq.pumps.stack) := by
  refine ⟨unit_flowStops_pump w e q, ?_⟩
  have filtered : (w.flowStops e).seq.pumps.stack = w.seq.pumps.stack.filter fun n => !w.flowHalts .pump n :=
    congrArg Ladder.stack ((halts_flowStops w e).ladder .pump)
  rw [filtered]
  simp [Work.flowHalts]

end

end Sys2Proof.Machine

/-! SUPPORT. The rows of the judgement while both ladders are held (07, R113, R114, R116 to R118). -/

namespace Sys2Proof.Machine

section
variable {e : SeqEnv} {l : LadderId} {p n : Nat} {w v x : Work} {u u' : PlantUnit}

/-! ## From the unit's own change to the judgement -/

/-- In a change of one pump that was not in service, or stays in it, no pump leaves service. -/
theorem flowLost_quiet (unit : x.unit l p = some u') (stays : l = .pump → u.inService = true → u'.inService = true) :
    x.flowLost e l u = x := by
  cases l with
  | chiller => rfl
  | pump =>
    refine if_neg fun lost => ?_
    simp only [decide_true, Bool.true_and, Bool.and_eq_true, Bool.not_eq_eq_eq_not, Bool.not_true] at lost
    have serves := (serves_iff x.seq.pumps).mpr ⟨p, u', unit, stays rfl lost.1⟩
    rw [lost.2] at serves
    cases serves

theorem units_chillers_of_apart (own : w.Apart (At .pump p) x) (q : Nat) : x.unit .chiller q = w.unit .chiller q :=
  own.unit .chiller q fun same => by cases same

/-- The unit's own change, then the flow-loss stop if its pump was the last in service, then the flags. -/
theorem judges_of (held : ∀ m, w.held m = true) (before : w.unit l p = some u) (own : w.Apart (At l p) x)
    (unit : x.unit l p = some u')
    (gone : u'.stacked = false → u.stacked = true ∨ p ∉ (w.seq.ladder l).stack → p ∉ (x.seq.ladder l).stack)
    (enters : u.state = .localCtl → u'.state = .running → p ∈ (x.seq.ladder l).stack)
    (follows : (x.flowLost e l u).Apart Nowhere v)
    (serves : l = .pump → u.state = .starting → u'.state = .running → v.seq.waiting = false) :
    w.Judges e l p u u' v := by
  have held' : x.held .chiller = true := (own.held .chiller).trans (held .chiller)
  by_cases lost : (decide (l = .pump) && u.inService && !x.seq.pumps.serves) = true
  · obtain ⟨pump, inService, unserved⟩ : l = .pump ∧ u.inService = true ∧ x.seq.pumps.serves = false := by
      simpa [and_assoc] using lost
    subst pump
    have flowed : x.flowLost e .pump u = x.flowStops e := by
      rw [show x.flowLost e .pump u = x.flowLoss e from if_pos lost, flowLoss_held held']
    rw [flowed] at follows
    have stops := (halts_flowStops x e).goes
    have none_serves : v.seq.pumps.serves = false := by
      rw [follows.serves, serves_congr fun q => (flowStops_pumps x e q).1, unserved]
    have periods : x.seq.chillers.periods = w.seq.chillers.periods := own.periods .chiller
    refine ⟨(own.toGoes.trans stops).trans follows.toGoes, ?_, fun off why => ?_, fun was is => ?_, serves, ?_,
      fun _ serving => (by rw [none_serves] at serving; cases serving), fun _ _ _ => ⟨fun q => ?_, fun q y there able => ?_, follows.out ?_⟩⟩
    · rw [follows.unit .pump p id, (flowStops_pumps x e p).1, unit]
    · rw [follows.stack .pump p id]
      exact (flowStops_pumps x e p).2.not.mpr (gone off why)
    · rw [follows.stack .pump p id]
      exact (flowStops_pumps x e p).2.mpr (enters was is)
    · rintro m q away (rfl | serving | unstoppable)
      · rw [follows.unit .pump q id, (flowStops_pumps x e q).1, own.unit .pump q away, follows.stack .pump q id]
        exact ⟨rfl, (flowStops_pumps x e q).2.trans (own.stack .pump q away)⟩
      · rw [none_serves] at serving
        cases serving
      · cases m with
        | pump =>
          rw [follows.unit .pump q id, (flowStops_pumps x e q).1, own.unit .pump q away, follows.stack .pump q id]
          exact ⟨rfl, (flowStops_pumps x e q).2.trans (own.stack .pump q away)⟩
        | chiller =>
          have here : x.unit .chiller q = w.unit .chiller q := own.unit .chiller q away
          rw [follows.unit .chiller q id, flowStops_unit, follows.stack .chiller q id, here]
          refine ⟨?_, (flowStops_stack x e q).trans ?_⟩
          · cases there : w.unit .chiller q with
            | none => rfl
            | some y =>
              rw [Option.map_some]
              unfold PlantUnit.flowStopped
              rw [if_neg (by simp [unstoppable y there])]
          · rw [here]
            exact (and_iff_left unstoppable).trans (own.stack .chiller q away)
    · rw [follows.unit .chiller q id, flowStops_unit, units_chillers_of_apart own, periods]
    · change q ∉ (v.seq.ladder .chiller).stack
      rw [follows.stack .chiller q id]
      refine (flowStops_stack x e q).not.mpr fun on => ?_
      rw [on.2 y ((units_chillers_of_apart own q).trans there)] at able
      cases able
    · have units : x.seq.chillers.units = w.seq.chillers.units := own.units .chiller fun q same => by cases same
      have same : w.flowNote = x.flowNote := by
        unfold Work.flowNote
        rw [stoppables_length, stoppables_length, units]
      rw [same]
      exact flowNote_mem x e
  · have flowed : x.flowLost e l u = x := if_neg lost
    rw [flowed] at follows
    have whole := own.trans follows.within
    refine ⟨whole.toGoes, (follows.unit l p id).trans unit, fun off why => (follows.stack l p id).not.mpr (gone off why),
      fun was is => (follows.stack l p id).mpr (enters was is), serves,
      fun m q away _ => ⟨whole.unit m q away, whole.stack m q away⟩, fun pump _ => ?_, fun pump serving unserved => absurd ?_ lost⟩
    · exact whole.units .chiller fun q same => by
        rw [pump] at same
        cases same
    subst pump
    rw [follows.serves] at unserved
    obtain ⟨q, y, there, inService⟩ := (serves_iff _).mp serving
    have same : q = p := by
      by_contra other
      have still := (serves_iff x.seq.pumps).mpr ⟨q, y, (own.unit .pump q fun h => other (Prod.mk.inj h).2).trans there, inService⟩
      rw [unserved] at still
      cases still
    rw [same] at there
    obtain rfl : u = y := Option.some.inj (before.symm.trans there)
    simp [inService, unserved]

/-- The unit's own change and the flags, where its ladder keeps its service. -/
theorem judges_of_quiet (held : ∀ m, w.held m = true) (before : w.unit l p = some u) (own : w.Apart (At l p) x)
    (unit : x.unit l p = some u')
    (gone : u'.stacked = false → u.stacked = true ∨ p ∉ (w.seq.ladder l).stack → p ∉ (x.seq.ladder l).stack)
    (enters : u.state = .localCtl → u'.state = .running → p ∈ (x.seq.ladder l).stack)
    (stays : l = .pump → u.inService = true → u'.inService = true) (follows : x.Apart Nowhere v)
    (serves : l = .pump → u.state = .starting → u'.state = .running → v.seq.waiting = false) :
    w.Judges e l p u u' v :=
  judges_of held before own unit gone enters (by rw [flowLost_quiet unit stays]; exact follows) serves

/-! ## What a judgement makes of a unit -/

/-- A unit moved as a judgement says. -/
def PlantUnit.takes (setpoint : Nat) (m : Moves) (u : PlantUnit) : PlantUnit :=
  { u with
    state := m.state
    next := match m.demand with
      | some d => some ⟨d, setpoint⟩
      | none => u.next
    prove := m.prove, stop := m.stop, run := m.run, rest := m.rest }

theorem unit_enter (before : w.unit l p = some u) (st : UnitState) (d : Option Demand) (f : PlantUnit → PlantUnit) :
    (w.enter e l p st d f).unit l p = some (PlantUnit.entered e l st d f u) :=
  (unit_onUnit_same w l p _).trans (congrArg (Option.map _) before)

theorem apart_serviceOne (w : Work) (e : SeqEnv) (l : LadderId) (p : Nat) : w.Apart (At l p) (w.serviceOne e l p) :=
  ((apart_onUnit w l p _).trans (apart_say _ _)).trans (apart_push _ l p)

/-- A chiller out of LOCAL with no pump in service is stopped at once (07, R118, R128). -/
theorem judges_serviceLost (before : w.unit .chiller p = some u) (unserved : w.seq.pumps.serves = false) : w.Judges e .chiller p u
    (u.takes (e.setpoint .chiller) ⟨.stopping, some .stop, .idle,
      .counting w.seq.chillers.periods.stop w.seq.chillers.periods.stop 1, .idle, u.rest⟩)
    ((w.serviceOne e .chiller p).flowStops e) := by
  have own := apart_serviceOne w e .chiller p
  have stops := (halts_flowStops (w.serviceOne e .chiller p) e).goes
  have here := unit_serviceOne (e := e) before
  have periods : (w.serviceOne e .chiller p).seq.chillers.periods = w.seq.chillers.periods := own.periods .chiller
  have pumps : ∀ q, ((w.serviceOne e .chiller p).flowStops e).unit .pump q = w.unit .pump q := fun q =>
    (flowStops_pumps _ e q).1.trans (own.unit .pump q fun same => by cases same)
  refine ⟨own.toGoes.trans stops, ?_, fun _ _ => ?_, fun _ is => (by cases is), fun h => (by cases h), ?_, fun h => (by cases h),
    fun h => by cases h⟩
  · rw [flowStops_unit, here, periods]
    rfl
  · refine (flowStops_stack _ e p).not.mpr fun on => ?_
    have running := on.2 _ here
    cases running
  · rintro m q away (rfl | serving | unstoppable)
    · exact ⟨pumps q, (flowStops_pumps _ e q).2.trans (own.stack .pump q away)⟩
    · rw [serves_congr pumps, unserved] at serving
      cases serving
    · cases m with
      | pump => exact ⟨pumps q, (flowStops_pumps _ e q).2.trans (own.stack .pump q away)⟩
      | chiller =>
        have same := own.unit .chiller q away
        refine ⟨?_, ?_⟩
        · rw [flowStops_unit, same]
          cases there : w.unit .chiller q with
          | none => rfl
          | some y =>
            rw [Option.map_some]
            unfold PlantUnit.flowStopped
            rw [if_neg (by simp [unstoppable y there])]
        · refine (flowStops_stack _ e q).trans ?_
          rw [same]
          exact (and_iff_left unstoppable).trans (own.stack .chiller q away)

theorem stack_onUnit (w : Work) (l : LadderId) (p : Nat) (f : PlantUnit → PlantUnit) :
    ((w.onUnit l p f).seq.ladder l).stack = (w.seq.ladder l).stack := by
  unfold Work.onUnit
  rw [ladder_onLadder, modUnit_stack]

section
variable (held : ∀ m, w.held m = true) (before : w.unit l p = some u)
include held before

/-- A unit changed in place, its state kept. -/
theorem judges_in_place (own : w.Apart (At l p) v) (unit : v.unit l p = some u') (state : u'.state = u.state)
    (stack : (v.seq.ladder l).stack = (w.seq.ladder l).stack) : w.Judges e l p u u' v := by
  have stacked : u'.stacked = u.stacked := stacked_of_state state
  refine judges_of_quiet held before own unit (fun off why => ?_) (fun was is => ?_) (fun _ on => ?_) (apart_refl v)
    fun _ was is => ?_
  · rw [stack]
    refine why.resolve_left fun on => ?_
    rw [stacked, on] at off
    cases off
  · rw [state, was] at is
    cases is
  · unfold PlantUnit.inService
    rw [state]
    exact on
  · rw [state, was] at is
    cases is

theorem judges_unmoved : w.Judges e l p u (u.takes (e.setpoint l) u.unmoved) w :=
  judges_in_place held before (apart_refl w) before rfl rfl

theorem judges_toLocal (state : u.state ≠ .localCtl) : w.Judges e l p u
    (u.takes (e.setpoint l) ⟨.localCtl, none, .idle, .idle, .idle, .idle⟩) (w.toLocal e l p) := by
  have own : w.Apart (At l p) ((w.enter e l p .localCtl none PlantUnit.noTimers).onLadder l (·.remove p)) :=
    (apart_enter w e l p .localCtl none PlantUnit.noTimers).trans (apart_remove _ l p)
  have held' : ∀ m, ((w.enter e l p .localCtl none PlantUnit.noTimers).onLadder l (·.remove p)).held m = true :=
    fun m => (own.held m).trans (held m)
  have done : w.toLocal e l p =
      ((w.enter e l p .localCtl none PlantUnit.noTimers).onLadder l (·.remove p)).flowLost e l u := by
    unfold Work.toLocal
    rw [before]
    exact afterLeaving_held held' l u
  rw [done]
  refine judges_of held before own ?_ (fun _ _ => ?_) (fun was => absurd was state) (apart_refl _) fun _ _ is => by cases is
  · exact (unit_onLadder_of_units (f := (·.remove p)) (fun _ => rfl) l p).trans (unit_enter before .localCtl none _)
  · rw [ladder_onLadder]
    simp [Ladder.remove]

theorem judges_trip (cause : TripCause) : w.Judges e l p u
    (u.takes (e.setpoint l) (u.tripped cause)) (w.trip e l p cause) := by
  have own : w.Apart (At l p) (w.tripOne e l p cause) :=
    (((apart_onUnit w l p (PlantUnit.trips e l cause)).trans (apart_remove _ l p)).trans (apart_say _ _)).trans
      (apart_say _ _)
  obtain ⟨H, halts⟩ := halts_flowLost (e := e) (w := w.tripOne e l p cause) (l := l)
    (fun _ => (own.held .chiller).trans (held .chiller)) u
  have held' : ∀ m, ((w.tripOne e l p cause).flowLost e l u).held m = true :=
    fun m => (halts.held m).trans ((own.held m).trans (held m))
  rw [trip_eq before]
  refine judges_of held before own (unit_tripOne before) (fun _ _ => not_mem_stack_takeOff _)
    (fun _ is => by cases is) ?_ fun _ _ is => by cases is
  split
  · exact apart_raiseUp held' l
  · exact apart_refl _

theorem judges_proved (state : u.state = .starting) : w.Judges e l p u
    (u.takes (e.setpoint l) ⟨.running, none, .idle, u.stop,
      .counting (w.seq.ladder l).periods.run (w.seq.ladder l).periods.run 1, u.rest⟩) (w.proved e l p) := by
  have own := apart_enter w e l p .running none fun u =>
    { u with prove := .idle, run := .start (w.seq.ladder l).periods.run }
  have held' := fun m => (own.held m).trans (held m)
  have entered := unit_enter (e := e) before .running none fun u =>
    { u with prove := .idle, run := .start (w.seq.ladder l).periods.run }
  obtain ⟨waits_no_more, flags⟩ := pumpServes_held (e := e) held'
  unfold Work.proved
  dsimp only
  by_cases pump : l = .pump
  · rw [if_pos pump, tryUp_held ((flags.held l).trans (held' l))]
    exact judges_of_quiet held before own entered (fun off => by cases off)
      (fun was => by rw [state] at was; cases was) (fun _ _ => rfl) flags fun _ _ _ => waits_no_more
  · rw [if_neg pump, tryUp_held (held' l)]
    exact judges_of_quiet held before own entered (fun off => by cases off)
      (fun was => by rw [state] at was; cases was) (fun _ _ => rfl) (apart_refl _) fun h => absurd h pump

theorem judges_toResting (state : u.state = .stopping ∨ u.state = .localCtl) : w.Judges e l p u
    (u.takes (e.setpoint l) ⟨.resting, some .stop, u.prove, .idle, u.run,
      .counting (w.seq.ladder l).periods.rest (w.seq.ladder l).periods.rest 1⟩) (w.toResting e l p) := by
  refine judges_of_quiet held before (apart_enter ..) (unit_enter before ..) (fun _ why => ?_)
    (fun _ is => by cases is) (fun _ on => ?_) (apart_refl _) fun _ _ is => by cases is
  · have off : u.stacked = false := by rcases state with h | h <;> simp [PlantUnit.stacked, h]
    have same : ((w.toResting e l p).seq.ladder l).stack = (w.seq.ladder l).stack := stack_onUnit w l p _
    have gone : p ∉ ((w.toResting e l p).seq.ladder l).stack := by
      rw [same]
      exact why.resolve_left (by simp [off])
    exact gone
  · rcases state with h | h <;> simp [PlantUnit.inService, h] at on

theorem judges_stopOne (state : u.state = .localCtl) : w.Judges e l p u
    (u.takes (e.setpoint l) ⟨.stopping, some .stop, .idle,
      .counting (w.seq.ladder l).periods.stop (w.seq.ladder l).periods.stop 1, .idle, u.rest⟩) (w.stopOne e l p) := by
  have own : w.Apart (At l p) (w.stopOne e l p) := (apart_enter ..).trans (apart_remove _ l p)
  refine judges_of_quiet held before own (unit_stopOne_same.trans (congrArg (Option.map _) before)) (fun _ _ => ?_)
    (fun _ is => by cases is) (fun _ on => ?_) (apart_refl _) fun _ _ is => by cases is
  · rw [(halts_stopOne w e l p).ladder l]
    simp
  · simp [PlantUnit.inService, state] at on

theorem judges_takeIntoService : w.Judges e l p u
    (u.takes (e.setpoint l) ⟨.running, some .run, .idle, u.stop,
      .counting (w.seq.ladder l).periods.run (w.seq.ladder l).periods.run 1, u.rest⟩) (w.takeIntoService e l p) := by
  have own := apart_serviceOne w e l p
  have held' := fun m => (own.held m).trans (held m)
  obtain ⟨waits_no_more, flags⟩ := pumpServes_held (e := e) held'
  have pushed : p ∈ ((w.serviceOne e l p).seq.ladder l).stack := by
    rw [stack_serviceOne]
    exact List.mem_append_right _ (List.mem_singleton.mpr rfl)
  rw [takeIntoService_eq]
  split
  · exact judges_of_quiet held before own (unit_serviceOne before) (fun off => by cases off) (fun _ _ => pushed)
      (fun _ _ => rfl) flags fun _ _ _ => waits_no_more
  next chiller =>
    exact judges_of_quiet held before own (unit_serviceOne before) (fun off => by cases off) (fun _ _ => pushed)
      (fun _ _ => rfl) (apart_refl _) fun h => absurd h chiller

theorem judges_proofLate (state : u.state = .tripped .noProof false) : w.Judges e l p u
    (u.takes (e.setpoint l) { u.unmoved with state := .tripped .noProof true }) (w.proofLate l p) := by
  have own : w.Apart (At l p) (w.proofLate l p) := (apart_onUnit w l p _).trans (apart_say _ _)
  refine judges_of_quiet held before own ((unit_onUnit_same w l p _).trans (congrArg (Option.map _) before)) (fun _ why => ?_)
    (fun _ is => by cases is) (fun _ on => ?_) (apart_refl _) fun _ _ is => by cases is
  · have off : u.stacked = false := by simp [PlantUnit.stacked, state]
    have same : ((w.proofLate l p).seq.ladder l).stack = (w.seq.ladder l).stack := stack_onUnit w l p _
    rw [same]
    exact why.resolve_left (by simp [off])
  · simp [PlantUnit.inService, state] at on

theorem judges_handProved : w.Judges e l p u (u.takes (e.setpoint l) { u.unmoved with prove := .idle })
    (w.onUnit l p fun v => { v with prove := .idle }) :=
  judges_in_place held before (apart_onUnit w l p _)
    ((unit_onUnit_same w l p _).trans (congrArg (Option.map _) before)) rfl (stack_onUnit w l p _)

end

end

end Sys2Proof.Machine

/-! SUPPORT. R113's table and the operation's branches, one row at a time (07, R113, R114, R117, R118). -/

namespace Sys2Proof.Machine

section
variable {e : SeqEnv} {l : LadderId} {p : Nat} {w : Work} {u b : PlantUnit}

/-- The latch as a unit out of LOCAL meets it: a chiller without a pump is stopped as under the latch (07, R118, R128). -/
def Work.bars (e : SeqEnv) (l : LadderId) (w : Work) : Bool := e.latch || (decide (l = .chiller) && !w.seq.pumps.serves)

/-- A unit before its closing and after it: its state, its timers, and the proof that a fresh cycle shows. -/
structure PlantUnit.Closes (b u : PlantUnit) : Prop where
  state : u.state = b.state
  prove : u.prove = b.prove
  stop  : u.stop = b.stop
  run   : u.run = b.run
  rest  : u.rest = b.rest
  proof : ∀ r, b.station.cycle = some r → u.proof = r.values.proof

variable (held : ∀ m, w.held m = true) (unit : w.unit l p = some u)
include held unit

theorem judges_fromLocal (state : u.state = .localCtl) (proof : Bool) : w.Judges e l p u
    (u.takes (e.setpoint l)
      (if !proof then ⟨.resting, some .stop, u.prove, .idle, u.run,
        .counting (w.seq.ladder l).periods.rest (w.seq.ladder l).periods.rest 1⟩
      else if w.bars e l then ⟨.stopping, some .stop, .idle,
        .counting (w.seq.ladder l).periods.stop (w.seq.ladder l).periods.stop 1, .idle, u.rest⟩
      else ⟨.running, some .run, .idle, u.stop,
        .counting (w.seq.ladder l).periods.run (w.seq.ladder l).periods.run 1, u.rest⟩))
    (w.fromLocal e l p proof) := by
  unfold Work.fromLocal
  cases proof with
  | false => exact judges_toResting held unit (.inr state)
  | true =>
    simp only [Bool.not_true, Bool.false_eq_true, if_false]
    cases latch : e.latch with
    | true =>
      have barred : w.bars e l = true := by simp [Work.bars, latch]
      rw [if_pos barred, if_pos rfl]
      exact judges_stopOne held unit state
    | false =>
      rw [if_neg (c := false = true) (by simp)]
      by_cases dry : l = .chiller ∧ w.seq.pumps.serves = false
      · obtain ⟨rfl, unserved⟩ := dry
        have barred : w.bars e .chiller = true := by simp [Work.bars, unserved]
        have own := apart_serviceOne w e .chiller p
        have unserved' : (w.serviceOne e .chiller p).seq.pumps.serves = false :=
          (serves_congr fun q => own.unit .pump q fun same => by cases same).trans unserved
        have service : w.takeIntoService e .chiller p = w.serviceOne e .chiller p := rfl
        rw [if_pos barred, service, if_pos (by simp [unserved']), flowLoss_held ((own.held .chiller).trans (held .chiller))]
        exact judges_serviceLost unit unserved
      · have free : ¬ w.bars e l = true := by simp [Work.bars, latch, dry]
        rw [if_neg free, if_neg]
        · exact judges_takeIntoService held unit
        · intro lost
          obtain ⟨rfl, unserved⟩ : l = .chiller ∧ (w.takeIntoService e l p).seq.pumps.serves = false := by
            simpa using lost
          have service : w.takeIntoService e .chiller p = w.serviceOne e .chiller p := rfl
          rw [service] at unserved
          exact dry ⟨rfl, (serves_congr fun q =>
            (apart_serviceOne w e .chiller p).unit .pump q fun same => by cases same).symm.trans unserved⟩

section
variable (closes : b.Closes u)
include closes

omit held unit in
theorem unmoved_of_closes : u.unmoved = b.unmoved := by
  obtain ⟨state, prove, stop, run, rest, -⟩ := closes
  simp only [PlantUnit.unmoved, state, prove, stop, run, rest]

theorem judges_idle : w.Judges e l p u (u.takes (e.setpoint l) b.unmoved) w := by
  rw [← unmoved_of_closes closes]
  exact judges_unmoved held unit

theorem judges_tripped (cause : TripCause) :
    w.Judges e l p u (u.takes (e.setpoint l) (b.tripped cause)) (w.trip e l p cause) := by
  have same : b.tripped cause = u.tripped cause := by
    simp only [PlantUnit.tripped, closes.rest]
  rw [same]
  exact judges_trip held unit cause

/-- A fault moves a unit in STARTING, RUNNING or HAND-run, and no other. -/
theorem judges_fault (cycle : b.station.cycle = none) (mark : b.station.faultMark = true) (x : Periods) (latch : Bool) :
    w.Judges e l p u (u.takes (e.setpoint l) (b.judged x latch)) (w.judgeOne e l p u .fault) := by
  have idle := judges_idle (e := e) held unit closes
  have trips := judges_tripped (e := e) held unit closes .stationFault
  have state := closes.state
  unfold PlantUnit.judged Work.judgeOne
  rw [state, cycle, mark]
  cases b.state with
  | starting => exact trips
  | running => exact trips
  | hand d =>
    cases d with
    | run => exact trips
    | stop => exact idle
  | off => exact idle
  | stopping => exact idle
  | resting => exact idle
  | out => exact idle
  | localCtl => exact idle
  | tripped c late => cases c <;> cases late <;> exact idle

theorem judges_silent (cycle : b.station.cycle = none) (mark : b.station.faultMark = false) (x : Periods) (latch : Bool) :
    w.Judges e l p u (u.takes (e.setpoint l) (b.judged x latch)) w := by
  have idle := judges_idle (e := e) held unit closes
  unfold PlantUnit.judged
  rw [cycle, mark]
  cases b.state with
  | hand d => cases d <;> exact idle
  | tripped c late => cases c <;> cases late <;> exact idle
  | _ => exact idle

/-- A HAND-run unit proves itself in hand; an expired count without proof trips it, under local control nothing does. -/
theorem judges_hand (proof isLocal : Bool) : w.Judges e l p u
    (u.takes (e.setpoint l) (if proof then { b.unmoved with prove := .idle }
      else if b.prove = .idle ∧ isLocal = false then b.tripped .lostProof else b.unmoved))
    (if u.prove.isCounting then (if proof then w.onUnit l p fun v => { v with prove := .idle } else w)
      else if isLocal || proof then w else w.trip e l p .lostProof) := by
  have idle := judges_idle (e := e) held unit closes
  have trips := judges_tripped (e := e) held unit closes .lostProof
  have proved := judges_handProved (e := e) held unit
  rw [unmoved_of_closes closes] at proved
  rw [closes.prove]
  cases timer : b.prove with
  | idle =>
    cases proof with
    | true =>
      have same : ({ b.unmoved with prove := .idle } : Moves) = b.unmoved := by rw [← timer]; rfl
      rw [if_pos rfl, same]
      cases isLocal <;> exact idle
    | false =>
      cases isLocal with
      | true => exact idle
      | false => exact trips
  | counting r m a =>
    cases proof with
    | true => exact proved
    | false =>
      rw [if_neg (by simp), if_neg (by simp)]
      exact idle

/-- A reading under local control takes a unit to LOCAL, save in HAND, TRIPPED and OUT. -/
theorem judges_local {v : UnitValues} (cycle : b.station.cycle = some ⟨true, v⟩) (x : Periods) (latch : Bool) :
    w.Judges e l p u (u.takes (e.setpoint l) (b.judged x latch)) (w.judgeOne e l p u (.fresh true)) := by
  have idle := judges_idle (e := e) held unit closes
  have state := closes.state
  have away : b.state ≠ .localCtl → w.Judges e l p u
      (u.takes (e.setpoint l) ⟨.localCtl, none, .idle, .idle, .idle, .idle⟩) (w.toLocal e l p) := fun other =>
    judges_toLocal held unit (state ▸ other)
  have proof : u.proof = v.proof := closes.proof _ cycle
  unfold PlantUnit.judged Work.judgeOne
  rw [state, cycle, proof]
  cases own : b.state with
  | off => exact away (by simp [own])
  | resting => exact away (by simp [own])
  | starting => exact away (by simp [own])
  | running => exact away (by simp [own])
  | stopping => exact away (by simp [own])
  | out => exact idle
  | localCtl => exact idle
  | tripped c late => cases c <;> cases late <;> exact idle
  | hand d =>
    cases d with
    | stop => exact idle
    | run =>
      have hand := judges_hand (e := e) held unit closes v.proof true
      simpa using hand

/-- A reading not under local control, by its proof. -/
theorem judges_remote {v : UnitValues} (cycle : b.station.cycle = some ⟨false, v⟩) :
    w.Judges e l p u (u.takes (e.setpoint l) (b.judged (w.seq.ladder l).periods (w.bars e l)))
      (w.judgeOne e l p u (.fresh false)) := by
  have idle := judges_idle (e := e) held unit closes
  have trips := judges_tripped (e := e) held unit closes .lostProof
  have state := closes.state
  have proof : u.proof = v.proof := closes.proof _ cycle
  unfold PlantUnit.judged Work.judgeOne
  rw [state, cycle, proof]
  cases own : b.state with
  | off => exact idle
  | resting => exact idle
  | out => exact idle
  | starting =>
    dsimp only
    cases v.proof with
    | false => exact idle
    | true =>
      have proved := judges_proved (e := e) held unit (state.trans own)
      rw [closes.stop, closes.rest] at proved
      exact proved
  | running =>
    dsimp only
    cases v.proof with
    | false => exact trips
    | true => exact idle
  | stopping =>
    dsimp only
    cases v.proof with
    | false =>
      have rests := judges_toResting (e := e) held unit (.inl (state.trans own))
      rw [closes.prove, closes.run] at rests
      exact rests
    | true => exact idle
  | localCtl =>
    have out := judges_fromLocal (e := e) held unit (state.trans own) v.proof
    rw [closes.prove, closes.stop, closes.run, closes.rest] at out
    exact out
  | tripped c late =>
    cases c with
    | noProof =>
      cases late with
      | true => exact idle
      | false =>
        dsimp only
        cases v.proof with
        | false => exact idle
        | true =>
          have late := judges_proofLate (e := e) held unit (state.trans own)
          rw [unmoved_of_closes closes] at late
          exact late
    | _ => cases late <;> exact idle
  | hand d =>
    cases d with
    | stop => exact idle
    | run =>
      have hand := judges_hand (e := e) held unit closes v.proof false
      simpa using hand

/-- The judgement of a unit is R113's table over what its cycle brought. -/
theorem judgeOne_judges : w.Judges e l p u
    (u.takes (e.setpoint l) (b.judged (w.seq.ladder l).periods (w.bars e l))) (w.judgeOne e l p u b.station.cls) := by
  unfold Station.cls
  cases cycle : b.station.cycle with
  | none =>
    cases mark : b.station.faultMark with
    | true => exact judges_fault held unit closes cycle mark _ _
    | false =>
      dsimp only
      rw [if_neg (by simp), judgeOne_silent]
      exact judges_silent held unit closes cycle mark _ _
  | some r =>
    obtain ⟨isLocal, v⟩ := r
    cases isLocal with
    | true => exact judges_local held unit closes cycle _ _
    | false => exact judges_remote held unit closes cycle

end

end

end Sys2Proof.Machine

/-! SUPPORT. One unit's turn at readings-closed, live and with both ladders held, and a ladder's turns one after another
(07, R113). -/

namespace Sys2Proof.Machine

section
variable {s : State} {l : LadderId} {p : Nat} {w v : Work} {u b b₀ : PlantUnit} {latch : Bool}

/-- What the judgement makes of a unit, a joined one passed over. -/
def State.verdict (s : State) (l : LadderId) (latch : Bool) (b : PlantUnit) : Moves :=
  if b.station.joined then b.unmoved else b.judged (s.seq.ladder l).periods latch

/-- A unit closed and judged. -/
def State.judgedUnit (s : State) (l : LadderId) (latch : Bool) (b : PlantUnit) : PlantUnit :=
  (s.heard l b).takes (s.closingEnv.setpoint l) (s.verdict l latch b)

/-- A unit's turn. -/
def State.turn (s : State) (l : LadderId) (w : Work) (p : Nat) : Work :=
  w.judgeAt s.closingEnv (pressureClosed s.tabled).seq l p

/-- The proof that a fresh cycle shows is the closed reading's. -/
theorem proof_close (joined : b.station.joined = false) (lim : Limits) (r : Reading UnitValues)
    (cycle : b.station.cycle = some r) : (b.close lim).proof = r.values.proof := by
  unfold PlantUnit.proof PlantUnit.close Station.close Station.values
  dsimp only
  rw [if_neg (by simp [joined])]
  unfold Station.closing
  rw [cycle]
  rfl

theorem closes_heard (joined : b.station.joined = false) (s : State) (l : LadderId) : b.Closes (s.heard l b) := by
  rw [heard_eq]
  exact ⟨rfl, rfl, rfl, rfl, rfl, proof_close joined s.limits⟩

/-- A unit that has kept its frame since the closing is judged by the station it had before. -/
theorem unit_of_frame (frame : w.frame = s.closedWork.frame) (unit : w.unit l p = some u) :
    ∃ b, s.unit? l p = some b ∧ u.station = b.station.close s.limits.kStale s.limits.kLost := by
  have same : (w.unit l p).map PlantUnit.frame = (s.closedWork.unit l p).map PlantUnit.frame :=
    unitAt_frame_congr (congrFun frame l) p
  rw [unit, unit_closedWork, Option.map_map, Option.map_some, eq_comm, Option.map_eq_some_iff] at same
  obtain ⟨b, there, framed⟩ := same
  refine ⟨b, there, ?_⟩
  have station := (fields_of_frame framed).2.1
  rw [← station, heard_eq]
  rfl

theorem turn_of_none (none_there : w.unit l p = none) : s.turn l w p = w := by
  unfold State.turn Work.judgeAt
  rw [none_there]
  split
  next there => cases there
  · rfl

/-- A unit's turn is its judgement. -/
theorem turn_judges (live : s.fc.shadow = false) (held : ∀ m, w.held m = true)
    (periods : (w.seq.ladder l).periods = (s.seq.ladder l).periods) (unit : w.unit l p = some u)
    (there : s.unit? l p = some b₀) (station : b.station = b₀.station) (closes : b.station.joined = false → b.Closes u)
    (unmoved : u.unmoved = b.unmoved) :
    w.Judges s.closingEnv l p u (u.takes (s.closingEnv.setpoint l) (s.verdict l (w.bars s.closingEnv l) b)) (s.turn l w p) := by
  have before := station_before s l p
  rw [there, Option.map_some, Option.map_eq_some_iff] at before
  obtain ⟨b', there', same⟩ := before
  have turn : s.turn l w p = if b.station.joined then w else w.judgeOne s.closingEnv l p u b.station.cls := by
    unfold State.turn Work.judgeAt
    rw [there', unit]
    dsimp only
    rw [same, ← station]
    split
    · rfl
    · exact if_neg (by rw [show s.closingEnv.shadow = false from live]; simp)
  rw [turn]
  unfold State.verdict
  cases joined : b.station.joined with
  | true =>
    rw [if_pos rfl, if_pos rfl, ← unmoved]
    exact judges_unmoved held unit
  | false =>
    rw [if_neg (by simp), if_neg (by simp), ← periods]
    exact judgeOne_judges held unit (closes joined)

/-- Whatever state a unit has come to, its turn is a judgement of it. -/
theorem turn_judges_some (live : s.fc.shadow = false) (held : ∀ m, w.held m = true)
    (periods : (w.seq.ladder l).periods = (s.seq.ladder l).periods) (frame : w.frame = s.closedWork.frame)
    (unit : w.unit l p = some u) : ∃ u', w.Judges s.closingEnv l p u u' (s.turn l w p) := by
  obtain ⟨b, there, station⟩ := unit_of_frame frame unit
  refine ⟨_, turn_judges (b := { u with station := b.station }) live held periods unit there rfl (fun joined => ?_) rfl⟩
  refine ⟨rfl, rfl, rfl, rfl, rfl, fun r cycle => ?_⟩
  have shown := proof_close (b := b) joined s.limits r cycle
  unfold PlantUnit.proof at shown ⊢
  rw [station]
  exact shown

/-! ## A ladder's turns -/

/-- Part of a ladder's turns is done: those units are judged, the others stand as the closing left them. -/
structure State.Judged (s : State) (l : LadderId) (base : Nat → Option PlantUnit) (latch : Bool) (done : List Nat)
    (w : Work) : Prop where
  goes   : s.closedWork.Goes w
  frame  : w.frame = s.closedWork.frame
  later  : ∀ p, p ∉ done → w.unit l p = (base p).map (s.heard l)
  unit   : ∀ p ∈ done, w.unit l p = (base p).map (s.judgedUnit l latch)
  gone   : ∀ p ∈ done, ∀ b, base p = some b → b.stacked = true → (s.judgedUnit l latch b).stacked = false →
    p ∉ (w.seq.ladder l).stack
  enters : ∀ p ∈ done, ∀ b, base p = some b → b.state = .localCtl → (s.judgedUnit l latch b).state = .running →
    p ∈ (w.seq.ladder l).stack
  serves : l = .pump → ∀ p ∈ done, ∀ b, base p = some b → b.state = .starting →
    (s.judgedUnit l latch b).state = .running → w.seq.waiting = false

theorem Work.Goes.waits_no_more (h : w.Goes v) (waits : w.seq.waiting = false) : v.seq.waiting = false := by
  rcases h.waiting with same | ⟨stopped, -⟩
  · exact same.trans waits
  · exact stopped

theorem heard_state (s : State) (l : LadderId) (b : PlantUnit) : (s.heard l b).state = b.state := by
  rw [heard_eq]
  rfl

theorem heard_unmoved (s : State) (l : LadderId) (b : PlantUnit) : (s.heard l b).unmoved = b.unmoved := by
  rw [heard_eq]
  rfl

section
variable {base : Nat → Option PlantUnit} {done : List Nat} (live : s.fc.shadow = false)
  (held : ∀ m, s.closedWork.held m = true) (stations : ∀ q, (base q).map (·.station) = (s.unit? l q).map (·.station))
include live held stations

/-- The turn of a unit that has not been judged is its judgement. -/
theorem Judged.turn (h : s.Judged l base latch done w) (new : p ∉ done) (bars : w.bars s.closingEnv l = latch)
    (there : base p = some b) :
    w.Judges s.closingEnv l p (s.heard l b) (s.judgedUnit l latch b) (s.turn l w p) := by
  have unit : w.unit l p = some (s.heard l b) := by rw [h.later p new, there, Option.map_some]
  have station := stations p
  rw [there, Option.map_some, eq_comm, Option.map_eq_some_iff] at station
  obtain ⟨b₀, there₀, same⟩ := station
  have held' : ∀ m, w.held m = true := fun m => (h.goes.held m).trans (held m)
  have periods : (w.seq.ladder l).periods = (s.seq.ladder l).periods := by
    rw [h.goes.periods l, ladder_closedWork]
  have judges := turn_judges live held' periods unit there₀ same.symm (fun joined => closes_heard joined s l)
    (heard_unmoved s l b)
  rw [bars] at judges
  exact judges

theorem Judged.step (h : s.Judged l base latch done w) (new : p ∉ done) (bars : w.bars s.closingEnv l = latch)
    (safe : l = .pump ∨ (s.turn l w p).seq.pumps.serves = true ∨ ∀ q y, w.unit l q = some y → y.stoppable = false) :
    s.Judged l base latch (p :: done) (s.turn l w p) := by
  have framed : (s.turn l w p).frame = s.closedWork.frame := (judgeAt_frame _ l p w _).trans h.frame
  cases there : base p with
  | none =>
    have none_there : w.unit l p = none := by rw [h.later p new, there, Option.map_none]
    rw [turn_of_none none_there] at framed ⊢
    have old : ∀ q ∈ p :: done, ∀ b, base q = some b → q ∈ done := by
      intro q mem b hb
      rcases List.mem_cons.mp mem with rfl | mem
      · rw [there] at hb
        cases hb
      · exact mem
    refine ⟨h.goes, framed, fun q out => h.later q fun mem => out (List.mem_cons_of_mem _ mem), fun q mem => ?_,
      fun q mem b hb => h.gone q (old q mem b hb) b hb, fun q mem b hb => h.enters q (old q mem b hb) b hb,
      fun pump q mem b hb => h.serves pump q (old q mem b hb) b hb⟩
    rcases List.mem_cons.mp mem with rfl | mem
    · rw [none_there, there, Option.map_none]
    · exact h.unit q mem
  | some b =>
    have judges := Judged.turn live held stations h new bars there
    have others : ∀ q, q ≠ p → (s.turn l w p).unit l q = w.unit l q ∧
        (q ∈ ((s.turn l w p).seq.ladder l).stack ↔ q ∈ (w.seq.ladder l).stack) := fun q other =>
      judges.others l q (fun same => other (Prod.mk.inj same).2) (safe.imp_right fun able => able.imp_right fun all => all q)
    have heardState := heard_state s l b
    have stackedHeard : (s.heard l b).stacked = b.stacked := stacked_of_state heardState
    have apart : ∀ q ∈ done, q ≠ p := fun q mem same => new (same ▸ mem)
    refine ⟨h.goes.trans judges.toGoes, framed, fun q out => ?_, fun q mem => ?_, fun q mem b' hb => ?_,
      fun q mem b' hb => ?_, fun pump q mem b' hb was is => ?_⟩
    · obtain ⟨notNew, notOld⟩ := not_or.mp (List.mem_cons.not.mp out)
      rw [(others q notNew).1, h.later q notOld]
    · rcases List.mem_cons.mp mem with rfl | mem
      · rw [judges.unit, there, Option.map_some]
      · rw [(others q (apart q mem)).1, h.unit q mem]
    · rcases List.mem_cons.mp mem with rfl | mem
      · obtain rfl : b = b' := Option.some.inj (there.symm.trans hb)
        exact fun on off => judges.gone off (.inl (stackedHeard.trans on))
      · rw [(others q (apart q mem)).2]
        exact h.gone q mem b' hb
    · rcases List.mem_cons.mp mem with rfl | mem
      · obtain rfl : b = b' := Option.some.inj (there.symm.trans hb)
        exact fun was is => judges.enters (heardState.trans was) is
      · rw [(others q (apart q mem)).2]
        exact h.enters q mem b' hb
    · rcases List.mem_cons.mp mem with rfl | mem
      · obtain rfl : b = b' := Option.some.inj (there.symm.trans hb)
        exact judges.serves pump (heardState.trans was) is
      · exact judges.toGoes.waits_no_more (h.serves pump q mem b' hb was is)

end

end

end Sys2Proof.Machine

/-! SUPPORT. The turns of both ladders, the pumps first, live and with both ladders held (07, R113, R128). -/

namespace Sys2Proof.Machine

/-! ## Turns one after another -/

theorem foldl_done {P : List Nat → Work → Prop} {f : Work → Nat → Work}
    (step : ∀ done p w, p ∉ done → P done w → P (p :: done) (f w p)) (ps : List Nat) (nodup : ps.Nodup)
    (done : List Nat) (apart : ∀ p ∈ ps, p ∉ done) (w : Work) (h : P done w) : P (ps.reverse ++ done) (ps.foldl f w) := by
  induction ps generalizing done w with
  | nil => exact h
  | cons p ps ih =>
    obtain ⟨fresh, nodup⟩ := List.nodup_cons.mp nodup
    rw [List.reverse_cons, List.append_assoc, List.foldl_cons]
    refine ih nodup (p :: done) (fun q mem => ?_) _ (step done p w (apart p List.mem_cons_self) h)
    rw [List.mem_cons, not_or]
    exact ⟨fun same => fresh (same ▸ mem), apart q (List.mem_cons_of_mem _ mem)⟩

/-- A law of the turns done holds once all of a ladder's turns are done. -/
theorem foldl_turns {P : List Nat → Work → Prop} {f : Work → Nat → Work} (l : LadderId)
    (step : ∀ done p w, p ∉ done → P done w → P (p :: done) (f w p)) {w : Work} (h : P [] w) :
    P (ladderPositions l).reverse ((ladderPositions l).foldl f w) := by
  have whole := foldl_done step (ladderPositions l) (positions_nodup _) [] (fun _ _ mem => by cases mem) w h
  rwa [List.append_nil] at whole

section
variable {s : State} {l : LadderId} {n p : Nat} {w v : Work} {u b : PlantUnit} {done : List Nat}

theorem mem_turns : p ∈ (ladderPositions l).reverse ↔ 1 ≤ p ∧ p ≤ ladderSize l := by
  rw [List.mem_reverse]
  exact mem_positions

theorem mem_turns_of_unit (unit : s.unit? l p = some u) (small : p ≤ ladderSize l) : p ∈ (ladderPositions l).reverse :=
  mem_turns.mpr ⟨(unitAt_isSome_le unit).1, small⟩

/-- The work after the pumps' turns. -/
def State.pumpsTurned (s : State) : Work := (ladderPositions .pump).foldl (s.turn .pump) s.closedWork

theorem judgedWork_eq (s : State) : s.judgedWork = (ladderPositions .chiller).foldl (s.turn .chiller) s.pumpsTurned := rfl

theorem bars_pump (w : Work) (e : SeqEnv) : w.bars e .pump = e.latch := by simp [Work.bars]

theorem bars_of_serves (e : SeqEnv) (l : LadderId) (serves : w.seq.pumps.serves = true) : w.bars e l = e.latch := by
  simp [Work.bars, serves]

theorem bars_of_unserved (e : SeqEnv) (unserved : w.seq.pumps.serves = false) : w.bars e .chiller = true := by
  simp [Work.bars, unserved]

/-! ## The pumps' turns -/

section
variable (live : s.fc.shadow = false) (held : ∀ m, s.closedWork.held m = true)

theorem judged_start (s : State) (l : LadderId) (latch : Bool) : s.Judged l (s.unit? l) latch [] s.closedWork :=
  ⟨goes_refl _, rfl, fun p _ => unit_closedWork s l p, fun _ mem => (by cases mem), fun _ mem => (by cases mem),
    fun _ mem => (by cases mem), fun _ _ mem => by cases mem⟩

include live held

theorem pumps_step (h : s.Judged .pump (s.unit? .pump) s.inputs.stopLatch done w) (new : p ∉ done) :
    s.Judged .pump (s.unit? .pump) s.inputs.stopLatch (p :: done) (s.turn .pump w p) :=
  Judged.step live held (fun _ => rfl) h new (bars_pump w _) (.inl rfl)

theorem pumps_judged :
    s.Judged .pump (s.unit? .pump) s.inputs.stopLatch (ladderPositions .pump).reverse s.pumpsTurned :=
  foldl_turns .pump (fun _ _ _ new h => pumps_step live held h new) (judged_start s .pump _)

/-- The chillers stand as the closing left them. -/
def State.ChillersClosed (s : State) (w : Work) : Prop :=
  w.seq.chillers.units = s.closedWork.seq.chillers.units ∧
    ∀ q, q ∈ w.seq.chillers.stack ↔ q ∈ s.closedWork.seq.chillers.stack

omit live held in
theorem unit_of_chillersClosed (h : s.ChillersClosed w) (q : Nat) : w.unit .chiller q = s.closedWork.unit .chiller q :=
  unitAt_of_units h.1 q

/-- While a pump stays in service, its turn leaves the chillers. -/
theorem chillersClosed_step (h : s.Judged .pump (s.unit? .pump) s.inputs.stopLatch done w) (new : p ∉ done)
    (closed : s.ChillersClosed w) (serves : (s.turn .pump w p).seq.pumps.serves = true) :
    s.ChillersClosed (s.turn .pump w p) := by
  cases there : s.unit? .pump p with
  | none =>
    rw [turn_of_none (by rw [h.later p new, there, Option.map_none])]
    exact closed
  | some b =>
    have judges := Judged.turn live held (fun _ => rfl) h new (bars_pump w _) there
    refine ⟨(judges.stands rfl serves).trans closed.1, fun q => ?_⟩
    exact (judges.others .chiller q (fun same => by cases same) (.inr (.inl serves))).2.trans (closed.2 q)

omit live held in
/-- A pump that the readings do not move serves at every turn. -/
theorem serves_of_pumpStays (stays : s.PumpStays) (h : s.Judged .pump (s.unit? .pump) s.inputs.stopLatch done w) :
    w.seq.pumps.serves = true := by
  obtain ⟨n, b, there, running, unmoved⟩ := stays
  have kept : s.verdict .pump s.inputs.stopLatch b = b.unmoved := by
    unfold State.verdict
    cases joined : b.station.joined with
    | true => exact if_pos rfl
    | false =>
      rw [if_neg (by simp)]
      unfold PlantUnit.judged
      rcases unmoved with passed | ⟨cycle, mark⟩ | ⟨v, cycle, proof⟩
      · rw [joined] at passed
        cases passed
      · rw [running, cycle, mark]
        rfl
      · rw [running, cycle]
        exact if_pos proof
  rw [serves_iff]
  by_cases mem : n ∈ done
  · refine ⟨n, _, (h.unit n mem).trans (congrArg _ there), ?_⟩
    unfold State.judgedUnit PlantUnit.takes PlantUnit.inService
    rw [kept]
    exact Bool.or_eq_true_iff.mpr (.inl (decide_eq_true running))
  · refine ⟨n, _, (h.later n mem).trans (congrArg _ there), ?_⟩
    unfold PlantUnit.inService
    rw [heard_state]
    exact Bool.or_eq_true_iff.mpr (.inl (decide_eq_true running))

theorem chillersClosed_of_pumpStays (stays : s.PumpStays) : s.ChillersClosed s.pumpsTurned := by
  have turned := foldl_turns (P := fun done w => s.Judged .pump (s.unit? .pump) s.inputs.stopLatch done w ∧ s.ChillersClosed w)
    (f := s.turn .pump) .pump (fun done p w new ⟨h, closed⟩ => ?_) ⟨judged_start s .pump _, rfl, fun _ => Iff.rfl⟩
  · exact turned.2
  · have next := pumps_step live held h new
    exact ⟨next, chillersClosed_step live held h new closed (serves_of_pumpStays stays next)⟩

/-! ## The last pump leaves service -/

/-- The hypothesis of a flow-loss stop by the judgement: no pump comes out of it in service. -/
def State.FlowsOut (s : State) : Prop :=
  (s.seq.pumps.serves = true ∨ s.stoppableChillers = 0) ∧
    ∀ n u, s.unit? .pump n = some u → n ≤ 6 ∧ (s.verdict .pump s.inputs.stopLatch u).state ≠ .running ∧
      (s.verdict .pump s.inputs.stopLatch u).state ≠ .hand .run

/-- The flow-loss stop has been made of the chillers as the closing left them. -/
structure State.ChillersStopped (s : State) (w : Work) : Prop where
  unserved : w.seq.pumps.serves = false
  units : ∀ q, w.unit .chiller q =
    (s.closedWork.unit .chiller q).map (PlantUnit.flowStopped s.closingEnv s.seq.chillers.periods)
  stack : ∀ q y, s.closedWork.unit .chiller q = some y → y.stoppable = true → q ∉ w.seq.chillers.stack
  noted : s.closedWork.seq.pumps.serves = true → s.closedWork.flowNote ∈ w.out

omit live held in
theorem not_inService (notRunning : u.state ≠ .running) (notHand : u.state ≠ .hand .run) : ¬ u.inService = true := by
  unfold PlantUnit.inService
  simp [notRunning, notHand]

omit live held in
theorem flowStopped_unstoppable (e : SeqEnv) (x : Periods) (u : PlantUnit) : (u.flowStopped e x).stoppable = false := by
  unfold PlantUnit.flowStopped
  split
  · rfl
  next unstoppable => exact Bool.eq_false_iff.mpr unstoppable

omit live held in
theorem flowStopped_of_unstoppable {e : SeqEnv} {x : Periods} (h : u.stoppable = false) : u.flowStopped e x = u :=
  if_neg (by simp [h])

omit live held in
theorem State.ChillersStopped.unstoppable (h : s.ChillersStopped w) (q : Nat) (y : PlantUnit)
    (there : w.unit .chiller q = some y) : y.stoppable = false := by
  rw [h.units, Option.map_eq_some_iff] at there
  obtain ⟨u, -, rfl⟩ := there
  exact flowStopped_unstoppable _ _ u

/-- The turn of one pump, when none comes out of its turn in service. -/
theorem lost_step (lost : s.FlowsOut) (h : s.Judged .pump (s.unit? .pump) s.inputs.stopLatch done w) (new : p ∉ done)
    (so_far : (w.seq.pumps.serves = true ∧ s.ChillersClosed w) ∨ s.ChillersStopped w) :
    ((s.turn .pump w p).seq.pumps.serves = true ∧ s.ChillersClosed (s.turn .pump w p)) ∨
      s.ChillersStopped (s.turn .pump w p) := by
  cases there : s.unit? .pump p with
  | none =>
    rw [turn_of_none (by rw [h.later p new, there, Option.map_none])]
    exact so_far
  | some b =>
    have judges := Judged.turn live held (fun _ => rfl) h new (bars_pump w _) there
    have periods : w.seq.chillers.periods = s.seq.chillers.periods :=
      (h.goes.periods .chiller).trans rfl
    rcases so_far with ⟨served, closed⟩ | stopped
    · cases serves : (s.turn .pump w p).seq.pumps.serves with
      | true => exact .inl ⟨rfl, chillersClosed_step live held h new closed serves⟩
      | false =>
        obtain ⟨units, stack, noted⟩ := judges.lost rfl served serves
        have note : s.closedWork.flowNote = w.flowNote := by
          unfold Work.flowNote
          rw [stoppables_length, stoppables_length, closed.1]
        refine .inr ⟨serves, fun q => ?_, fun q y at_q => ?_, fun _ => note ▸ noted⟩
        · rw [units q, unit_of_chillersClosed closed, periods]
        · exact stack q y ((unit_of_chillersClosed closed q).trans at_q)
    · have unserved : (s.turn .pump w p).seq.pumps.serves = false := by
        refine Bool.eq_false_iff.mpr fun serves => ?_
        obtain ⟨q, y, at_q, inService⟩ := (serves_iff _).mp serves
        by_cases own : q = p
        · rw [own] at at_q
          obtain rfl : _ = y := Option.some.inj (judges.unit.symm.trans at_q)
          obtain ⟨-, notRunning, notHand⟩ := lost.2 p b there
          exact not_inService notRunning notHand inService
        · have before : w.unit .pump q = some y :=
            (judges.others .pump q (fun same => own (Prod.mk.inj same).2) (.inl rfl)).1.symm.trans at_q
          have serving := (serves_iff w.seq.pumps).mpr ⟨q, y, before, inService⟩
          rw [stopped.unserved] at serving
          cases serving
      have others := fun q => judges.others .chiller q (fun same => by cases same) (.inr (.inr (stopped.unstoppable q)))
      refine .inr ⟨unserved, fun q => (others q).1.trans (stopped.units q), fun q y at_q able => ?_,
        fun served => judges.out (stopped.noted served)⟩
      exact (others q).2.not.mpr (stopped.stack q y at_q able)

omit live held in
theorem serves_closedWork (s : State) : s.closedWork.seq.pumps.serves = s.seq.pumps.serves := by
  rw [Bool.eq_iff_iff, serves_iff, serves_iff]
  constructor
  · rintro ⟨q, y, at_q, inService⟩
    have closed := (unit_closedWork s .pump q).symm.trans at_q
    obtain ⟨u, there, rfl⟩ := Option.map_eq_some_iff.mp closed
    refine ⟨q, u, there, ?_⟩
    unfold PlantUnit.inService at inService ⊢
    rwa [heard_state] at inService
  · rintro ⟨q, u, there, inService⟩
    refine ⟨q, _, (unit_closedWork s .pump q).trans (congrArg _ there), ?_⟩
    unfold PlantUnit.inService at inService ⊢
    rwa [heard_state]

omit live held in
theorem heard_stoppable (s : State) (l : LadderId) (b : PlantUnit) : (s.heard l b).stoppable = b.stoppable := by
  unfold PlantUnit.stoppable
  rw [heard_state]

omit live held in
/-- None stoppable, the stop is of none. -/
theorem chillersStopped_start (unserved : s.seq.pumps.serves = false) (none_there : s.stoppableChillers = 0) :
    s.ChillersStopped s.closedWork := by
  have unstoppable : ∀ q y, s.closedWork.unit .chiller q = some y → y.stoppable = false := by
    intro q y at_q
    have closed := (unit_closedWork s .chiller q).symm.trans at_q
    obtain ⟨u, there, rfl⟩ := Option.map_eq_some_iff.mp closed
    rw [heard_stoppable]
    refine Bool.eq_false_iff.mpr fun able => ?_
    exact List.countP_eq_zero.mp none_there _ ((mem_units_iff s.seq.chillers).mpr ⟨q, there⟩) able
  refine ⟨(serves_closedWork s).trans unserved, fun q => ?_, fun q y at_q able => ?_, fun served => ?_⟩
  · cases at_q : s.closedWork.unit .chiller q with
    | none => rfl
    | some y => rw [Option.map_some, flowStopped_of_unstoppable (unstoppable q y at_q)]
  · rw [unstoppable q y at_q] at able
    cases able
  · rw [serves_closedWork, unserved] at served
    cases served

theorem chillersStopped_of_lost (lost : s.FlowsOut) : s.ChillersStopped s.pumpsTurned := by
  have turned := foldl_turns (P := fun done w => s.Judged .pump (s.unit? .pump) s.inputs.stopLatch done w ∧
      ((w.seq.pumps.serves = true ∧ s.ChillersClosed w) ∨ s.ChillersStopped w))
    (f := s.turn .pump) .pump
    (fun done p w new ⟨h, so_far⟩ => ⟨pumps_step live held h new, lost_step live held lost h new so_far⟩)
    (w := s.closedWork) ⟨judged_start s .pump _, ?_⟩
  · refine turned.2.resolve_left fun served => ?_
    obtain ⟨q, y, at_q, inService⟩ := (serves_iff _).mp served.1
    have judged := turned.1
    by_cases mem : q ∈ (ladderPositions .pump).reverse
    · obtain ⟨b, there, rfl⟩ := Option.map_eq_some_iff.mp ((judged.unit q mem).symm.trans at_q)
      obtain ⟨-, notRunning, notHand⟩ := lost.2 q b there
      exact not_inService notRunning notHand inService
    · obtain ⟨b, there, -⟩ := Option.map_eq_some_iff.mp ((judged.later q mem).symm.trans at_q)
      exact mem (mem_turns_of_unit there (lost.2 q b there).1)
  · cases serves : s.seq.pumps.serves with
    | true => exact .inl ⟨(serves_closedWork s).trans serves, rfl, fun _ => Iff.rfl⟩
    | false => exact .inr (chillersStopped_start serves (lost.1.resolve_left (by simp [serves])))

end

end

end Sys2Proof.Machine

/-! SUPPORT. The chillers' turns, and readings-closed with both ladders held (07, R113, R122, R128). -/

namespace Sys2Proof.Machine

section
variable {s : State} {l : LadderId} {n p : Nat} {w v : Work} {u b : PlantUnit} {done : List Nat}
  {base : Nat → Option PlantUnit} {latch : Bool}

/-- Under the latch a judgement brings no unit into STARTING, RUNNING or HAND. -/
theorem stoppable_judged (unstoppable : b.stoppable = false) (x : Periods) (setpoint : Nat) (u : PlantUnit) :
    (u.takes setpoint (b.judged x true)).stoppable = false := by
  have kept : (u.takes setpoint b.unmoved).stoppable = false := unstoppable
  unfold PlantUnit.stoppable at unstoppable
  unfold PlantUnit.judged
  cases own : b.state with
  | starting => simp [own] at unstoppable
  | running => simp [own] at unstoppable
  | hand d => simp [own] at unstoppable
  | off =>
    rcases b.station.cycle with _ | ⟨_ | _, v⟩
    · exact kept
    · exact kept
    · rfl
  | resting =>
    rcases b.station.cycle with _ | ⟨_ | _, v⟩
    · exact kept
    · exact kept
    · rfl
  | out => rcases b.station.cycle with _ | ⟨_ | _, v⟩ <;> exact kept
  | stopping =>
    rcases b.station.cycle with _ | ⟨_ | _, v⟩
    · exact kept
    · dsimp only
      split
      · exact kept
      · rfl
    · rfl
  | localCtl =>
    rcases b.station.cycle with _ | ⟨_ | _, v⟩
    · exact kept
    · dsimp only
      split <;> rfl
    · exact kept
  | tripped c late =>
    rcases b.station.cycle with _ | ⟨_ | _, v⟩
    · cases c <;> cases late <;> exact kept
    · cases c with
      | noProof =>
        cases late with
        | true => exact kept
        | false =>
          dsimp only
          split
          · rfl
          · exact kept
      | _ => cases late <;> exact kept
    · cases c <;> cases late <;> exact kept

theorem stoppable_judgedUnit (unstoppable : b.stoppable = false) (s : State) (l : LadderId) :
    (s.judgedUnit l true b).stoppable = false := by
  unfold State.judgedUnit State.verdict
  split
  · exact unstoppable
  · exact stoppable_judged unstoppable _ _ _

theorem stacked_of_unstoppable (unstoppable : u.stoppable = false) : u.stacked = false := by
  refine Bool.eq_false_iff.mpr fun on => ?_
  unfold PlantUnit.stacked at on
  rw [Bool.or_eq_true, decide_eq_true_eq, decide_eq_true_eq] at on
  unfold PlantUnit.stoppable at unstoppable
  rcases on with starting | running
  · rw [starting] at unstoppable
    cases unstoppable
  · rw [running] at unstoppable
    cases unstoppable

/-! ## The chillers' turns -/

/-- The pumps stand as their turns left them. -/
def State.PumpsKept (s : State) (w : Work) : Prop := ∀ q, w.unit .pump q = s.pumpsTurned.unit .pump q ∧
  (q ∈ w.seq.pumps.stack ↔ q ∈ s.pumpsTurned.seq.pumps.stack)

theorem State.PumpsKept.serves (h : s.PumpsKept w) : w.seq.pumps.serves = s.pumpsTurned.seq.pumps.serves :=
  serves_congr fun q => (h q).1

theorem pumpsKept_of_judges {e : SeqEnv} {u u' : PlantUnit} (h : s.PumpsKept w) (judges : w.Judges e .chiller p u u' v) :
    s.PumpsKept v := fun q => by
  obtain ⟨unit, stack⟩ := judges.others .pump q (fun same => by cases same) (.inl rfl)
  exact ⟨unit.trans (h q).1, stack.trans (h q).2⟩

section
variable (live : s.fc.shadow = false) (held : ∀ m, s.closedWork.held m = true)
include live held

/-- Whatever becomes of the chillers, their turns leave the pumps. -/
theorem chillers_keep : s.closedWork.Goes s.judgedWork ∧ s.pumpsTurned.Goes s.judgedWork ∧ s.PumpsKept s.judgedWork := by
  have pumps := pumps_judged live held
  have turned := foldl_turns (P := fun _ w => s.pumpsTurned.Goes w ∧ w.frame = s.closedWork.frame ∧ s.PumpsKept w)
    (f := s.turn .chiller) .chiller (fun done p w _ ⟨goes, frame, kept⟩ => ?_) (w := s.pumpsTurned)
    ⟨goes_refl _, pumps.frame, fun _ => ⟨rfl, Iff.rfl⟩⟩
  · exact ⟨pumps.goes.trans turned.1, turned.1, turned.2.2⟩
  · have framed : (s.turn .chiller w p).frame = s.closedWork.frame := (judgeAt_frame _ .chiller p w _).trans frame
    have whole := pumps.goes.trans goes
    cases there : w.unit .chiller p with
    | none =>
      rw [turn_of_none there] at framed ⊢
      exact ⟨goes, framed, kept⟩
    | some u =>
      have periods : (w.seq.ladder .chiller).periods = (s.seq.ladder .chiller).periods :=
        (whole.periods .chiller).trans (by rw [ladder_closedWork])
      obtain ⟨u', judges⟩ := turn_judges_some live (fun m => (whole.held m).trans (held m)) periods frame there
      exact ⟨goes.trans judges.toGoes, framed, pumpsKept_of_judges kept judges⟩

variable (stations : ∀ q, (base q).map (·.station) = (s.unit? .chiller q).map (·.station))
include stations

/-- Turns with a pump in service, or with none and no chiller that needs one. -/
def State.Mode (s : State) (base : Nat → Option PlantUnit) (latch : Bool) : Prop :=
  (s.pumpsTurned.seq.pumps.serves = true ∧ latch = s.inputs.stopLatch) ∨
    (s.pumpsTurned.seq.pumps.serves = false ∧ latch = true ∧ ∀ q b, base q = some b → b.stoppable = false)

omit live held stations in
theorem unstoppable_of_judged (unstoppable : ∀ q b, base q = some b → b.stoppable = false)
    (h : s.Judged .chiller base true done w) (q : Nat) (y : PlantUnit) (at_q : w.unit .chiller q = some y) :
    y.stoppable = false := by
  by_cases mem : q ∈ done
  · obtain ⟨b, there, rfl⟩ := Option.map_eq_some_iff.mp ((h.unit q mem).symm.trans at_q)
    exact stoppable_judgedUnit (unstoppable q b there) s .chiller
  · obtain ⟨b, there, rfl⟩ := Option.map_eq_some_iff.mp ((h.later q mem).symm.trans at_q)
    rw [heard_stoppable]
    exact unstoppable q b there

omit live held stations in
theorem bars_of_mode (mode : s.Mode base latch) (kept : s.PumpsKept w) : w.bars s.closingEnv .chiller = latch := by
  rcases mode with ⟨serves, rfl⟩ | ⟨unserved, rfl, -⟩
  · exact bars_of_serves _ _ (kept.serves.trans serves)
  · exact bars_of_unserved _ (kept.serves.trans unserved)

theorem chillers_step (mode : s.Mode base latch) (h : s.Judged .chiller base latch done w) (kept : s.PumpsKept w)
    (new : p ∉ done) : s.Judged .chiller base latch (p :: done) (s.turn .chiller w p) ∧ s.PumpsKept (s.turn .chiller w p) := by
  have bars := bars_of_mode mode kept
  have kept' : s.PumpsKept (s.turn .chiller w p) := by
    cases there : base p with
    | none =>
      rw [turn_of_none (by rw [h.later p new, there, Option.map_none])]
      exact kept
    | some b => exact pumpsKept_of_judges kept (Judged.turn live held stations h new bars there)
  refine ⟨Judged.step live held stations h new bars (.inr ?_), kept'⟩
  rcases mode with ⟨serves, -⟩ | ⟨-, rfl, unstoppable⟩
  · exact .inl (kept'.serves.trans serves)
  · exact .inr (unstoppable_of_judged unstoppable h)

theorem chillers_judged (start : s.Judged .chiller base latch [] s.pumpsTurned) (mode : s.Mode base latch) :
    s.Judged .chiller base latch (ladderPositions .chiller).reverse s.judgedWork := by
  have turned := foldl_turns (P := fun done w => s.Judged .chiller base latch done w ∧ s.PumpsKept w)
    (f := s.turn .chiller) .chiller (fun done p w new ⟨h, kept⟩ => chillers_step live held stations mode h kept new)
    (w := s.pumpsTurned) ⟨start, fun _ => ⟨rfl, Iff.rfl⟩⟩
  exact turned.1

/-- With no pump in service, no chiller comes onto the stack. -/
theorem chillers_off (start : s.Judged .chiller base true [] s.pumpsTurned)
    (unserved : s.pumpsTurned.seq.pumps.serves = false) (unstoppable : ∀ q b, base q = some b → b.stoppable = false)
    {q : Nat} (off : q ∉ s.pumpsTurned.seq.chillers.stack) : q ∉ s.judgedWork.seq.chillers.stack := by
  have mode : s.Mode base true := .inr ⟨unserved, rfl, unstoppable⟩
  have turned := foldl_turns (P := fun done w => s.Judged .chiller base true done w ∧ s.PumpsKept w ∧ q ∉ w.seq.chillers.stack)
    (f := s.turn .chiller) .chiller (fun done p w new ⟨h, kept, out⟩ => ?_) (w := s.pumpsTurned)
    ⟨start, fun _ => ⟨rfl, Iff.rfl⟩, off⟩
  · exact turned.2.2
  · obtain ⟨next, kept'⟩ := chillers_step live held stations mode h kept new
    refine ⟨next, kept', ?_⟩
    cases there : base p with
    | none =>
      rw [turn_of_none (by rw [h.later p new, there, Option.map_none])]
      exact out
    | some b =>
      have judges := Judged.turn live held stations h new (bars_of_mode mode kept) there
      by_cases own : q = p
      · subst own
        have judged := stoppable_judgedUnit (unstoppable q b there) s .chiller
        exact judges.gone (stacked_of_unstoppable judged) (.inr out)
      · exact (judges.others .chiller q (fun same => own (Prod.mk.inj same).2)
          (.inr (.inr (unstoppable_of_judged unstoppable h q)))).2.not.mpr out

end

section
variable (live : s.fc.shadow = false) (held : ∀ m, s.closedWork.held m = true)
include live held

/-- With a pump that stays, the chillers are judged as the closing left them. -/
theorem chillers_judged_of_stays (stays : s.PumpStays) :
    s.Judged .chiller (s.unit? .chiller) s.inputs.stopLatch (ladderPositions .chiller).reverse s.judgedWork := by
  have pumps := pumps_judged live held
  have closed := chillersClosed_of_pumpStays live held stays
  refine chillers_judged live held (fun _ => rfl) ⟨pumps.goes, pumps.frame, fun p _ => ?_, fun _ mem => (by cases mem),
    fun _ mem => (by cases mem), fun _ mem => (by cases mem), fun _ _ mem => by cases mem⟩
    (.inl ⟨serves_of_pumpStays stays pumps, rfl⟩)
  rw [unit_of_chillersClosed closed, unit_closedWork]

/-- A chiller as a flow-loss stop leaves it, before its closing. -/
def State.dried (s : State) (q : Nat) : Option PlantUnit :=
  (s.unit? .chiller q).map (PlantUnit.flowStopped s.closingEnv s.seq.chillers.periods)

omit live held in
/-- Closed and then stopped is stopped and then closed. -/
theorem heard_flowStopped (s : State) (u : PlantUnit) :
    s.heard .chiller (u.flowStopped s.closingEnv s.seq.chillers.periods) =
      (s.heard .chiller u).flowStopped s.closingEnv s.seq.chillers.periods := by
  unfold PlantUnit.flowStopped
  rw [heard_stoppable]
  split <;> rfl

omit live held in
theorem dried_stations (s : State) (q : Nat) : (s.dried q).map (·.station) = (s.unit? .chiller q).map (·.station) := by
  unfold State.dried
  rw [Option.map_map]
  congr 1
  funext u
  unfold PlantUnit.flowStopped
  dsimp only [Function.comp]
  split <;> rfl

omit live held in
theorem dried_unstoppable (q : Nat) (b : PlantUnit) (there : s.dried q = some b) : b.stoppable = false := by
  obtain ⟨u, -, rfl⟩ := Option.map_eq_some_iff.mp there
  exact flowStopped_unstoppable _ _ u

theorem dried_start (stopped : s.ChillersStopped s.pumpsTurned) : s.Judged .chiller s.dried true [] s.pumpsTurned := by
  have pumps := pumps_judged live held
  refine ⟨pumps.goes, pumps.frame, fun p _ => ?_, fun _ mem => (by cases mem),
    fun _ mem => (by cases mem), fun _ mem => (by cases mem), fun _ _ mem => by cases mem⟩
  unfold State.dried
  rw [stopped.units, unit_closedWork, Option.map_map, Option.map_map]
  congr 1
  funext u
  exact (heard_flowStopped s u).symm

/-- With the last pump gone, the chillers are judged as the flow-loss stop left them, none of them to run. -/
theorem chillers_judged_of_lost (lost : s.FlowsOut) :
    s.Judged .chiller s.dried true (ladderPositions .chiller).reverse s.judgedWork := by
  have stopped := chillersStopped_of_lost live held lost
  exact chillers_judged live held (dried_stations s) (dried_start live held stopped)
    (.inr ⟨stopped.unserved, rfl, dried_unstoppable⟩)

theorem chillers_off_of_lost (lost : s.FlowsOut) {q : Nat} (there : s.unit? .chiller q = some u) (able : u.stoppable = true) :
    q ∉ s.judgedWork.seq.chillers.stack := by
  have stopped := chillersStopped_of_lost live held lost
  refine chillers_off live held (dried_stations s) (dried_start live held stopped) stopped.unserved dried_unstoppable ?_
  refine stopped.stack q _ ((unit_closedWork s .chiller q).trans (congrArg _ there)) ?_
  rw [heard_stoppable, able]

end

end

end Sys2Proof.Machine

/-! SUPPORT. Tracking in shadow mode while both ladders are held (07, R130). -/

namespace Sys2Proof.Machine

section
variable {e : SeqEnv} {s : State} {l : LadderId} {n p : Nat} {w v : Work} {u b : PlantUnit} {D D' : LadderId → Nat → Prop}

/-- What tracking makes of a unit: OFF and RUNNING follow the proof, and a change takes the intent away. -/
def PlantUnit.tracks (setpoint : Nat) (u : PlantUnit) : PlantUnit :=
  match u.station.values, u.state with
  | some v, .off => if v.proof then { u with state := .running, next := some ⟨.run, setpoint⟩, intent := none } else u
  | some v, .running => if v.proof then u else { u with state := .off, next := some ⟨.stop, setpoint⟩, intent := none }
  | _, _ => u

/-- One unit tracked, the others left as they are. -/
structure Work.Tracks (e : SeqEnv) (l : LadderId) (p : Nat) (u : PlantUnit) (w v : Work) : Prop extends w.Goes v where
  unit   : v.unit l p = some (u.tracks (e.setpoint l))
  stack  : (u.tracks (e.setpoint l)).state ≠ u.state →
    (p ∈ (v.seq.ladder l).stack ↔ (u.tracks (e.setpoint l)).state = .running)
  others : ∀ m q, (m, q) ≠ (l, p) →
    v.unit m q = w.unit m q ∧ (q ∈ (v.seq.ladder m).stack ↔ q ∈ (w.seq.ladder m).stack)

theorem tracks_of_apart (own : w.Apart (At l p) v) (unit : v.unit l p = some (u.tracks (e.setpoint l)))
    (stack : (u.tracks (e.setpoint l)).state ≠ u.state →
      (p ∈ (v.seq.ladder l).stack ↔ (u.tracks (e.setpoint l)).state = .running)) : w.Tracks e l p u v :=
  ⟨own.toGoes, unit, stack, fun m q away => ⟨own.unit m q away, own.stack m q away⟩⟩

theorem tracks_still (unit : w.unit l p = some u) (still : u.tracks (e.setpoint l) = u) : w.Tracks e l p u w :=
  tracks_of_apart (apart_refl w) (by rw [still]; exact unit) fun moved => absurd (by rw [still]) moved

theorem trackOne_tracks (held : ∀ m, w.held m = true) (unit : w.unit l p = some u) :
    w.Tracks e l p u (w.trackOne e l p u) := by
  cases values : u.station.values with
  | none =>
    have still : u.tracks (e.setpoint l) = u := by
      unfold PlantUnit.tracks
      rw [values]
    have same : w.trackOne e l p u = w := by
      unfold Work.trackOne
      rw [values]
    rw [same]
    exact tracks_still unit still
  | some x =>
    cases state : u.state with
    | off =>
      cases proof : x.proof with
      | false =>
        have still : u.tracks (e.setpoint l) = u := by
          unfold PlantUnit.tracks
          rw [values, state]
          exact if_neg (by simp [proof])
        have same : w.trackOne e l p u = w := by
          unfold Work.trackOne
          rw [values, state]
          exact if_neg (by simp [proof])
        rw [same]
        exact tracks_still unit still
      | true =>
        have moved : u.tracks (e.setpoint l) =
            { u with state := .running, next := some ⟨.run, e.setpoint l⟩, intent := none } := by
          unfold PlantUnit.tracks
          rw [values, state]
          exact if_pos proof
        have own : w.Apart (At l p) ((w.enter e l p .running (some .run) fun u => { u with intent := none }).onLadder l
            (·.push p)) := (apart_enter ..).trans (apart_push _ l p)
        have entered : ((w.enter e l p .running (some .run) fun u => { u with intent := none }).onLadder l
            (·.push p)).unit l p = some (u.tracks (e.setpoint l)) := by
          rw [moved]
          exact (unit_onLadder_of_units (f := (·.push p)) (fun _ => rfl) l p).trans (unit_enter unit .running _ _)
        have pushed : p ∈ (((w.enter e l p .running (some .run) fun u => { u with intent := none }).onLadder l
            (·.push p)).seq.ladder l).stack := by
          rw [ladder_onLadder]
          exact List.mem_append_right _ (List.mem_singleton.mpr rfl)
        have runs : (u.tracks (e.setpoint l)).state = .running := by rw [moved]
        have same : w.trackOne e l p u = if l = .pump then
            ((w.enter e l p .running (some .run) fun u => { u with intent := none }).onLadder l (·.push p)).pumpServes e
            else (w.enter e l p .running (some .run) fun u => { u with intent := none }).onLadder l (·.push p) := by
          unfold Work.trackOne
          rw [values, state]
          exact if_pos proof
        rw [same]
        split
        · obtain ⟨-, flags⟩ := pumpServes_held (e := e) fun m => (own.held m).trans (held m)
          exact tracks_of_apart (own.trans flags.within) ((flags.unit l p id).trans entered) fun _ =>
            iff_of_true ((flags.stack l p id).mpr pushed) runs
        · exact tracks_of_apart own entered fun _ => iff_of_true pushed runs
    | running =>
      cases proof : x.proof with
      | true =>
        have still : u.tracks (e.setpoint l) = u := by
          unfold PlantUnit.tracks
          rw [values, state]
          exact if_pos proof
        have same : w.trackOne e l p u = w := by
          unfold Work.trackOne
          rw [values, state]
          exact if_pos proof
        rw [same]
        exact tracks_still unit still
      | false =>
        have moved : u.tracks (e.setpoint l) =
            { u with state := .off, next := some ⟨.stop, e.setpoint l⟩, intent := none } := by
          unfold PlantUnit.tracks
          rw [values, state]
          exact if_neg (by simp [proof])
        have same : w.trackOne e l p u =
            (w.enter e l p .off (some .stop) fun u => { u with intent := none }).onLadder l (·.remove p) := by
          unfold Work.trackOne
          rw [values, state]
          exact if_neg (by simp [proof])
        rw [same]
        refine tracks_of_apart ((apart_enter ..).trans (apart_remove _ l p)) ?_ fun _ => iff_of_false ?_ ?_
        · rw [moved]
          exact (unit_onLadder_of_units (f := (·.remove p)) (fun _ => rfl) l p).trans (unit_enter unit .off _ _)
        · rw [ladder_onLadder]
          simp [Ladder.remove]
        · rw [moved]
          simp
    | _ =>
      have still : u.tracks (e.setpoint l) = u := by
        unfold PlantUnit.tracks
        rw [values, state]
      have same : w.trackOne e l p u = w := by
        unfold Work.trackOne
        rw [values, state]
      rw [same]
      exact tracks_still unit still

/-! ## The turns in shadow mode -/

/-- A unit closed and tracked. -/
def State.trackedUnit (s : State) (l : LadderId) (b : PlantUnit) : PlantUnit :=
  if b.station.joined then s.heard l b else (s.heard l b).tracks (s.closingEnv.setpoint l)

/-- Some of the units have been tracked, the others stand as the closing left them. -/
structure State.Tracked (s : State) (D : LadderId → Nat → Prop) (w : Work) : Prop where
  goes  : s.closedWork.Goes w
  later : ∀ m q, ¬ D m q → w.unit m q = (s.unit? m q).map (s.heard m)
  unit  : ∀ m q, D m q → w.unit m q = (s.unit? m q).map (s.trackedUnit m)
  stack : ∀ m q, D m q → ∀ b, s.unit? m q = some b → (s.trackedUnit m b).state ≠ b.state →
    (q ∈ (w.seq.ladder m).stack ↔ (s.trackedUnit m b).state = .running)

theorem State.Tracked.congr (h : s.Tracked D w) (same : ∀ m q, D m q ↔ D' m q) : s.Tracked D' w := by
  have : D = D' := funext fun m => funext fun q => propext (same m q)
  exact this ▸ h

/-- A unit's turn in shadow mode. -/
theorem turn_tracks (shadow : s.fc.shadow = true) (there : s.unit? l p = some b)
    (unit : w.unit l p = some (s.heard l b)) : s.turn l w p =
      if b.station.joined then w else w.trackOne s.closingEnv l p (s.heard l b) := by
  have before := station_before s l p
  rw [there, Option.map_some, Option.map_eq_some_iff] at before
  obtain ⟨b', there', same⟩ := before
  unfold State.turn Work.judgeAt
  rw [there', unit]
  dsimp only
  rw [same]
  split
  · rfl
  · exact if_pos shadow

theorem tracked_step (shadow : s.fc.shadow = true) (held : ∀ m, s.closedWork.held m = true) (h : s.Tracked D w)
    (new : ¬ D l p) : s.Tracked (fun m q => D m q ∨ (m, q) = (l, p)) (s.turn l w p) := by
  cases there : s.unit? l p with
  | none =>
    have none_there : w.unit l p = none := by rw [h.later l p new, there, Option.map_none]
    rw [turn_of_none none_there]
    refine ⟨h.goes, fun m q out => h.later m q fun mem => out (.inl mem), fun m q mem => ?_, fun m q mem b hb => ?_⟩
    · rcases mem with mem | same
      · exact h.unit m q mem
      · obtain ⟨rfl, rfl⟩ := Prod.mk.inj same
        rw [none_there, there, Option.map_none]
    · rcases mem with mem | same
      · exact h.stack m q mem b hb
      · obtain ⟨rfl, rfl⟩ := Prod.mk.inj same
        rw [there] at hb
        cases hb
  | some b =>
    have held' : ∀ m, w.held m = true := fun m => (h.goes.held m).trans (held m)
    have unit : w.unit l p = some (s.heard l b) := by rw [h.later l p new, there, Option.map_some]
    have turn := turn_tracks shadow there unit
    have tracks : w.Goes (s.turn l w p) ∧ (s.turn l w p).unit l p = some (s.trackedUnit l b) ∧
        ((s.trackedUnit l b).state ≠ b.state →
          (p ∈ ((s.turn l w p).seq.ladder l).stack ↔ (s.trackedUnit l b).state = .running)) ∧
        ∀ m q, (m, q) ≠ (l, p) → (s.turn l w p).unit m q = w.unit m q ∧
          (q ∈ ((s.turn l w p).seq.ladder m).stack ↔ q ∈ (w.seq.ladder m).stack) := by
      rw [turn]
      unfold State.trackedUnit
      split
      · exact ⟨goes_refl w, unit, fun moved => absurd (heard_state s l b) moved, fun _ _ _ => ⟨rfl, Iff.rfl⟩⟩
      · have tracked := trackOne_tracks (e := s.closingEnv) held' unit
        have stack := tracked.stack
        rw [heard_state] at stack
        exact ⟨tracked.toGoes, tracked.unit, stack, tracked.others⟩
    obtain ⟨goes, now, stack, others⟩ := tracks
    refine ⟨h.goes.trans goes, fun m q out => ?_, fun m q mem => ?_, fun m q mem b' hb => ?_⟩
    · rw [(others m q fun same => out (.inr same)).1]
      exact h.later m q fun mem => out (.inl mem)
    · by_cases own : (m, q) = (l, p)
      · obtain ⟨rfl, rfl⟩ := Prod.mk.inj own
        rw [now, there, Option.map_some]
      · rw [(others m q own).1]
        exact h.unit m q (mem.resolve_right own)
    · by_cases own : (m, q) = (l, p)
      · obtain ⟨rfl, rfl⟩ := Prod.mk.inj own
        obtain rfl : b = b' := Option.some.inj (there.symm.trans hb)
        exact stack
      · rw [(others m q own).2]
        exact h.stack m q (mem.resolve_right own) b' hb

/-- Every unit within its ladder's size is tracked. -/
theorem judgedWork_tracked (shadow : s.fc.shadow = true) (held : ∀ m, s.closedWork.held m = true) :
    s.Tracked (fun m q => q ∈ (ladderPositions m).reverse) s.judgedWork := by
  have pumps := foldl_turns (P := fun done w => s.Tracked (fun m q => m = .pump ∧ q ∈ done) w) (f := s.turn .pump) .pump
    (fun done p w new h => (tracked_step (l := .pump) (p := p) shadow held h fun mem => new mem.2).congr fun m q => ?_)
    (w := s.closedWork) ⟨goes_refl _, fun m q _ => unit_closedWork s m q, fun _ _ mem => (by cases mem.2),
      fun _ _ mem => by cases mem.2⟩
  · have chillers := foldl_turns (P := fun done w => s.Tracked
        (fun m q => (m = .pump ∧ q ∈ (ladderPositions .pump).reverse) ∨ (m = .chiller ∧ q ∈ done)) w)
      (f := s.turn .chiller) .chiller
      (fun done p w new h => (tracked_step (l := .chiller) (p := p) shadow held h (by simpa using new)).congr fun m q => ?_)
      (w := s.pumpsTurned) (pumps.congr fun m q => by simp)
    · refine chillers.congr fun m q => ?_
      cases m <;> simp
    · cases m <;> simp [or_comm]
  · cases m <;> simp [or_comm]

end

end Sys2Proof.Machine

/-! SUPPORT. What readings-closed leaves with both ladders held. -/

namespace Sys2Proof.Machine

section
variable {s : State} {l : LadderId} {n : Nat} {u b : PlantUnit}

theorem evaluate_of_held {w : Work} {e : SeqEnv} {x : LoadInput} (held : ∀ m, w.held m = true) : w.evaluate e x = w := by
  unfold Work.evaluate
  rw [held .chiller, held .pump]
  rfl

/-- The supply setpoint written with the demand of a chiller. -/
def State.supplied (s : State) : LadderId → PlantUnit → PlantUnit
  | .chiller, u => { u with next := u.next.map fun c => { c with setpoint := s.limits.supplySet } }
  | .pump, u => u

theorem supplied_eq (s : State) (l : LadderId) (u : PlantUnit) :
    s.supplied l u = { u with next := (s.supplied l u).next } := by
  cases l <;> rfl

theorem supplied_demand (s : State) (l : LadderId) (u : PlantUnit) :
    (s.supplied l u).next.map (·.demand) = u.next.map (·.demand) := by
  cases l with
  | chiller => exact Option.map_map ..
  | pump => rfl

theorem supplied_next {d : Demand} (next : u.next = some ⟨d, s.closingEnv.setpoint l⟩) :
    (s.supplied l u).next = some ⟨d, (readingsClosed s).setpointFor l⟩ := by
  rw [← readingsClosed_setpoint]
  cases l with
  | chiller => exact congrArg (Option.map _) next
  | pump => exact next

section
variable (held : ∀ m, s.closedWork.held m = true)
include held

theorem readingsClosed_held :
    (readingsClosed s).seq = (s.judgedWork.onLadder .chiller (·.writeSupply s.limits.supplySet)).seq := by
  have leads : s.closedWork.Leads (s.judgedWork.onLadder .chiller (·.writeSupply s.limits.supplySet)) :=
    (leads_writeSupply _ _).after (leads_judgeAll (pressureClosed s.tabled).seq s.closedWork s.closingEnv)
  rw [readingsClosed_seq, staged_seq]
  exact congrArg Work.seq (evaluate_of_held fun m => (held_of_leads leads m).trans (held m))

theorem unit_readingsClosed_held (l : LadderId) (n : Nat) :
    (readingsClosed s).unit? l n = (s.judgedWork.unit l n).map (s.supplied l) := by
  unfold State.unit?
  rw [readingsClosed_held held]
  cases l with
  | chiller => exact unitAt_map _ _ n
  | pump => exact (Option.map_id' (x := s.judgedWork.unit .pump n)).symm

theorem stack_readingsClosed_held (l : LadderId) :
    ((readingsClosed s).seq.ladder l).stack = (s.judgedWork.seq.ladder l).stack := by
  rw [readingsClosed_held held]
  cases l <;> rfl

theorem flags_readingsClosed_held : (readingsClosed s).seq.waiting = s.judgedWork.seq.waiting ∧
    (readingsClosed s).seq.chillers.upPending = s.judgedWork.seq.chillers.upPending := by
  rw [readingsClosed_held held]
  exact ⟨rfl, rfl⟩

end

end

end Sys2Proof.Machine

/-! The statement on STOP, RUN and REST running out, and on the judgement at CYCLE_END with both ladders held. -/

namespace Sys2Proof.Machine

section
variable {s : State} {l : LadderId} {n : Nat} {u b : PlantUnit} {latch : Bool}

/-! ## The judgement as CYCLE_END leaves it, live -/

/-- A unit as it stands at the end, by its judgement. -/
theorem supplied_shows (s : State) (l : LadderId) (latch : Bool) (b : PlantUnit) :
    (s.supplied l (s.judgedUnit l latch b)).Shows (s.verdict l latch b) := by
  rw [supplied_eq]
  exact ⟨rfl, rfl, rfl, rfl, rfl⟩

theorem judgedUnit_state (s : State) (l : LadderId) (latch : Bool) (b : PlantUnit) :
    (s.judgedUnit l latch b).state = (s.verdict l latch b).state := rfl

theorem supplied_state (s : State) (l : LadderId) (u : PlantUnit) : (s.supplied l u).state = u.state := by
  rw [supplied_eq]

theorem supplied_judged_next {d : Demand} (demand : (s.verdict l latch b).demand = some d) :
    (s.supplied l (s.judgedUnit l latch b)).next = some ⟨d, (readingsClosed s).setpointFor l⟩ := by
  refine supplied_next ?_
  unfold State.judgedUnit PlantUnit.takes
  rw [demand]

theorem supplied_judged_demand (s : State) (l : LadderId) (latch : Bool) (b : PlantUnit) :
    (s.supplied l (s.judgedUnit l latch b)).next.map (·.demand) = (match (s.verdict l latch b).demand with
      | some d => some d
      | none => b.next.map (·.demand)) := by
  rw [supplied_demand]
  unfold State.judgedUnit PlantUnit.takes
  dsimp only
  cases (s.verdict l latch b).demand with
  | some d => rfl
  | none => exact heard_next s l b

section
variable (live : s.fc.shadow = false) (held : ∀ m, s.closedWork.held m = true)
include live held

omit live held in
theorem told_pressed (s : State) : s.Told (pressureClosed s.tabled) := by
  have closed : s.ClosingOnly (closeTable s) := ⟨rfl, _, rfl⟩
  have metered : ∀ tc (u : State), u.ClosingOnly (meterTable tc u) := fun _ _ => ⟨rfl, _, rfl⟩
  have monitored : ∀ u : State, u.ClosingOnly (monitorTable u) := fun _ => ⟨rfl, _, rfl⟩
  have judged : ∀ u : State, u.ClosingOnly (pressureClosed u) := fun _ => ⟨rfl, _, rfl⟩
  exact (((closed.trans (metered _ _)).trans (monitored _)).trans (judged _)).told

/-- One unit's judgement, as the work of all the turns leaves it. -/
theorem judgedWork_unit (small : n ≤ ladderSize l) (there : s.unit? l n = some b) (mode : l = .pump ∨ s.PumpStays) :
    s.judgedWork.unit l n = some (s.judgedUnit l s.inputs.stopLatch b) ∧
    (b.stacked = true → (s.judgedUnit l s.inputs.stopLatch b).stacked = false → n ∉ (s.judgedWork.seq.ladder l).stack) ∧
    (b.state = .localCtl → (s.judgedUnit l s.inputs.stopLatch b).state = .running →
      n ∈ (s.judgedWork.seq.ladder l).stack) := by
  have mem := mem_turns_of_unit there small
  cases l with
  | pump =>
    obtain ⟨-, -, kept⟩ := chillers_keep live held
    have judged := pumps_judged live held
    obtain ⟨unit, stack⟩ := kept n
    refine ⟨unit.trans ((judged.unit n mem).trans (congrArg _ there)), fun on off => ?_, fun was is => ?_⟩
    · exact stack.not.mpr (judged.gone n mem b there on off)
    · exact stack.mpr (judged.enters n mem b there was is)
  | chiller =>
    have judged := chillers_judged_of_stays live held (mode.resolve_left (by simp))
    exact ⟨(judged.unit n mem).trans (congrArg _ there), judged.gone n mem b there, judged.enters n mem b there⟩

/-- A pump that has proved carries out the chiller start that waited for it. -/
theorem judgedWork_serves (small : n ≤ ladderSize .pump) (there : s.unit? .pump n = some b) (was : b.state = .starting)
    (is : (s.judgedUnit .pump s.inputs.stopLatch b).state = .running) (waits : s.seq.waiting = true) :
    s.judgedWork.seq.waiting = false ∧ s.judgedWork.seq.chillers.upPending = true := by
  obtain ⟨whole, after, -⟩ := chillers_keep live held
  have stopped := after.waits_no_more
    ((pumps_judged live held).serves rfl n (mem_turns_of_unit there small) b there was is)
  refine ⟨stopped, ?_⟩
  rcases whole.waiting with same | ⟨-, raised⟩
  · rw [stopped, waiting_closedWork, waits] at same
    cases same
  · exact raised

theorem cycleEnd_judges (small : n ≤ ladderSize l) (there : s.unit? l n = some b) (mode : l = .pump ∨ s.PumpStays) :
    let t := readingsClosed s
    let m := s.verdict l s.inputs.stopLatch b
    let v := s.supplied l (s.judgedUnit l s.inputs.stopLatch b)
    t.unit? l n = some v ∧ v.Shows m ∧
    (∀ d, m.demand = some d → v.next = some ⟨d, t.setpointFor l⟩) ∧
    (m.demand = none → v.next.map (·.demand) = b.next.map (·.demand)) ∧
    (b.stacked = true → v.stacked = false → n ∉ (t.seq.ladder l).stack) ∧
    (b.state = .localCtl → v.state = .running → n ∈ (t.seq.ladder l).stack) ∧
    (l = .pump → b.state = .starting → v.state = .running → s.seq.waiting = true →
      t.seq.waiting = false ∧ t.seq.chillers.upPending = true) := by
  obtain ⟨unit, gone, enters⟩ := judgedWork_unit live held small there mode
  have state := supplied_state s l (s.judgedUnit l s.inputs.stopLatch b)
  have stacked : (s.supplied l (s.judgedUnit l s.inputs.stopLatch b)).stacked = (s.judgedUnit l s.inputs.stopLatch b).stacked :=
    stacked_of_state state
  have demand := supplied_judged_demand s l s.inputs.stopLatch b
  refine ⟨?_, supplied_shows s l _ b, fun d => supplied_judged_next, fun none_written => ?_, fun on off => ?_, fun was is => ?_,
    fun pump was is waits => ?_⟩
  · rw [unit_readingsClosed_held held, unit, Option.map_some]
  · rw [none_written] at demand
    exact demand
  · rw [stack_readingsClosed_held held]
    exact gone on (stacked ▸ off)
  · rw [stack_readingsClosed_held held]
    exact enters was (state ▸ is)
  · subst pump
    obtain ⟨waiting, pending⟩ := flags_readingsClosed_held held
    rw [waiting, pending]
    exact judgedWork_serves live held small there was (state ▸ is) waits

/-! ## The flow-loss stop by the judgement -/

theorem cycleEnd_flowStop (lost : s.FlowsOut) (small : n ≤ 8) (there : s.unit? .chiller n = some u) :
    let w := if u.stoppable then u.stopped s.seq.chillers.periods s.limits.supplySet else u
    let m := s.verdict .chiller true w
    let v := s.supplied .chiller (s.judgedUnit .chiller true w)
    (readingsClosed s).unit? .chiller n = some v ∧ v.Shows m ∧
    v.next.map (·.demand) = (match m.demand with
      | some d => some d
      | none => w.next.map (·.demand)) ∧
    (u.stacked = true → n ∉ (readingsClosed s).seq.chillers.stack) := by
  intro w m v
  have judged := chillers_judged_of_lost live held lost
  have dried : s.dried n = some w := by
    unfold State.dried
    rw [there]
    rfl
  refine ⟨?_, supplied_shows s .chiller true w, supplied_judged_demand s .chiller true w, fun on => ?_⟩
  · rw [unit_readingsClosed_held held, judged.unit n (mem_turns_of_unit (l := .chiller) there small), dried]
    rfl
  · have able : u.stoppable = true := by
      refine Bool.not_eq_false _ ▸ fun unstoppable => ?_
      rw [stacked_of_unstoppable unstoppable] at on
      cases on
    change n ∉ ((readingsClosed s).seq.ladder .chiller).stack
    rw [stack_readingsClosed_held held]
    exact chillers_off_of_lost live held lost there able

theorem cycleEnd_flowNote (lost : s.FlowsOut) (serves : s.seq.pumps.serves = true) :
    s.Appends (readingsClosed s) ⟨s.fc.count, s.fc.position, ⟨.flowLossStop, 200, s.stoppableChillers⟩⟩ := by
  have stopped := chillersStopped_of_lost live held lost
  obtain ⟨-, after, -⟩ := chillers_keep live held
  have noted : s.closedWork.flowNote ∈ s.judgedWork.out := after.out (stopped.noted ((serves_closedWork s).trans serves))
  have note : s.closedWork.flowNote = ⟨.flowLossStop, 200, s.stoppableChillers⟩ := by
    unfold Work.flowNote State.stoppableChillers
    rw [stoppables_length]
    have same : s.closedWork.seq.chillers.units.countP (fun u => u.any (·.stoppable)) =
        s.seq.chillers.units.countP fun u => u.any (·.stoppable) := by
      rw [show s.closedWork.seq.chillers.units = s.seq.chillers.units.map (·.map (s.heard .chiller)) from
        congrArg Ladder.units (ladder_closedWork s .chiller), List.countP_map]
      refine List.countP_congr fun o _ => ?_
      cases o with
      | none => exact Iff.rfl
      | some u => exact iff_of_eq (congrArg (· = true) (heard_stoppable s .chiller u))
    rw [same]
    rfl
  have out : ((s.judgedWork.onLadder .chiller (·.writeSupply s.limits.supplySet)).evaluate s.closingEnv
      (pressureClosed s.tabled).loadInput).out = s.judgedWork.out := by
    have leads : s.closedWork.Leads (s.judgedWork.onLadder .chiller (·.writeSupply s.limits.supplySet)) :=
      (leads_writeSupply _ _).after (leads_judgeAll (pressureClosed s.tabled).seq s.closedWork s.closingEnv)
    rw [evaluate_of_held fun m => (held_of_leads leads m).trans (held m)]
    rfl
  obtain ⟨qs, before⟩ := (told_pressed s).records
  obtain ⟨rs, closed⟩ := (storeOnly_storageClosed (s := s.staged) s.fc.pEff (storageAvailable s.storage)).told.records
  rw [← note]
  refine Appends_after (t := { pressureClosed s.tabled with seq := s.staged.seq }) qs before (Appends_then (t := s.staged) ?_ rs closed)
  refine notes_appends (s := { pressureClosed s.tabled with seq := s.staged.seq }) ?_
  exact out.symm ▸ noted

end

/-! ## Tracking as CYCLE_END leaves it, in shadow mode -/

/-- The state that tracking gives a unit, by the proof of its last reading. -/
def PlantUnit.follows (u : PlantUnit) : UnitState :=
  match u.station.values, u.state with
  | some x, .off => if x.proof then .running else .off
  | some x, .running => if x.proof then .running else .off
  | _, st => st

theorem tracks_eq (setpoint : Nat) (u : PlantUnit) : u.tracks setpoint =
    if u.follows = u.state then u
    else { u with
      state := u.follows, next := some ⟨if u.follows = .running then .run else .stop, setpoint⟩, intent := none } := by
  unfold PlantUnit.tracks PlantUnit.follows
  cases values : u.station.values with
  | none => simp
  | some x =>
    cases state : u.state with
    | off => cases proof : x.proof <;> simp [proof]
    | running => cases proof : x.proof <;> simp [proof]
    | _ => simp

/-- A unit tracked, or passed over. -/
theorem trackedUnit_eq (s : State) (l : LadderId) (b : PlantUnit) : s.trackedUnit l b =
    if b.station.joined = true ∨ (s.heard l b).follows = b.state then s.heard l b
    else { s.heard l b with
      state := (s.heard l b).follows, intent := none
      next := some ⟨if (s.heard l b).follows = .running then .run else .stop, s.closingEnv.setpoint l⟩ } := by
  unfold State.trackedUnit
  rw [tracks_eq, heard_state]
  by_cases joined : b.station.joined = true
  · rw [if_pos joined, if_pos (.inl joined)]
  · rw [if_neg joined]
    exact if_congr (or_iff_right joined).symm rfl rfl

theorem trackedUnit_fields (s : State) (l : LadderId) (u : PlantUnit) :
    (s.trackedUnit l u).prove = u.prove ∧ (s.trackedUnit l u).stop = u.stop ∧ (s.trackedUnit l u).run = u.run ∧
      (s.trackedUnit l u).rest = u.rest ∧ (s.trackedUnit l u).station = (s.heard l u).station ∧
      (s.trackedUnit l u).state = (match u.station.joined, (s.heard l u).station.values, u.state with
        | false, some x, .off => if x.proof then .running else .off
        | false, some x, .running => if x.proof then .running else .off
        | _, _, st => st) := by
  have heard := heard_eq s l u
  have prove : (s.heard l u).prove = u.prove := by rw [heard]; rfl
  have stop : (s.heard l u).stop = u.stop := by rw [heard]; rfl
  have run : (s.heard l u).run = u.run := by rw [heard]; rfl
  have rest : (s.heard l u).rest = u.rest := by rw [heard]; rfl
  have followed : (s.trackedUnit l u).state = if u.station.joined = true then u.state else (s.heard l u).follows := by
    rw [trackedUnit_eq]
    by_cases joined : u.station.joined = true
    · rw [if_pos joined, if_pos (.inl joined), heard_state]
    · rw [if_neg joined]
      split
      next still => rw [heard_state, still.resolve_left joined]
      · rfl
  have whole := trackedUnit_eq s l u
  refine ⟨?_, ?_, ?_, ?_, ?_, ?_⟩
  · rw [whole]
    split <;> exact prove
  · rw [whole]
    split <;> exact stop
  · rw [whole]
    split <;> exact run
  · rw [whole]
    split <;> exact rest
  · rw [whole]
    split <;> rfl
  · rw [followed]
    unfold PlantUnit.follows
    rw [heard_state]
    cases u.station.joined with
    | true => cases (s.heard l u).station.values <;> cases u.state <;> rfl
    | false => cases (s.heard l u).station.values <;> cases u.state <;> rfl

theorem trackedUnit_still (still : (s.trackedUnit l u).state = u.state) : (s.trackedUnit l u).intent = u.intent := by
  rw [trackedUnit_eq] at still ⊢
  split
  · rw [heard_eq]
    rfl
  next moved =>
    rw [if_neg moved] at still
    exact absurd (.inr still) moved

theorem trackedUnit_moved (moved : (s.trackedUnit l u).state ≠ u.state) : (s.trackedUnit l u).intent = none ∧
    (s.trackedUnit l u).next =
      some ⟨if (s.trackedUnit l u).state = .running then .run else .stop, s.closingEnv.setpoint l⟩ := by
  rw [trackedUnit_eq] at moved ⊢
  split
  next still =>
    rw [if_pos still] at moved
    exact absurd (heard_state s l u) moved
  · exact ⟨rfl, rfl⟩

theorem cycleEnd_tracks (shadow : s.fc.shadow = true) (held : ∀ m, s.closedWork.held m = true) (small : n ≤ ladderSize l)
    (there : s.unit? l n = some u) :
    let t := readingsClosed s
    let v := s.supplied l (s.trackedUnit l u)
    t.unit? l n = some v ∧
      v.prove = u.prove ∧ v.stop = u.stop ∧ v.run = u.run ∧ v.rest = u.rest ∧
      v.state = (match u.station.joined, v.station.values, u.state with
        | false, some x, .off => if x.proof then .running else .off
        | false, some x, .running => if x.proof then .running else .off
        | _, _, st => st) ∧
      (v.state = u.state → v.intent = u.intent) ∧
      (v.state ≠ u.state → v.intent = none ∧
        v.next = some ⟨if v.state = .running then .run else .stop, t.setpointFor l⟩ ∧
        (n ∈ (t.seq.ladder l).stack ↔ v.state = .running)) := by
  have tracked := judgedWork_tracked shadow held
  have mem := mem_turns_of_unit there small
  have unit := tracked.unit l n mem
  have stack := tracked.stack l n mem u there
  intro t v
  have vstate : v.state = (s.trackedUnit l u).state := supplied_state s l _
  have stands : t.unit? l n = some v := by
    rw [unit_readingsClosed_held held, unit, there]
    rfl
  have on_stack : n ∈ (t.seq.ladder l).stack ↔ n ∈ (s.judgedWork.seq.ladder l).stack := by
    rw [stack_readingsClosed_held held]
  obtain ⟨prove, stop, run, rest, station, state⟩ := trackedUnit_fields s l u
  have kept : v = { s.trackedUnit l u with next := v.next } := supplied_eq s l _
  have vstation : v.station = (s.heard l u).station := by rw [kept]; exact station
  refine ⟨stands, ?_, ?_, ?_, ?_, ?_, fun same => ?_, fun moved => ?_⟩
  · rw [kept]; exact prove
  · rw [kept]; exact stop
  · rw [kept]; exact run
  · rw [kept]; exact rest
  · rw [vstate, vstation]
    exact state
  · rw [vstate] at same
    have intent : (s.trackedUnit l u).intent = u.intent := trackedUnit_still same
    rw [kept]
    exact intent
  · rw [vstate] at moved
    obtain ⟨intent, next⟩ := trackedUnit_moved moved
    refine ⟨by rw [kept]; exact intent, ?_, ?_⟩
    · rw [vstate]
      exact supplied_next next
    · rw [on_stack, vstate]
      exact stack moved

end

/-- Settles O38: the expiries case by case, then the turns of both ladders at CYCLE_END. -/
theorem stopRunRestExpiries : Obligations.StopRunRestExpiries := by
  refine ⟨fun l n m a u s released lo hi unit => ⟨fun due stopping => ?_, fun due => ⟨fun stays => ?_,
    fun pending running top hold free live => ?_⟩, fun due resting => ?_, fun due moved => ?_, fun runs => ?_, fun runs => ?_,
    fun runs => ?_⟩, fun s due holds => ?_⟩
  · exact stopExpiry_trips released lo hi unit due stopping
  · exact runExpiry_rests released lo hi unit due stays
  · exact runExpiry_stops released lo hi unit due pending running top hold free live
  · exact restExpiry_off released lo hi unit due resting
  · exact restExpiry_idles released lo hi unit due moved
  · exact exec_expiry_of_not_ranOut (timer := (·.stop)) released lo hi unit runs
  · exact exec_expiry_of_not_ranOut (timer := (·.run)) released lo hi unit runs
  · exact exec_expiry_of_not_ranOut (timer := (·.rest)) released lo hi unit runs
  · intro judged flowLost
    have held : ∀ m, (endCycle s).closedWork.held m = true := fun m => by
      rw [held_closedWork, Bool.or_eq_true]
      exact holds m
    refine ⟨_, exec_cycleEnd_of_due due, fun ⟨live, lost⟩ serves => ?_, fun ⟨live, lost⟩ n u small unit => ?_,
      fun l n u small unit => ?_⟩
    · exact cycleEnd_flowNote (s := endCycle s) live held lost serves
    · exact ⟨_, cycleEnd_flowStop (s := endCycle s) live held lost small unit⟩
    · cases mode : s.fc.shadow with
      | false =>
        by_cases pump_or_stays : l = .pump ∨ s.PumpStays
        · obtain ⟨stands, shows⟩ := cycleEnd_judges (s := endCycle s) mode held small unit pump_or_stays
          exact ⟨_, stands, fun _ _ => shows, fun shadow => by cases shadow⟩
        · have framed := unit?_readingsClosed_frame (endCycle s) l n
          rw [show (endCycle s).unit? l n = some u from unit, Option.map_some, Option.map_eq_some_iff] at framed
          obtain ⟨v, stands, -⟩ := framed
          exact ⟨v, stands, fun _ able => absurd able pump_or_stays, fun shadow => by cases shadow⟩
      | true =>
        obtain ⟨stands, tracks⟩ := cycleEnd_tracks (s := endCycle s) mode held small unit
        exact ⟨_, stands, fun live => (by cases live), fun _ => tracks⟩

end Sys2Proof.Machine
